-- ==== Sys2Proof/Word.lean ====
section
/-! DEFINITION. Words, index types and fixed-size tables of the Harstel 7420.

Octets, sequence numbers and the other quantities the manual treats as bits are bit vectors.
Counts, pressures, times and indices are natural numbers or `Fin`.  A table of a fixed number of
entries (zone channels, heads, lines …) is a `Tab`. -/

namespace Sys2Proof

/-- One octet on the ring (1.5, "Octets"). -/
abbrev Octet := BitVec 8

/-- A 16-bit sequence number, stamp, check word or event detail. -/
abbrev Word16 := BitVec 16

/-- Heads H0 to H3 (1.5, "Indices"). -/
abbrev Head := Fin 4

/-- Zones 0 to 6 of one head; zone 0 is the retaining ring. -/
abbrev Zone := Fin 7

/-- Zone channels 7·h + z. -/
abbrev ZoneCh := Fin 28

/-- Platens 0 to 2. -/
abbrev Platen := Fin 3

/-- Dispense lines 0 to 3 within a platen. -/
abbrev Line := Fin 4

/-- Line indices p·4 + l. -/
abbrev LineIx := Fin 12

/-- Gauge and regulator channels 0 to 33 (1.6). -/
abbrev Chan := Fin 34

/-- A table of `n` entries of type `α`. -/
abbrev Tab (n : Nat) (α : Type) := Vector α n

/-- Entry `i` of a table. -/
def Tab.get {n : Nat} {α : Type} (t : Tab n α) (i : Fin n) : α := t[i.val]

/-- The table with entry `i` replaced by `x`. -/
def Tab.upd {n : Nat} {α : Type} (t : Tab n α) (i : Fin n) (x : α) : Tab n α :=
  Vector.set t i.val x

/-- The table whose every entry is `x`. -/
def Tab.all (n : Nat) {α : Type} (x : α) : Tab n α := Vector.replicate n x

/-- Every entry of the table passed through `f`. -/
def Tab.mapT {n : Nat} {α β : Type} (f : α → β) (t : Tab n α) : Tab n β :=
  ⟨(t.toArray.toList.map f).toArray, by simp⟩

/-- The table whose entry `i` is `f i`. -/
def Tab.ofFn {n : Nat} {α : Type} (f : Fin n → α) : Tab n α :=
  ⟨((List.finRange n).map f).toArray, by simp⟩

/-- The entries in ascending index order. -/
def Tab.entries {n : Nat} {α : Type} (t : Tab n α) : List α := t.toArray.toList

/-- Zone channel 7·h + z (1.5). -/
def zoneCh (h : Head) (z : Zone) : ZoneCh := ⟨7 * h.val + z.val, by omega⟩

/-- The head of a zone channel, c div 7 (R42). -/
def headOfZone (c : ZoneCh) : Head := ⟨c.val / 7, by omega⟩

/-- Line index p·4 + l (1.5). -/
def lineIx (p : Platen) (l : Line) : LineIx := ⟨4 * p.val + l.val, by omega⟩

/-- The platen of a line index. -/
def platenOfLine (i : LineIx) : Platen := ⟨i.val / 4, by omega⟩

/-- The line within its platen of a line index. -/
def lineOfLine (i : LineIx) : Line := ⟨i.val % 4, by omega⟩

/-- The gauge and regulator channel of a zone channel (1.6). -/
def chanOfZone (c : ZoneCh) : Chan := ⟨c.val, by omega⟩

/-- Channel 28 + p: conditioner position of platen p (1.6). -/
def positionChan (p : Platen) : Chan := ⟨28 + p.val, by omega⟩

/-- Channel 31 + p: conditioner force of platen p (1.6). -/
def forceChan (p : Platen) : Chan := ⟨31 + p.val, by omega⟩

end Sys2Proof
end

