-- ==== Sys2Proof/Syntax.lean ====
section
/-! DEFINITION. The records the commands carry and the commands themselves: one constructor of
`Instr` for each row of spec/opcode_table.json.

A row of the table is one step of the part.  Its operands are what arrives with that step: the
octets of a header, a whole cell, the fields of a decoded table record, the number of the head,
platen or line that takes the event. -/

namespace Sys2Proof

/-- Direction of a map entry (Table 8-1). -/
inductive Dir where
  | take | give
  deriving DecidableEq, Repr

/-- The cell object catalogue (R129, Table 8-2), in catalogue order. -/
inductive ObjClass where
  | headCommand | headEndpoint | zoneTrim | dockCommand | conditionerCommand
  | headStatus | zoneSetpoint | zoneFeedback | lineDelivered | platenStatus
  | inputs | deviceStatus
  deriving DecidableEq, Repr

/-- Pressure range of a zone (Table 3-1). -/
inductive PressureRange where
  | fine | coarse
  deriving DecidableEq, Repr

/-- Band action of a zone (Table 3-1, R27). -/
inductive BandAction where
  | report | hold | safe
  deriving DecidableEq, Repr

/-- How a step ends (Table 1-6). -/
inductive EndKind where
  | duration | endpoint | settled
  deriving DecidableEq, Repr

/-- The conditioner field of a step record (Table 1-6). -/
inductive StepCond where
  | none | sweep | park
  deriving DecidableEq, Repr

/-- Flow action of a dispense line (Table 6-1). -/
inductive FlowAction where
  | report | safeHead
  deriving DecidableEq, Repr

/-- Function code of a discrete input (R174). -/
inductive InputFn where
  | none | estop | airLow | supplyLow | condOverload
  deriving DecidableEq, Repr

/-- Mode of a discrete input (R174). -/
inductive InputMode where
  | level | latched
  deriving DecidableEq, Repr

/-- Mode of a dispense order (Table 6-4). -/
inductive OrderMode where
  | single | burst
  deriving DecidableEq, Repr

/-- Source of a dispense order (Table 6-4). -/
inductive OrderSource where
  | step (h : Head) | idleWet | direct
  deriving DecidableEq, Repr

/-- The five verified groups of tables (Table 10-5). -/
inductive Group where
  | cellmap | program | zone | line | sweep
  deriving DecidableEq, Repr

/-- The eight tables management can read and write (Table 13-5). -/
inductive TableId where
  | cellmap | programDir | step | zone | line | profile | segment | input
  deriving DecidableEq, Repr

/-- Scope of a management reset (R161). -/
inductive Scope where
  | state | all
  deriving DecidableEq, Repr

/-- The 25 event kinds in the order of Table 12-1, which numbers them (R190). -/
inductive EventKind where
  | safeHoldEntered | overpressure | cadenceLost | tableFault
  | bandExcursion | gaugeStale | flowFault | condFault | stepTimeout | cmdRefused | inputChange
  | writeDropped | missingCell | cadenceViolation | cadenceRegained | saturated | frameDiscarded
  | cellFault | gaugeError | orderDropped
  | programDone | orderEnded | idleWet | tableVerified | resetDone
  deriving DecidableEq, Repr

/-- Source of an event (Table 12-2, Table 13-8). -/
inductive Source where
  | device | ring | gaugePort
  | head (h : Head) | zone (c : ZoneCh) | platen (p : Platen) | line (i : LineIx)
  | conditioner (p : Platen) | input (i : Fin 16) | group (g : Group) | mapEntry (e : Fin 128)
  deriving DecidableEq, Repr

/-- Cell Map entry (Table 8-1; the seen mark is kept apart, in the Cell Map's running state). -/
structure MapEntry where
  valid : Bool
  tag : Word16
  dir : Dir
  cls : ObjClass
  inst : Octet
  required : Bool
  deriving DecidableEq, Repr

/-- Program Directory entry (Table 1-5). -/
structure DirEntry where
  valid : Bool
  first : Nat
  count : Nat
  deriving DecidableEq, Repr

/-- Step record (Table 1-6).  A field the table marks unused for the record's end kind, or for an
absent dispense part, is kept as written (R5, R189), so those fields hold raw octets. -/
structure StepRecord where
  valid : Bool
  targets : Tab 7 Nat
  ringRate : Nat
  membraneRate : Nat
  trimLimit : Nat
  band : Nat
  settleMask : Nat
  endKind : EndKind
  endCount : Nat
  maxCycles : Nat
  timeoutAction : Octet
  dispense : Bool
  line : Octet
  count : Nat
  mode : Octet
  conditioner : StepCond
  profile : Octet
  deriving DecidableEq, Repr

/-- Zone Config entry (Table 3-1). -/
structure ZoneConfig where
  valid : Bool
  range : PressureRange
  floor : Nat
  ceiling : Nat
  safeValue : Nat
  safeRate : Nat
  opLimit : Nat
  opDebounce : Nat
  diffLimit : Nat
  bandAction : BandAction
  bandDebounce : Nat
  staleLimit : Nat
  averaging : Nat
  deriving DecidableEq, Repr

/-- Line Config entry (Table 6-1). -/
structure LineConfig where
  valid : Bool
  enabled : Bool
  strokePeriod : Nat
  flowWindow : Nat
  missLimit : Nat
  flowAction : FlowAction
  deriving DecidableEq, Repr

/-- Sweep profile entry (Table 7-1). -/
structure ProfileEntry where
  valid : Bool
  first : Nat
  count : Nat
  repeats : Nat
  reachBand : Nat
  reachTimeout : Nat
  deriving DecidableEq, Repr

/-- Segment record (R113). -/
structure SegmentRecord where
  valid : Bool
  position : Nat
  downforce : Nat
  dwell : Nat
  deriving DecidableEq, Repr

/-- INPUT table entry (R174).  `platen` and `line` are kept as written where the function gives
them no meaning (R189).  `polarity` is the raw level that counts as asserted, `true` for HIGH. -/
structure InputConfig where
  valid : Bool
  fn : InputFn
  platen : Octet
  line : Octet
  polarity : Bool
  mode : InputMode
  filter : Nat
  deriving DecidableEq, Repr

/-- A HEAD_COMMAND or CONDITIONER_COMMAND value (Table 13-3). -/
structure CommandValue where
  code : Octet
  arg : Octet
  seq : Word16
  deriving DecidableEq, Repr

/-- A DOCK_COMMAND value (5.2): head code, spare octet, sequence. -/
structure DockValue where
  code : Octet
  spare : Octet
  seq : Word16
  deriving DecidableEq, Repr

/-- What one head's cycle delivery carries (R153); any part may be absent. -/
structure Delivery where
  command : Option CommandValue
  endpoint : Option Nat
  trims : Tab 7 (Option Int)
  deriving DecidableEq, Repr

/-- An offer of an order (R97). -/
structure Offer where
  source : OrderSource
  line : Line
  count : Nat
  mode : OrderMode
  deriving DecidableEq, Repr

/-- A conditioner command handed by a head at step start (R122). -/
inductive StepCommand where
  | sweep (k : Octet) | park
  deriving DecidableEq, Repr

/-- A gauge word as it arrives (R61): the bits between its start and stop marks, in order of
transmission, and whether the stop mark was there. -/
structure GaugeBits where
  bits : List Bool
  stop : Bool
  deriving DecidableEq, Repr

/-- A cell as it stands on the ring (Table 13-1).  Its length octet is the length of `payload`. -/
structure Cell where
  kind : Octet
  flags : Octet
  tag : Word16
  payload : List Octet
  deriving DecidableEq, Repr

/-- The header of a management cell: its flags and its tag, whose low octet is the node number
and whose high octet is the tool controller's request number (R186). -/
structure MgmtHead where
  flags : Octet
  tag : Word16
  deriving DecidableEq, Repr

/-- What follows the octets of a frame that is ending (Table 9-2): a symbol, or nothing where the
octets themselves end it. -/
inductive FrameTail where
  | endSymbol | abortSymbol | idleSymbol | nothing
  deriving DecidableEq, Repr

/-- The commands: one constructor for each row of spec/opcode_table.json, in the table's order. -/
inductive Instr where
  /-- POWER_ON_RESET: reset input or rise of supply, with the levels of the five node straps. -/
  | powerOnReset (straps : BitVec 5)
  /-- SYMBOL_LOCK_GAINED on port A. -/
  | symbolLockGained
  /-- LOSS_OF_SIGNAL, or of symbol lock, on port A. -/
  | lossOfSignal
  /-- FRAME_START: a start symbol, and the octets that follow it before the first cell. -/
  | frameStart (octets : List Octet)
  /-- FRAME_GOOD_END: FCS octets and an end symbol, taken at tick phase `phase` (µs). -/
  | frameGoodEnd (octets : List Octet) (phase : Fin 1000)
  /-- FRAME_BAD_END: the octets since the last complete part of the frame, and what ends it. -/
  | frameBadEnd (octets : List Octet) (tail : FrameTail)
  /-- TAKE: a cell in passage whose tag a TAKE entry holds. -/
  | take (cell : Cell)
  /-- GIVE: a cell in passage whose tag a GIVE entry holds. -/
  | give (cell : Cell)
  /-- SLOT_FILL: a SLOT cell in passage. -/
  | slotFill (cell : Cell)
  /-- READ request cell: header, and the payload after the request code. -/
  | read (head : MgmtHead) (body : List Octet)
  /-- WRITE request cell. -/
  | write (head : MgmtHead) (body : List Octet)
  /-- ERASE request cell. -/
  | erase (head : MgmtHead) (body : List Octet)
  /-- VERIFY request cell. -/
  | verify (head : MgmtHead) (body : List Octet)
  /-- SET request cell. -/
  | set (head : MgmtHead) (body : List Octet)
  /-- STATUS request cell. -/
  | status (head : MgmtHead) (body : List Octet)
  /-- DISPENSE request cell. -/
  | dispense (head : MgmtHead) (body : List Octet)
  /-- STOP_LINE request cell. -/
  | stopLine (head : MgmtHead) (body : List Octet)
  /-- CLEAR_INPUT request cell. -/
  | clearInput (head : MgmtHead) (body : List Octet)
  /-- RESET request cell. -/
  | reset (head : MgmtHead) (body : List Octet)
  /-- CYCLE_DELIVERY: head `h` takes its cycle delivery. -/
  | cycleDelivery (h : Head) (d : Delivery)
  /-- START(p): a new command for head `h` under sequence `seq`. -/
  | start (h : Head) (program : Octet) (seq : Word16)
  /-- PAUSE, new, for head `h`. -/
  | pause (h : Head) (seq : Word16)
  /-- RESUME, new, for head `h`. -/
  | resume (h : Head) (seq : Word16)
  /-- SKIP, new, for head `h`. -/
  | skip (h : Head) (seq : Word16)
  /-- ABORT, new, for head `h`. -/
  | abort (h : Head) (seq : Word16)
  /-- CLEAR, new, for head `h`. -/
  | clear (h : Head) (seq : Word16)
  /-- NOP, new, for head `h`. -/
  | nop (h : Head) (seq : Word16)
  /-- PROGRAM_RELEASE from head `h`. -/
  | programRelease (h : Head)
  /-- OVERPRESSURE_NOTICE at head `h`. -/
  | overpressureNotice (h : Head)
  /-- CADENCE_LOST_NOTICE at head `h`. -/
  | cadenceLostNotice (h : Head)
  /-- ESTOP_NOTICE_HEAD at head `h`. -/
  | estopNoticeHead (h : Head)
  /-- TABLE_FAILED_NOTICE at head `h`. -/
  | tableFailedNotice (h : Head)
  /-- FLOW_FAULT_NOTICE at head `h`. -/
  | flowFaultNotice (h : Head)
  /-- TICK: the 1 ms tick. -/
  | tick
  /-- REGULATOR_REFRESH. -/
  | regulatorRefresh
  /-- REGULATOR_WORD_DONE. -/
  | regulatorWordDone
  /-- GAUGE_WORD: a gauge word arrives. -/
  | gaugeWord (w : GaugeBits)
  /-- GAUGE_STALE at the filter of channel `c`. -/
  | gaugeStale (c : Chan)
  /-- DOCK_DELIVERY for platen `p`. -/
  | dockDelivery (p : Platen) (v : DockValue)
  /-- DOCK_COMMAND_HEAD: a new dock command with a head code. -/
  | dockCommandHead (p : Platen) (code : Octet) (seq : Word16)
  /-- DOCK_COMMAND_NONE: a new dock command with NONE. -/
  | dockCommandNone (p : Platen) (seq : Word16)
  /-- CYCLE_NOTICE of head `h` at platen `p`. -/
  | cycleNotice (p : Platen) (h : Head)
  /-- IDLE_TIMER_RELOAD of platen `p`. -/
  | idleTimerReload (p : Platen)
  /-- IDLE_EXPIRY of platen `p`. -/
  | idleExpiry (p : Platen)
  /-- ORDER_OFFER at the dispense engine of platen `p`. -/
  | orderOffer (p : Platen) (o : Offer)
  /-- BURST_STROKE of line `l` of platen `p`. -/
  | burstStroke (p : Platen) (l : Line)
  /-- OWED_STROKE of line `l` of platen `p`. -/
  | owedStroke (p : Platen) (l : Line)
  /-- FLOW_PULSE of line `l` of platen `p`. -/
  | flowPulse (p : Platen) (l : Line)
  /-- FLOW_WINDOW_CLOSE of line `l` of platen `p`. -/
  | flowWindowClose (p : Platen) (l : Line)
  /-- STEP_END_NOTICE from head `h` at platen `p`. -/
  | stepEndNotice (p : Platen) (h : Head)
  /-- HEAD_SAFE_NOTICE from head `h` at the dispense engine of platen `p`. -/
  | headSafeNotice (p : Platen) (h : Head)
  /-- ESTOP_NOTICE_DISPENSE at the dispense engine of platen `p`. -/
  | estopNoticeDispense (p : Platen)
  /-- SUPPLY_LOW_NOTICE for line `l` at the dispense engine of platen `p`. -/
  | supplyLowNotice (p : Platen) (l : Line)
  /-- LINE_GROUP_FAILED_NOTICE at the dispense engine of platen `p`. -/
  | lineGroupFailedNotice (p : Platen)
  /-- STOP_LINE_APPLY for line `l` of platen `p`. -/
  | stopLineApply (p : Platen) (l : Line)
  /-- CONDITIONER_COMMAND_DELIVERY for conditioner `p`. -/
  | conditionerCommandDelivery (p : Platen) (v : CommandValue)
  /-- SWEEP(k), new, for conditioner `p`. -/
  | sweep (p : Platen) (k : Octet) (seq : Word16)
  /-- PARK, new, for conditioner `p`. -/
  | park (p : Platen) (seq : Word16)
  /-- CLEAR_FAULT, new, for conditioner `p`. -/
  | clearFault (p : Platen) (seq : Word16)
  /-- OVERLOAD_ACK, new, for conditioner `p`. -/
  | overloadAck (p : Platen) (seq : Word16)
  /-- STEP_CONDITIONER_COMMAND of the docked head at conditioner `p`. -/
  | stepConditionerCommand (p : Platen) (c : StepCommand)
  /-- PARK_REQUEST at conditioner `p`. -/
  | parkRequest (p : Platen)
  /-- POSITION_UPDATE: feedback `fb` handed to conditioner `p`. -/
  | positionUpdate (p : Platen) (fb : Nat)
  /-- REACH_TIMEOUT of conditioner `p`. -/
  | reachTimeout (p : Platen)
  /-- DWELL_END of conditioner `p`. -/
  | dwellEnd (p : Platen)
  /-- PARK_TIMEOUT of conditioner `p`. -/
  | parkTimeout (p : Platen)
  /-- COND_OVERLOAD_NOTICE at conditioner `p`. -/
  | condOverloadNotice (p : Platen)
  /-- ESTOP_NOTICE_CONDITIONER at conditioner `p`. -/
  | estopNoticeConditioner (p : Platen)
  /-- PROGRAM_DIR_WRITE_APPLY. -/
  | programDirWriteApply (i : Fin 16) (e : DirEntry)
  /-- PROGRAM_DIR_ERASE_APPLY. -/
  | programDirEraseApply (i : Fin 16)
  /-- STEP_WRITE_APPLY. -/
  | stepWriteApply (i : Fin 96) (r : StepRecord)
  /-- STEP_ERASE_APPLY. -/
  | stepEraseApply (i : Fin 96)
  /-- ZONE_WRITE_APPLY. -/
  | zoneWriteApply (c : ZoneCh) (e : ZoneConfig)
  /-- ZONE_ERASE_APPLY. -/
  | zoneEraseApply (c : ZoneCh)
  /-- LINE_WRITE_APPLY. -/
  | lineWriteApply (i : LineIx) (e : LineConfig)
  /-- LINE_ERASE_APPLY. -/
  | lineEraseApply (i : LineIx)
  /-- PROFILE_WRITE_APPLY. -/
  | profileWriteApply (k : Fin 8) (e : ProfileEntry)
  /-- PROFILE_ERASE_APPLY. -/
  | profileEraseApply (k : Fin 8)
  /-- SEGMENT_WRITE_APPLY. -/
  | segmentWriteApply (i : Fin 96) (r : SegmentRecord)
  /-- SEGMENT_ERASE_APPLY. -/
  | segmentEraseApply (i : Fin 96)
  /-- CELLMAP_WRITE_APPLY. -/
  | cellmapWriteApply (i : Fin 128) (e : MapEntry)
  /-- CELLMAP_ERASE_APPLY. -/
  | cellmapEraseApply (i : Fin 128)
  /-- INPUT_WRITE_APPLY. -/
  | inputWriteApply (i : Fin 16) (e : InputConfig)
  /-- INPUT_ERASE_APPLY. -/
  | inputEraseApply (i : Fin 16)
  /-- WRITE_NOTICE for group `g`. -/
  | writeNotice (g : Group)
  /-- VERIFY_APPLY of group `g` with check word `w`. -/
  | verifyApply (g : Group) (w : Word16)
  /-- SCAN_COMPLETE of group `g`. -/
  | scanComplete (g : Group)
  /-- RESCAN_COMPLETE of group `g`. -/
  | rescanComplete (g : Group)
  /-- SET_CADENCE: period, early limit, late limit (µs) and violation limit. -/
  | setCadence (period early late limit : Nat)
  /-- SET_VERIFY_BEFORE_RUN. -/
  | setVerifyBeforeRun (on : Bool)
  /-- SET_EXPRESS_A. -/
  | setExpressA (k : Option EventKind)
  /-- SET_EXPRESS_B. -/
  | setExpressB (k : Option EventKind)
  /-- SET_EVENT_KIND: level and enable of kind `k`. -/
  | setEventKind (k : EventKind) (level : Fin 4) (enable : Bool)
  /-- SET_IDLE_INTERVAL of platen `p`, in seconds. -/
  | setIdleInterval (p : Platen) (v : Nat)
  /-- SET_IDLE_LINE of platen `p`. -/
  | setIdleLine (p : Platen) (l : Line)
  /-- SET_IDLE_COUNT of platen `p`. -/
  | setIdleCount (p : Platen) (v : Nat)
  /-- SET_PARK_POSITION of platen `p`. -/
  | setParkPosition (p : Platen) (v : Nat)
  /-- SET_PARK_BAND of platen `p`. -/
  | setParkBand (p : Platen) (v : Nat)
  /-- SET_PARK_TIMEOUT of platen `p`. -/
  | setParkTimeout (p : Platen) (v : Nat)
  /-- RESET_APPLY at the Ring Interface. -/
  | resetApply (scope : Scope)
  /-- TRANSPARENT_PERIOD_END. -/
  | transparentPeriodEnd
  /-- CYCLE_FRAME_NOTICE with the microsecond count at the frame's end symbol. -/
  | cycleFrameNotice (us : BitVec 32)
  /-- CADENCE_LATE_EXPIRY. -/
  | cadenceLateExpiry
  /-- REQUIRED_ENTRY_JUDGEMENT with the set of entries whose slots the frame filled. -/
  | requiredEntryJudgement (filled : List (Fin 128))
  /-- INPUT_LEVEL_CHANGE: the raw level of input `i` becomes `level`. -/
  | inputLevelChange (i : Fin 16) (level : Bool)
  /-- INPUT_FILTER_SETTLED for input `i`. -/
  | inputFilterSettled (i : Fin 16)
  /-- CLEAR_INPUT_APPLY for input `i`. -/
  | clearInputApply (i : Fin 16)
  /-- EVENT_RAISE: kind, source and two details reach the Event Queue. -/
  | eventRaise (k : EventKind) (src : Source) (detail1 detail2 : Word16)
  /-- EVENT_RELEASE of the records in flight in frame number `frame`. -/
  | eventRelease (frame : Nat)
  /-- EVENT_RETURN of the records in flight in frame number `frame`. -/
  | eventReturn (frame : Nat)
  /-- UNKNOWN_REQUEST_CODE: a MGMT cell whose payload has an unknown request code or is empty. -/
  | unknownRequestCode (head : MgmtHead) (payload : List Octet)
  deriving DecidableEq, Repr

end Sys2Proof
end

