-- ==== Sys2Proof/Decode.lean ====
section
/-! DEFINITION. The command that a word spells by the bits of spec/opcode_table.json.  No row of
that table gives bits: what arrives at the 7420 is symbols, words and levels at its ports, and
events between its blocks. -/

namespace Sys2Proof

/-- The command a word of `nbits` bits spells: none, for no row of the table has bits
(DESIGN CHOICE, log entry 1). -/
def decodeTableWord (_nbits _w : Nat) : Option Instr := none

end Sys2Proof
end

