-- ==== Sys2Proof/Config.lean ====
section
/-! DEFINITION. Free values: what the manual leaves open while the machine goes on.

Each is an opaque constant: no proof can see its value. -/

namespace Sys2Proof

/-- The second detail of a TABLE_VERIFIED event.  R164 gives detail1 only, and no rule states
detail2.  Applied to the model's counter `State.free`, so that each raise has a fresh value
(DESIGN CHOICE, log entry 5). -/
opaque Config.tableVerifiedDetail2 : Nat → BitVec 16

end Sys2Proof
end

