-- ==== Sys2Proof/Machine/Records.lean ====
section
/-! DEFINITION. The erased table records (zeros in every field) and the default event levels. -/

namespace Sys2Proof

/-- An invalid map entry: zeros in every field (R128). -/
def MapEntry.erased : MapEntry := ⟨false, 0, .take, .headCommand, 0, false⟩

/-- An invalid directory entry (R5). -/
def DirEntry.erased : DirEntry := ⟨false, 0, 0⟩

/-- An invalid step record (R5). -/
def StepRecord.erased : StepRecord :=
  ⟨false, Tab.all 7 0, 0, 0, 0, 0, 0, .duration, 0, 0, 0, false, 0, 0, 0, .none, 0⟩

/-- An invalid Zone Config entry: zeros in every field (R43). -/
def ZoneConfig.erased : ZoneConfig := ⟨false, .fine, 0, 0, 0, 0, 0, 0, 0, .report, 0, 0, 0⟩

/-- An invalid Line Config entry (R91). -/
def LineConfig.erased : LineConfig := ⟨false, false, 0, 0, 0, .report⟩

/-- An invalid profile entry (R112). -/
def ProfileEntry.erased : ProfileEntry := ⟨false, 0, 0, 0, 0, 0⟩

/-- An invalid segment record (R113). -/
def SegmentRecord.erased : SegmentRecord := ⟨false, 0, 0, 0⟩

/-- An invalid INPUT entry: zeros, so function NONE, polarity LOW, mode LEVEL, filter 0 (R174). -/
def InputConfig.erased : InputConfig := ⟨false, .none, 0, 0, false, .level, 0⟩

/-- The default level of the kind numbered `i`, by the order of Table 12-1. -/
def defaultLevel (i : Nat) : Fin 4 :=
  if i < 4 then 3 else if i < 11 then 2 else if i < 20 then 1 else 0

end Sys2Proof
end

