-- ==== Sys2Proof/Machine/State.lean ====
section
/-! DEFINITION. The state of the 7420: every record, table, queue, counter, mark and mode that the
manual's blocks own (Table 1-2 "Blocks", and the state tables of each chapter), the queue of
commands from outside, the hand-overs between blocks that are waiting to be taken, and what has
left on the output ports.  All of it is plain data. -/

namespace Sys2Proof.Machine

open Sys2Proof

/-- Reasons the machine itself stops.  The manual gives every step of the 7420 a next state, so
there is none, and no step answers with a fault. -/
inductive Fault where
  deriving DecidableEq, Repr

/-- Reasons a command has no meaning in the model. -/
inductive Refusal where
  /-- The command is not modelled.  Raised by no arm of `exec`: every row of the table has its
  meaning.  Safe: it would only stop the model. -/
  | notModelled (mnemonic : String)
  deriving DecidableEq, Repr

/-! ### Ring Interface (chapter 9) -/

/-- Link state of port A (R144). -/
inductive LinkState where
  | down | sync | up
  deriving DecidableEq, Repr

/-- Reception state (Table 9-1, Table 9-2). -/
inductive Reception where
  | between | header | cells | check | endWait | ignoring
  deriving DecidableEq, Repr

/-- Frame kind (Table 13-1). -/
inductive FrameKind where
  | cycle | async
  deriving DecidableEq, Repr

/-- What leaves on port B (R145). -/
inductive PortSymbol where
  | startSymbol | octet (o : Octet) | endSymbol | abortSymbol | idleSymbol
  deriving DecidableEq, Repr

/-- A value taken into a staging slot, with the object instance of its entry at the take (R135). -/
structure Taken where
  cls : ObjClass
  inst : Octet
  payload : List Octet
  deriving DecidableEq, Repr

/-- Context of the frame in passage (Table 9-1).  `octets` is the octet count; `buf` holds the
octets received so far of the header, cell or FCS in progress; `fcsOk` is the comparison made at
the fourth FCS octet (R149); `ordinal` numbers the frame, so that records in flight can name the
frame that carries them (R183). -/
structure FrameContext where
  kind : FrameKind
  cellCount : Nat
  seq : Word16
  cellsParsed : Nat
  octets : Nat
  rxCrc : BitVec 32
  txCrc : BitVec 32
  buf : List Octet
  fcsOk : Bool
  ordinal : Nat
  deriving DecidableEq, Repr

/-- Ring Interface and Management Responder staging (Table 9-1, R135, R154).  `through` marks a
frame that is forwarded untouched because it began, or was in passage, under the transparent mark
(R155).  `resetFrame` names the frame that carried the RESET of the transparent period (R162). -/
structure Ring where
  node : BitVec 5
  link : LinkState
  reception : Reception
  frame : FrameContext
  transparent : Bool
  scope : Scope
  resetTicks : Nat
  resetFrame : Option Nat
  through : Bool
  lastGood : Word16
  goodCount : BitVec 32
  badCount : BitVec 32
  takeSlots : Tab 128 (Option Taken)
  mgmtSlots : List Instr
  deriving DecidableEq, Repr

/-! ### Cell Map (chapter 8) -/

/-- Cell Map: entries and seen marks (R128), and the ten learned sequences (R139). -/
structure CellMap where
  entries : Tab 128 MapEntry
  seen : Tab 128 Bool
  learnedHead : Tab 4 (Option Word16)
  learnedDock : Tab 3 (Option Word16)
  learnedCond : Tab 3 (Option Word16)
  deriving DecidableEq, Repr

/-! ### Program Store (chapter 1) -/

/-- Program Store: directory (R1), step records (R3) and claim table (R7). -/
structure ProgramStore where
  dir : Tab 16 DirEntry
  steps : Tab 96 StepRecord
  claims : Tab 4 (Option (Fin 16))
  deriving DecidableEq, Repr

/-! ### Head engines and zone channels (chapters 2, 3 and 4) -/

/-- Head state (Table 2-2). -/
inductive HeadState where
  | idle | running | paused | done | safeHold
  deriving DecidableEq, Repr

/-- Head substate (Table 2-1). -/
inductive HeadSubstate where
  | none | settling | settled
  deriving DecidableEq, Repr

/-- Safe cause (Table 2-1). -/
inductive SafeCause where
  | none | aborted | overpressure | excursion | stepTimeout | cadenceLost | estop | tableFailed
  | flowFault
  deriving DecidableEq, Repr

/-- Outcomes a head records (R19). -/
inductive HeadOutcome where
  | none | learned | accepted | same
  | notIdle | notRunning | notPaused | busy | notSettled | badCommand | notDocked | badProgram
  | gated | cadence | estop | airLow
  deriving DecidableEq, Repr

/-- Head record (Table 2-1). -/
structure HeadRecord where
  state : HeadState
  substate : HeadSubstate
  program : Option (Fin 16)
  stepIndex : Nat
  context : Option StepRecord
  cycleCount : Nat
  skip : Bool
  settledRun : Nat
  endpoint : Option Nat
  latch : Option Nat
  trims : Tab 7 Int
  cause : SafeCause
  lastSeq : Word16
  lastOutcome : HeadOutcome
  deriving DecidableEq, Repr

/-- Zone channel: Zone Config entry (R42), arithmetic state (Table 3-5), band monitor (R70) and
overpressure monitor (R76). -/
structure ZoneChannel where
  config : ZoneConfig
  setpoint : Nat
  code : Nat
  ramping : Bool
  settle : Nat
  diffLimited : Bool
  saturated : Bool
  debounce : Nat
  excursion : Bool
  monitorStale : Bool
  opCount : Nat
  opMark : Bool
  deriving DecidableEq, Repr

/-! ### Gauge Port filters and Regulator Port (chapters 4 and 3) -/

/-- Feedback filter (Table 4-3). -/
structure Filter where
  sum : Nat
  count : Nat
  feedback : Nat
  age : Nat
  stale : Bool
  deriving DecidableEq, Repr

/-- Regulator Port (R59): last transmitted codes, pending marks, ticks since the last refresh and
the channel whose word is being sent. -/
structure RegulatorPort where
  last : Tab 34 Nat
  pending : Tab 34 Bool
  refresh : Nat
  inHand : Option Chan
  deriving DecidableEq, Repr

/-- A regulator word as sent, its first bit the most significant: six channel bits, twelve code bits
and the parity bit (R59, Table 4-1). -/
abbrev RegulatorWord := BitVec 19

/-! ### Dock Table and idle timers (chapter 5) -/

/-- Outcomes a platen records (R80). -/
inductive DockOutcome where
  | none | learned | accepted | same | badCommand | platenTaken | headBusy
  deriving DecidableEq, Repr

/-- Dock Table entry with the last dock sequence and outcome (R79). -/
structure DockEntry where
  docked : Option Head
  lastSeq : Word16
  lastOutcome : DockOutcome
  deriving DecidableEq, Repr

/-- Idle timer and idle settings of one platen (R86). -/
structure IdleTimer where
  seconds : Nat
  millis : Nat
  interval : Nat
  line : Line
  count : Nat
  deriving DecidableEq, Repr

/-! ### Slurry dispense (chapter 6) -/

/-- Order record (Table 6-4).  `active` is the state ACTIVE, its absence QUEUED. -/
structure Order where
  ordinal : BitVec 8
  source : OrderSource
  line : Line
  count : Nat
  mode : OrderMode
  strokes : Nat
  active : Bool
  deriving DecidableEq, Repr

/-- Order queue of one platen, oldest first, and its next ordinal (R95). -/
structure DispenseQueue where
  orders : List Order
  nextOrdinal : BitVec 8
  deriving DecidableEq, Repr

/-- An open flow window (Table 6-6). -/
structure FlowWindow where
  remaining : Nat
  credited : Bool
  deriving DecidableEq, Repr

/-- Line Config entry (R91) and stroke state of one line (Table 6-6). -/
structure LineState where
  config : LineConfig
  elapsed : Nat
  owed : Bool
  window : Option FlowWindow
  miss : Nat
  delivered : BitVec 32
  deriving DecidableEq, Repr

/-! ### Pad conditioning (chapter 7) -/

/-- Conditioner state (R116). -/
inductive CondState where
  | parked | sweeping | parking | faulted
  deriving DecidableEq, Repr

/-- Conditioner substate (R116). -/
inductive CondSubstate where
  | none | reaching | dwelling
  deriving DecidableEq, Repr

/-- Conditioner fault cause (R116). -/
inductive CondFaultCause where
  | none | overload | reachTimeout
  deriving DecidableEq, Repr

/-- Outcomes a conditioner records (R120). -/
inductive CondOutcome where
  | none | learned | accepted | same
  | badCommand | badProfile | gated | estop | overloadActive | faulted | notFaulted
  deriving DecidableEq, Repr

/-- Conditioner record (Table 7-4) and the platen's three park settings (R116). -/
structure Conditioner where
  state : CondState
  substate : CondSubstate
  override : Bool
  cause : CondFaultCause
  profile : Option (Fin 8)
  segment : Nat
  passes : Nat
  pendingProfile : Option (Fin 8)
  target : Nat
  timer : Nat
  posOut : Nat
  forceOut : Nat
  lastSeq : Word16
  lastOutcome : CondOutcome
  parkPosition : Nat
  parkBand : Nat
  parkTimeout : Nat
  deriving DecidableEq, Repr

/-! ### Cadence Monitor and Discrete Input Unit (chapter 11) -/

/-- Cadence state (Table 11-1). -/
inductive CadenceState where
  | unarmed | locked | lost
  deriving DecidableEq, Repr

/-- Cadence Monitor (Table 11-1) with the CADENCE setting (R170).  `timer` is the expiry time of
the late timer, absent while it is stopped. -/
structure Cadence where
  state : CadenceState
  violations : Nat
  regain : Nat
  lastEnd : Option (BitVec 32)
  timer : Option (BitVec 32)
  expired : Bool
  period : Nat
  early : Nat
  late : Nat
  limit : Nat
  deriving DecidableEq, Repr

/-- One discrete input: configuration (R174), raw level on its pin, filtered level, stability
count and latch (R175).  A level is `true` for HIGH. -/
structure InputUnit where
  config : InputConfig
  raw : Bool
  filtered : Bool
  stability : Nat
  latch : Bool
  deriving DecidableEq, Repr

/-! ### Table Verifier (chapter 10) -/

/-- Group state (R163). -/
inductive GroupState where
  | unverified | verifying | verified | failed
  deriving DecidableEq, Repr

/-- One group at the Table Verifier: state, check word and scan context (position in the image,
CRC register so far, and ticks since the scan or rescan began) (R163). -/
structure GroupRecord where
  state : GroupState
  check : Word16
  position : Nat
  crc : BitVec 16
  ticks : Nat
  deriving DecidableEq, Repr

/-- Table Verifier: the five groups and the verify-before-run setting (R160, R163). -/
structure Verifier where
  cellmap : GroupRecord
  program : GroupRecord
  zone : GroupRecord
  line : GroupRecord
  sweep : GroupRecord
  vbr : Bool
  deriving DecidableEq, Repr

/-! ### Event Queue (chapter 12) -/

/-- Event record (Table 12-2).  `rank` is 0 to 3 for a level, 4 for express B and 5 for express A.
`flight` names the frame that carries the record IN_FLIGHT; it is absent while QUEUED. -/
structure EventRecord where
  kind : EventKind
  rank : Nat
  source : Source
  detail1 : Word16
  detail2 : Word16
  stamp : Word16
  repeats : Nat
  lost : Nat
  flight : Option Nat
  deriving DecidableEq, Repr

/-- Level and enable of one event kind (R179). -/
structure KindSetting where
  level : Fin 4
  enable : Bool
  deriving DecidableEq, Repr

/-- Event Queue (R179): records in age order, oldest first, lost count, and its settings. -/
structure EventQueue where
  records : List EventRecord
  lost : Nat
  kinds : Tab 25 KindSetting
  expressA : Option EventKind
  expressB : Option EventKind
  deriving DecidableEq, Repr

/-! ### Frame hand-overs -/

/-- A hand-over of a good frame end that its owner has not taken, with the frame it is of (R152). -/
structure HandOver where
  frame : Nat
  event : Instr
  deriving DecidableEq, Repr

/-! ### Writes whose notices are waiting -/

/-- An entry of the ZONE, LINE or SWEEP group that a write may be to: a zone's, a line's, a profile,
or a record of the Segment pool (R43, R91, R112, R113). -/
inductive WrittenEntry where
  | zone (c : ZoneCh) | line (i : LineIx) | profile (k : Fin 8) | segment (i : Fin 96)
  deriving DecidableEq, Repr

/-! ### The whole state -/

/-- The state of the 7420.

`pending` is the queue of commands from outside.  `handed` holds the hand-overs, notices and raises
that one block has handed to another and that have not been taken yet, in the order handed (DESIGN
CHOICE, log entry 2).  `awaiting` names the frame of each hand-over of a good frame end that is in
`handed` (R162, DESIGN CHOICE, log entry 30).  `written` names, oldest first, the entry of each
ZONE, LINE or SWEEP write whose write notice is in `handed` (Tables 3-4, 6-3 and 7-3, DEDUCED, log
entry 29).  `free` counts the uses of free values (DESIGN CHOICE, log entry 5).  `portB`,
`regulatorOut` and `pumpOut` record what has left on the output ports (DESIGN CHOICE, log entry
4). -/
structure State where
  pending : List Instr
  handed : List Instr
  awaiting : List HandOver
  written : List WrittenEntry
  ring : Ring
  map : CellMap
  store : ProgramStore
  heads : Tab 4 HeadRecord
  zones : Tab 28 ZoneChannel
  filters : Tab 34 Filter
  reg : RegulatorPort
  docks : Tab 3 DockEntry
  idle : Tab 3 IdleTimer
  queues : Tab 3 DispenseQueue
  lines : Tab 12 LineState
  conds : Tab 3 Conditioner
  profiles : Tab 8 ProfileEntry
  segments : Tab 96 SegmentRecord
  cadence : Cadence
  inputs : Tab 16 InputUnit
  verifier : Verifier
  events : EventQueue
  us : BitVec 32
  phase : Nat
  free : Nat
  portB : List PortSymbol
  regulatorOut : List RegulatorWord
  pumpOut : List LineIx
  deriving DecidableEq, Repr

/-! ### Reset values -/

/-- The context of no frame. -/
def FrameContext.empty : FrameContext :=
  ⟨.cycle, 0, 0, 0, 0, 0xFFFFFFFF#32, 0xFFFFFFFF#32, [], false, 0⟩

/-- The values of Table R41, the same after every reset. -/
def HeadRecord.afterReset : HeadRecord :=
  ⟨.idle, .none, none, 0, none, 0, false, 0, none, none, Tab.all 7 0, .none, 0, .none⟩

/-- A zone channel after any reset, over the Zone Config entry `e` (Table 3-6, Table 4-5). -/
def ZoneChannel.afterReset (e : ZoneConfig) : ZoneChannel :=
  ⟨e, 0, 0, false, 0, false, false, 0, false, false, 0, false⟩

/-- A feedback filter after any reset: it starts stale (Table 4-5). -/
def Filter.afterReset : Filter := ⟨0, 0, 0, 0, true⟩

/-- Idle settings and timer after power-on reset or RESET(ALL) (Table 5-2). -/
def IdleTimer.afterReset : IdleTimer := ⟨0, 0, 0, 0, 20⟩

/-- A line after any reset, over the Line Config entry `e` (Table 6-7). -/
def LineState.afterReset (e : LineConfig) : LineState := ⟨e, 2000, false, none, 0, 0⟩

/-- A conditioner after any reset, under the park settings the reset leaves (Table 7-7). -/
def Conditioner.afterReset (position band timeout : Nat) : Conditioner :=
  ⟨.parking, .none, false, .none, none, 0, 0, none, position, timeout, position, 0, 0, .none,
    position, band, timeout⟩

/-- The Cadence Monitor after any reset, under the setting the reset leaves (Table 11-2). -/
def Cadence.afterReset (period early late limit : Nat) : Cadence :=
  ⟨.unarmed, 0, 0, none, none, false, period, early, late, limit⟩

/-- A group after power-on reset or RESET(ALL) (Table 10-7). -/
def GroupRecord.afterReset : GroupRecord := ⟨.unverified, 0, 0, 0xFFFF#16, 0⟩

/-- The Table Verifier after power-on reset or RESET(ALL): verify-before-run on (Table 10-4). -/
def Verifier.afterReset : Verifier :=
  ⟨.afterReset, .afterReset, .afterReset, .afterReset, .afterReset, true⟩

/-- Default kind settings: every kind on at its default level (Table 10-4). -/
def defaultKinds : Tab 25 KindSetting := Tab.ofFn fun i => ⟨defaultLevel i.val, true⟩

/-- The one record a reset leaves: RESET_DONE with detail1 POWER_ON (R185). -/
def powerOnRecord : EventRecord := ⟨.resetDone, 0, .device, 0, 0, 0, 0, 0, none⟩

/-- The machine right after power-on reset: Tables 1-9, 2 (R41), 3-6, 4-5, 5-2, 6-7, 7-7, 8-5, 9-5,
10-7, 11-2 and R185.  The node straps read 0 and every input pin is LOW (DESIGN CHOICE, log entry
6), so the filtered level of each unconfigured input, set HIGH and refiltered with filter 0, is LOW
(R178).  Every pending mark is set, and the Regulator Port, which sends nothing, takes channel 0 at
once (R59, R60; DEDUCED, log entry 39): its word is in hand and its mark clear.  Fields without a
reset value in the manual: DESIGN CHOICE, log entry 24. -/
def State.reset : State where
  pending := []
  handed := []
  awaiting := []
  written := []
  ring :=
    { node := 0, link := .down, reception := .between, frame := .empty, transparent := false,
      scope := .state, resetTicks := 0, resetFrame := none, through := false, lastGood := 0,
      goodCount := 0, badCount := 0, takeSlots := Tab.all 128 none, mgmtSlots := [] }
  map :=
    { entries := Tab.all 128 .erased, seen := Tab.all 128 false, learnedHead := Tab.all 4 none,
      learnedDock := Tab.all 3 none, learnedCond := Tab.all 3 none }
  store := { dir := Tab.all 16 .erased, steps := Tab.all 96 .erased, claims := Tab.all 4 none }
  heads := Tab.all 4 .afterReset
  zones := Tab.all 28 (.afterReset .erased)
  filters := Tab.all 34 .afterReset
  reg :=
    { last := Tab.all 34 0, pending := (Tab.all 34 true).upd 0 false, refresh := 0,
      inHand := some 0 }
  docks := Tab.all 3 ⟨none, 0, .none⟩
  idle := Tab.all 3 .afterReset
  queues := Tab.all 3 ⟨[], 0⟩
  lines := Tab.all 12 (.afterReset .erased)
  conds := Tab.all 3 (.afterReset 0 20 5000)
  profiles := Tab.all 8 .erased
  segments := Tab.all 96 .erased
  cadence := .afterReset 1000 700 1500 3
  inputs := Tab.all 16 ⟨.erased, false, false, 0, false⟩
  verifier := .afterReset
  events :=
    { records := [powerOnRecord], lost := 0, kinds := defaultKinds, expressA := none,
      expressB := none }
  us := 0
  phase := 0
  free := 0
  portB := []
  regulatorOut := [1]
  pumpOut := []

end Sys2Proof.Machine
end

