-- ==== Sys2Proof/Machine/Flags.lean ====
section
/-! DEFINITION. The codes of enumerated fields (R187, R188, R190, R191), the DATA flags of a cell
(Table 13-2) and the flag octets of HEAD_STATUS (R40). -/

namespace Sys2Proof.Machine

open Sys2Proof

/-! ### Codes (Table 13-9 and Table 13-5) -/

/-- Direction code: TAKE 0, GIVE 1. -/
def dirCode : Dir → Nat
  | .take => 0
  | .give => 1

/-- The direction of a code. -/
def dirOf (n : Nat) : Option Dir :=
  match n with
  | 0 => some .take
  | 1 => some .give
  | _ => none

/-- Object class codes, numbered in the order of Table 8-2 (R187). -/
def classCode : ObjClass → Nat
  | .headCommand => 0
  | .headEndpoint => 1
  | .zoneTrim => 2
  | .dockCommand => 3
  | .conditionerCommand => 4
  | .headStatus => 5
  | .zoneSetpoint => 6
  | .zoneFeedback => 7
  | .lineDelivered => 8
  | .platenStatus => 9
  | .inputs => 10
  | .deviceStatus => 11

/-- The object class of a code. -/
def classOf (n : Nat) : Option ObjClass :=
  match n with
  | 0 => some .headCommand
  | 1 => some .headEndpoint
  | 2 => some .zoneTrim
  | 3 => some .dockCommand
  | 4 => some .conditionerCommand
  | 5 => some .headStatus
  | 6 => some .zoneSetpoint
  | 7 => some .zoneFeedback
  | 8 => some .lineDelivered
  | 9 => some .platenStatus
  | 10 => some .inputs
  | 11 => some .deviceStatus
  | _ => none

/-- Direction of an object class (Table 8-2). -/
def classDir : ObjClass → Dir
  | .headCommand | .headEndpoint | .zoneTrim | .dockCommand | .conditionerCommand => .take
  | .headStatus | .zoneSetpoint | .zoneFeedback | .lineDelivered | .platenStatus | .inputs
  | .deviceStatus => .give

/-- Width in octets of an object class (Table 8-2). -/
def classWidth : ObjClass → Nat
  | .headCommand => 4
  | .headEndpoint => 2
  | .zoneTrim => 2
  | .dockCommand => 4
  | .conditionerCommand => 4
  | .headStatus => 12
  | .zoneSetpoint => 2
  | .zoneFeedback => 2
  | .lineDelivered => 4
  | .platenStatus => 16
  | .inputs => 4
  | .deviceStatus => 8

/-- How many instances an object class has (Table 8-2). -/
def classInstances : ObjClass → Nat
  | .headCommand | .headEndpoint | .headStatus => 4
  | .zoneTrim | .zoneSetpoint | .zoneFeedback => 28
  | .dockCommand | .conditionerCommand | .platenStatus => 3
  | .lineDelivered => 12
  | .inputs | .deviceStatus => 1

/-- Range code: FINE 0, COARSE 1. -/
def rangeCode : PressureRange → Nat
  | .fine => 0
  | .coarse => 1

/-- The range of a code. -/
def rangeOf (n : Nat) : Option PressureRange :=
  match n with
  | 0 => some .fine
  | 1 => some .coarse
  | _ => none

/-- Band action code: REPORT 0, HOLD 1, SAFE 2. -/
def bandActionCode : BandAction → Nat
  | .report => 0
  | .hold => 1
  | .safe => 2

/-- The band action of a code. -/
def bandActionOf (n : Nat) : Option BandAction :=
  match n with
  | 0 => some .report
  | 1 => some .hold
  | 2 => some .safe
  | _ => none

/-- end_kind code: DURATION 0, ENDPOINT 1, SETTLED 2. -/
def endKindCode : EndKind → Nat
  | .duration => 0
  | .endpoint => 1
  | .settled => 2

/-- The end kind of a code. -/
def endKindOf (n : Nat) : Option EndKind :=
  match n with
  | 0 => some .duration
  | 1 => some .endpoint
  | 2 => some .settled
  | _ => none

/-- Step conditioner code: NONE 0, SWEEP 1, PARK 2. -/
def stepCondCode : StepCond → Nat
  | .none => 0
  | .sweep => 1
  | .park => 2

/-- The step conditioner field of a code. -/
def stepCondOf (n : Nat) : Option StepCond :=
  match n with
  | 0 => some .none
  | 1 => some .sweep
  | 2 => some .park
  | _ => none

/-- Two-valued fields: absent, off, LOW 0; present, on, HIGH 1. -/
def boolCode (b : Bool) : Nat := if b then 1 else 0

/-- The value of a two-valued field's code. -/
def boolOf (n : Nat) : Option Bool :=
  match n with
  | 0 => some false
  | 1 => some true
  | _ => none

/-- Flow action code: REPORT 0, SAFE_HEAD 1. -/
def flowActionCode : FlowAction → Nat
  | .report => 0
  | .safeHead => 1

/-- The flow action of a code. -/
def flowActionOf (n : Nat) : Option FlowAction :=
  match n with
  | 0 => some .report
  | 1 => some .safeHead
  | _ => none

/-- Order mode code: SINGLE 0, BURST 1. -/
def orderModeCode : OrderMode → Nat
  | .single => 0
  | .burst => 1

/-- The order mode of a code. -/
def orderModeOf (n : Nat) : Option OrderMode :=
  match n with
  | 0 => some .single
  | 1 => some .burst
  | _ => none

/-- Input function code: NONE 0, ESTOP 1, AIR_LOW 2, SUPPLY_LOW 3, COND_OVERLOAD 4. -/
def inputFnCode : InputFn → Nat
  | .none => 0
  | .estop => 1
  | .airLow => 2
  | .supplyLow => 3
  | .condOverload => 4

/-- The input function of a code. -/
def inputFnOf (n : Nat) : Option InputFn :=
  match n with
  | 0 => some .none
  | 1 => some .estop
  | 2 => some .airLow
  | 3 => some .supplyLow
  | 4 => some .condOverload
  | _ => none

/-- Input mode code: LEVEL 0, LATCHED 1. -/
def inputModeCode : InputMode → Nat
  | .level => 0
  | .latched => 1

/-- The input mode of a code. -/
def inputModeOf (n : Nat) : Option InputMode :=
  match n with
  | 0 => some .level
  | 1 => some .latched
  | _ => none

/-- Order source code: STEP(h) h, IDLE_WET 4, DIRECT 5. -/
def orderSourceCode : OrderSource → Nat
  | .step h => h.val
  | .idleWet => 4
  | .direct => 5

/-- Group codes (Table 13-5). -/
def groupCode : Group → Nat
  | .cellmap => 0
  | .program => 1
  | .zone => 2
  | .line => 3
  | .sweep => 4

/-- The group of a code. -/
def groupOf (n : Nat) : Option Group :=
  match n with
  | 0 => some .cellmap
  | 1 => some .program
  | 2 => some .zone
  | 3 => some .line
  | 4 => some .sweep
  | _ => none

/-- Table codes (Table 13-5). -/
def tableCode : TableId → Nat
  | .cellmap => 0
  | .programDir => 1
  | .step => 2
  | .zone => 3
  | .line => 4
  | .profile => 5
  | .segment => 6
  | .input => 7

/-- The table of a code. -/
def tableOf (n : Nat) : Option TableId :=
  match n with
  | 0 => some .cellmap
  | 1 => some .programDir
  | 2 => some .step
  | 3 => some .zone
  | 4 => some .line
  | 5 => some .profile
  | 6 => some .segment
  | 7 => some .input
  | _ => none

/-- Reset scope codes: STATE 0, ALL 1 (Table 13-4). -/
def scopeCode : Scope → Nat
  | .state => 0
  | .all => 1

/-- The reset scope of a code. -/
def scopeOf (n : Nat) : Option Scope :=
  match n with
  | 0 => some .state
  | 1 => some .all
  | _ => none

/-- Head state codes. -/
def headStateCode : HeadState → Nat
  | .idle => 0
  | .running => 1
  | .paused => 2
  | .done => 3
  | .safeHold => 4

/-- Head substate codes. -/
def headSubstateCode : HeadSubstate → Nat
  | .none => 0
  | .settling => 1
  | .settled => 2

/-- Safe cause codes. -/
def safeCauseCode : SafeCause → Nat
  | .none => 0
  | .aborted => 1
  | .overpressure => 2
  | .excursion => 3
  | .stepTimeout => 4
  | .cadenceLost => 5
  | .estop => 6
  | .tableFailed => 7
  | .flowFault => 8

/-- Head outcome and refusal codes. -/
def headOutcomeCode : HeadOutcome → Nat
  | .none => 0
  | .learned => 1
  | .accepted => 2
  | .same => 3
  | .notIdle => 4
  | .notRunning => 5
  | .notPaused => 6
  | .busy => 7
  | .notSettled => 8
  | .badCommand => 9
  | .notDocked => 10
  | .badProgram => 11
  | .gated => 12
  | .cadence => 13
  | .estop => 14
  | .airLow => 15

/-- A refusal reason, as against NONE, LEARNED, ACCEPTED and SAME (R19). -/
def HeadOutcome.isRefusal (o : HeadOutcome) : Bool := decide (4 ≤ headOutcomeCode o)

/-- Dock outcome and refusal codes. -/
def dockOutcomeCode : DockOutcome → Nat
  | .none => 0
  | .learned => 1
  | .accepted => 2
  | .same => 3
  | .badCommand => 4
  | .platenTaken => 5
  | .headBusy => 6

/-- A dock refusal (R80). -/
def DockOutcome.isRefusal (o : DockOutcome) : Bool := decide (4 ≤ dockOutcomeCode o)

/-- Conditioner outcome and refusal codes. -/
def condOutcomeCode : CondOutcome → Nat
  | .none => 0
  | .learned => 1
  | .accepted => 2
  | .same => 3
  | .badCommand => 4
  | .badProfile => 5
  | .gated => 6
  | .estop => 7
  | .overloadActive => 8
  | .faulted => 9
  | .notFaulted => 10

/-- A conditioner refusal (R120). -/
def CondOutcome.isRefusal (o : CondOutcome) : Bool := decide (4 ≤ condOutcomeCode o)

/-- Conditioner state codes. -/
def condStateCode : CondState → Nat
  | .parked => 0
  | .sweeping => 1
  | .parking => 2
  | .faulted => 3

/-- Conditioner substate codes. -/
def condSubstateCode : CondSubstate → Nat
  | .none => 0
  | .reaching => 1
  | .dwelling => 2

/-- Conditioner fault cause codes. -/
def condFaultCode : CondFaultCause → Nat
  | .none => 0
  | .overload => 1
  | .reachTimeout => 2

/-- Ring (link) state codes. -/
def linkCode : LinkState → Nat
  | .down => 0
  | .sync => 1
  | .up => 2

/-- Cadence state codes. -/
def cadenceStateCode : CadenceState → Nat
  | .unarmed => 0
  | .locked => 1
  | .lost => 2

/-- Group state codes. -/
def groupStateCode : GroupState → Nat
  | .unverified => 0
  | .verifying => 1
  | .verified => 2
  | .failed => 3

/-- Order end statuses (Table 6-5). -/
inductive EndStatus where
  | done | stopped | flowFault | supplyLow | abandoned | lineOff
  deriving DecidableEq, Repr

/-- Order end status codes. -/
def endStatusCode : EndStatus → Nat
  | .done => 0
  | .stopped => 1
  | .flowFault => 2
  | .supplyLow => 3
  | .abandoned => 4
  | .lineOff => 5

/-- Reasons a frame ends bad (Table 9-3). -/
inductive BadEnd where
  | fcs | structural | abort | oversize | link
  deriving DecidableEq, Repr

/-- FRAME_DISCARDED reason codes. -/
def badEndCode : BadEnd → Nat
  | .fcs => 0
  | .structural => 1
  | .abort => 2
  | .oversize => 3
  | .link => 4

/-- Event kind codes: the order of Table 12-1 (R190). -/
def kindCode : EventKind → Fin 25
  | .safeHoldEntered => 0
  | .overpressure => 1
  | .cadenceLost => 2
  | .tableFault => 3
  | .bandExcursion => 4
  | .gaugeStale => 5
  | .flowFault => 6
  | .condFault => 7
  | .stepTimeout => 8
  | .cmdRefused => 9
  | .inputChange => 10
  | .writeDropped => 11
  | .missingCell => 12
  | .cadenceViolation => 13
  | .cadenceRegained => 14
  | .saturated => 15
  | .frameDiscarded => 16
  | .cellFault => 17
  | .gaugeError => 18
  | .orderDropped => 19
  | .programDone => 20
  | .orderEnded => 21
  | .idleWet => 22
  | .tableVerified => 23
  | .resetDone => 24

/-- Every event kind, in the order of its code. -/
def allKinds : List EventKind :=
  [.safeHoldEntered, .overpressure, .cadenceLost, .tableFault, .bandExcursion, .gaugeStale,
    .flowFault, .condFault, .stepTimeout, .cmdRefused, .inputChange, .writeDropped, .missingCell,
    .cadenceViolation, .cadenceRegained, .saturated, .frameDiscarded, .cellFault, .gaugeError,
    .orderDropped, .programDone, .orderEnded, .idleWet, .tableVerified, .resetDone]

/-- The event kind of a code. -/
def kindOf (n : Nat) : Option EventKind := allKinds[n]?

/-- Source class codes (Table 13-8). -/
def sourceClass : Source → Nat
  | .device => 0
  | .ring => 1
  | .gaugePort => 2
  | .head _ => 3
  | .zone _ => 4
  | .platen _ => 5
  | .line _ => 6
  | .conditioner _ => 7
  | .input _ => 8
  | .group _ => 9
  | .mapEntry _ => 10

/-- Source index (Table 13-8). -/
def sourceIndex : Source → Nat
  | .device | .ring | .gaugePort => 0
  | .head h => h.val
  | .zone c => c.val
  | .platen p => p.val
  | .line i => i.val
  | .conditioner p => p.val
  | .input i => i.val
  | .group g => groupCode g
  | .mapEntry e => e.val

/-! ### Debounce lengths -/

/-- Debounce length of a code (Table 4-4). -/
def debounceLength (code : Nat) : Nat :=
  match code with
  | 0 => 1
  | 1 => 2
  | 2 => 3
  | 3 => 4
  | 4 => 6
  | 5 => 8
  | 6 => 12
  | _ => 16

/-! ### DATA flags (Table 13-2) -/

/-- TAKEN, bit 0. -/
def flagTaken : Octet := 0x01#8

/-- GIVEN, bit 1. -/
def flagGiven : Octet := 0x02#8

/-- STALE, bit 2. -/
def flagStale : Octet := 0x04#8

/-- FAULT, bit 3. -/
def flagFault : Octet := 0x08#8

/-- Sets the bits of `m` in a flags octet. -/
def setFlag (f m : Octet) : Octet := f ||| m

/-- Clears the bits of `m` in a flags octet. -/
def clearFlag (f m : Octet) : Octet := f &&& ~~~m

/-- Whether a bit of `m` is set in a flags octet. -/
def hasFlag (f m : Octet) : Bool := (f &&& m) != 0#8

/-! ### Marks packed into bits -/

/-- The number whose bit i is the i-th mark of the list. -/
def packBits : List Bool → Nat
  | [] => 0
  | b :: bs => boolCode b + 2 * packBits bs

/-- A zone is masked while its ramping mark is set or its settle counter is above 0 (R48). -/
def ZoneChannel.masked (z : ZoneChannel) : Bool := z.ramping || decide (0 < z.settle)

end Sys2Proof.Machine
end

