-- ==== Sys2Proof/Machine/Operands.lean ====
section
/-! DEFINITION. Octets and records: byte order, the two check sequences, the layouts of cells and
table records (chapter 13) and the range checks of each table's fields. -/

namespace Sys2Proof.Machine

open Sys2Proof

/-! ### Octets (R186: most significant octet first, two's complement) -/

/-- The low eight bits of a number as an octet. -/
def oct (n : Nat) : Octet := BitVec.ofNat 8 n

/-- The low sixteen bits of a number. -/
def w16 (n : Nat) : Word16 := BitVec.ofNat 16 n

/-- A value in two octets, most significant first. -/
def be16 (n : Nat) : List Octet := [oct (n / 256), oct n]

/-- A value in four octets, most significant first. -/
def be32 (n : Nat) : List Octet := [oct (n / 16777216), oct (n / 65536), oct (n / 256), oct n]

/-- The octet at offset `i` as a number; 0 past the end. -/
def octAt (l : List Octet) (i : Nat) : Nat := (l.getD i 0).toNat

/-- The two octets at offset `i`, most significant first. -/
def octAt16 (l : List Octet) (i : Nat) : Nat := 256 * octAt l i + octAt l (i + 1)

/-- The two octets at offset `i` as a signed value. -/
def octAtSigned (l : List Octet) (i : Nat) : Int := (w16 (octAt16 l i)).toInt

/-- A list of octets cut or padded with zeros to `n` octets (R157, R186). -/
def padTo (n : Nat) (l : List Octet) : List Octet := (l ++ List.replicate n 0).take n

/-- Two parts of a detail: the first in the high octet, the second in the low octet (R190). -/
def detail (hi lo : Nat) : Word16 := w16 (256 * (hi % 256) + lo % 256)

/-- A signed detail, held to −32768..+32767 (R73). -/
def detailSigned (d : Int) : Word16 := BitVec.ofInt 16 (max (-32768) (min d 32767))

/-- An optional index in an octet, with the code of NONE (R187). -/
def octetOr {n : Nat} (none' : Nat) (x : Option (Fin n)) : Nat :=
  match x with
  | some i => i.val
  | none => none'

/-! ### Check sequences -/

/-- One bit of the frame's CRC-32: generator 0x04C11DB7, most significant bit first (R149). -/
def crc32Bit (r : BitVec 32) (b : Bool) : BitVec 32 :=
  if r.msb != b then (r <<< 1) ^^^ 0x04C11DB7#32 else r <<< 1

/-- One octet of the frame's CRC-32, its most significant bit first (R149). -/
def crc32Octet (r : BitVec 32) (o : Octet) : BitVec 32 :=
  (List.range 8).foldl (fun r i => crc32Bit r (o.getMsbD i)) r

/-- The frame's CRC-32 register carried over a list of octets.  (The test against 0 changes no
value; it lets the kernel evaluate the register octet by octet.) -/
def crc32Run : BitVec 32 → List Octet → BitVec 32
  | r, [] => r
  | r, o :: os =>
    if crc32Octet r o = 0#32 then crc32Run 0#32 os else crc32Run (crc32Octet r o) os

/-- The initial register of the frame's CRC-32: all ones (R149). -/
def crc32Init : BitVec 32 := 0xFFFFFFFF#32

/-- The FCS of a CRC-32 register: the complemented result (R149). -/
def fcsOf (r : BitVec 32) : BitVec 32 := ~~~r

/-- Four FCS octets, most significant first (R149). -/
def fcsOctets (v : BitVec 32) : List Octet := be32 v.toNat

/-- One bit of the image CRC-16: generator x^16 + x^12 + x^5 + 1 (R163). -/
def crc16Bit (r : BitVec 16) (b : Bool) : BitVec 16 :=
  if r.msb != b then (r <<< 1) ^^^ 0x1021#16 else r <<< 1

/-- One octet of the image CRC-16 (R163). -/
def crc16Octet (r : BitVec 16) (o : Octet) : BitVec 16 :=
  (List.range 8).foldl (fun r i => crc16Bit r (o.getMsbD i)) r

/-- The image CRC-16 register carried over a list of octets (evaluated as `crc32Run` is). -/
def crc16Run : BitVec 16 → List Octet → BitVec 16
  | r, [] => r
  | r, o :: os =>
    if crc16Octet r o = 0#16 then crc16Run 0#16 os else crc16Run (crc16Octet r o) os

/-- The initial register of the image CRC-16: 0xFFFF (R163). -/
def crc16Init : BitVec 16 := 0xFFFF#16

/-! ### Cells (Table 13-1, Table 13-2) -/

/-- Cell kind codes (Table 13-2). -/
def kindData : Octet := 0x01#8

/-- MGMT. -/
def kindMgmt : Octet := 0x02#8

/-- REPLY. -/
def kindReply : Octet := 0x03#8

/-- SLOT. -/
def kindSlot : Octet := 0x04#8

/-- EVENT. -/
def kindEvent : Octet := 0x05#8

/-- The cell kinds a well-formed cell may have (R148). -/
def knownKind (k : Octet) : Bool :=
  k == kindData || k == kindMgmt || k == kindReply || k == kindSlot || k == kindEvent

/-- A cell's five header octets (Table 13-1). -/
def Cell.header (c : Cell) : List Octet :=
  [c.kind, c.flags, oct (c.tag.toNat / 256), oct c.tag.toNat, oct c.payload.length]

/-- A cell as octets on the ring. -/
def Cell.octets (c : Cell) : List Octet := Cell.header c ++ c.payload

/-- The cell that a header and payload of octets spell. -/
def cellOf (l : List Octet) : Cell :=
  ⟨l.getD 0 0, l.getD 1 0, w16 (octAt16 l 2), l.drop 5⟩

/-- The low octet of a tag. -/
def lowTag (t : Word16) : Nat := t.toNat % 256

/-- A tag with its low octet replaced by a node number (R186). -/
def withNode (t : Word16) (node : BitVec 5) : Word16 := w16 (256 * (t.toNat / 256) + node.toNat)

/-! ### Table records (Table 13-6) -/

/-- Octets of a map entry. -/
def encodeMapEntry (e : MapEntry) : List Octet :=
  be16 e.tag.toNat ++
    [oct (dirCode e.dir), oct (classCode e.cls), e.inst, oct (boolCode e.required)]

/-- Octets of a directory entry. -/
def encodeDirEntry (e : DirEntry) : List Octet := [oct e.first, oct e.count]

/-- Octets of a step record. -/
def encodeStep (r : StepRecord) : List Octet :=
  r.targets.entries.flatMap be16 ++ be16 r.ringRate ++ be16 r.membraneRate ++ be16 r.trimLimit ++
    be16 r.band ++ [oct r.settleMask, oct (endKindCode r.endKind)] ++ be16 r.endCount ++
    be16 r.maxCycles ++ [r.timeoutAction, oct (boolCode r.dispense), r.line] ++ be16 r.count ++
    [r.mode, oct (stepCondCode r.conditioner), r.profile]

/-- Octets of a Zone Config entry. -/
def encodeZone (e : ZoneConfig) : List Octet :=
  [oct (rangeCode e.range)] ++ be16 e.floor ++ be16 e.ceiling ++ be16 e.safeValue ++
    be16 e.safeRate ++ be16 e.opLimit ++ [oct e.opDebounce] ++ be16 e.diffLimit ++
    [oct (bandActionCode e.bandAction), oct e.bandDebounce, oct e.staleLimit, oct e.averaging]

/-- Octets of a Line Config entry. -/
def encodeLine (e : LineConfig) : List Octet :=
  [oct (boolCode e.enabled)] ++ be16 e.strokePeriod ++ be16 e.flowWindow ++
    [oct e.missLimit, oct (flowActionCode e.flowAction)]

/-- Octets of a profile entry. -/
def encodeProfile (e : ProfileEntry) : List Octet :=
  [oct e.first, oct e.count, oct e.repeats, oct e.reachBand] ++ be16 e.reachTimeout

/-- Octets of a segment record. -/
def encodeSegment (r : SegmentRecord) : List Octet :=
  be16 r.position ++ be16 r.downforce ++ be16 r.dwell

/-- Octets of an INPUT entry. -/
def encodeInput (e : InputConfig) : List Octet :=
  [oct (inputFnCode e.fn), e.platen, e.line, oct (boolCode e.polarity), oct (inputModeCode e.mode),
    oct e.filter]

/-- Record length r of a table (Table 13-6). -/
def recordLength : TableId → Nat
  | .cellmap => 6
  | .programDir => 2
  | .step => 36
  | .zone => 18
  | .line => 7
  | .profile => 6
  | .segment => 6
  | .input => 6

/-- How many entries a table has (R158). -/
def tableSize : TableId → Nat
  | .cellmap => 128
  | .programDir => 16
  | .step => 96
  | .zone => 28
  | .line => 12
  | .profile => 8
  | .segment => 96
  | .input => 16

/-! Decoding a WRITE record field by field (R189); `none` where an enumerated octet holds an
unlisted code, which is a BAD_VALUE. -/

/-- The map entry of a record. -/
def decodeMapEntry (l : List Octet) : Option MapEntry := do
  let dir ← dirOf (octAt l 2)
  let cls ← classOf (octAt l 3)
  let required ← boolOf (octAt l 5)
  pure ⟨true, w16 (octAt16 l 0), dir, cls, l.getD 4 0, required⟩

/-- The directory entry of a record. -/
def decodeDirEntry (l : List Octet) : Option DirEntry := some ⟨true, octAt l 0, octAt l 1⟩

/-- The step record of a record. -/
def decodeStep (l : List Octet) : Option StepRecord := do
  let endKind ← endKindOf (octAt l 23)
  let dispense ← boolOf (octAt l 29)
  let cond ← stepCondOf (octAt l 34)
  pure
    { valid := true, targets := Tab.ofFn fun z => octAt16 l (2 * z.val), ringRate := octAt16 l 14,
      membraneRate := octAt16 l 16, trimLimit := octAt16 l 18, band := octAt16 l 20,
      settleMask := octAt l 22, endKind := endKind, endCount := octAt16 l 24,
      maxCycles := octAt16 l 26, timeoutAction := l.getD 28 0, dispense := dispense,
      line := l.getD 30 0, count := octAt16 l 31, mode := l.getD 33 0, conditioner := cond,
      profile := l.getD 35 0 }

/-- The Zone Config entry of a record. -/
def decodeZone (l : List Octet) : Option ZoneConfig := do
  let range ← rangeOf (octAt l 0)
  let action ← bandActionOf (octAt l 14)
  pure ⟨true, range, octAt16 l 1, octAt16 l 3, octAt16 l 5, octAt16 l 7, octAt16 l 9, octAt l 11,
    octAt16 l 12, action, octAt l 15, octAt l 16, octAt l 17⟩

/-- The Line Config entry of a record. -/
def decodeLine (l : List Octet) : Option LineConfig := do
  let enabled ← boolOf (octAt l 0)
  let action ← flowActionOf (octAt l 6)
  pure ⟨true, enabled, octAt16 l 1, octAt16 l 3, octAt l 5, action⟩

/-- The profile entry of a record. -/
def decodeProfile (l : List Octet) : Option ProfileEntry :=
  some ⟨true, octAt l 0, octAt l 1, octAt l 2, octAt l 3, octAt16 l 4⟩

/-- The segment record of a record. -/
def decodeSegment (l : List Octet) : Option SegmentRecord :=
  some ⟨true, octAt16 l 0, octAt16 l 2, octAt16 l 4⟩

/-- The INPUT entry of a record. -/
def decodeInput (l : List Octet) : Option InputConfig := do
  let fn ← inputFnOf (octAt l 0)
  let polarity ← boolOf (octAt l 3)
  let mode ← inputModeOf (octAt l 4)
  pure ⟨true, fn, l.getD 1 0, l.getD 2 0, polarity, mode, octAt l 5⟩

/-! ### Range checks at cell time -/

/-- Checks 2 to 6 of Table 8-3. -/
def MapEntry.inRange (e : MapEntry) : Bool :=
  e.tag != 0 && e.dir == classDir e.cls && decide (e.inst.toNat < classInstances e.cls) &&
    (e.dir == .take || !e.required)

/-- Checks 2 to 4 of R2. -/
def DirEntry.inRange (e : DirEntry) : Bool :=
  decide (1 ≤ e.count ∧ e.count ≤ 24) && decide (e.first ≤ 95) && decide (e.first + e.count ≤ 96)

/-- Checks 2 to 12 of Table 1-7. -/
def StepRecord.inRange (r : StepRecord) : Bool :=
  decide (r.ringRate ≤ 4095 ∧ r.membraneRate ≤ 4095 ∧ r.trimLimit ≤ 4095) &&
    decide (r.settleMask ≤ 255) &&
    (match r.endKind with
      | .duration => decide (1 ≤ r.endCount)
      | .endpoint => decide (1 ≤ r.maxCycles) && decide (r.timeoutAction.toNat ≤ 1)
      | .settled =>
        decide (1 ≤ r.endCount ∧ r.endCount ≤ 255) && decide (r.band ≠ 0) &&
          decide (1 ≤ r.maxCycles) && decide (r.timeoutAction.toNat ≤ 1)) &&
    (!r.dispense ||
      decide (r.line.toNat ≤ 3 ∧ 1 ≤ r.count ∧ r.count ≤ 1023 ∧ r.mode.toNat ≤ 1)) &&
    (r.conditioner != .sweep || decide (r.profile.toNat ≤ 7))

/-- Checks 2 to 10 of Table 3-3. -/
def ZoneConfig.inRange (e : ZoneConfig) : Bool :=
  decide (e.safeRate ≤ 4095) && decide (e.opDebounce ≤ 7 ∧ e.bandDebounce ≤ 7) &&
    decide (1 ≤ e.staleLimit ∧ e.staleLimit ≤ 255) &&
    (e.averaging == 1 || e.averaging == 2 || e.averaging == 4 || e.averaging == 8) &&
    decide (e.floor ≤ e.ceiling) && (e.range != .fine || decide (e.ceiling ≤ 40950)) &&
    decide (e.safeValue ≤ e.ceiling) && decide (e.ceiling ≤ e.opLimit)

/-- Checks 3 to 5 of Table 6-2. -/
def LineConfig.inRange (e : LineConfig) : Bool :=
  decide (5 ≤ e.strokePeriod ∧ e.strokePeriod ≤ 2000) &&
    decide (1 ≤ e.flowWindow ∧ e.flowWindow ≤ 1000) && decide (1 ≤ e.missLimit ∧ e.missLimit ≤ 15)

/-- Checks 2 to 6 of a PROFILE write, Table 7-2. -/
def ProfileEntry.inRange (e : ProfileEntry) : Bool :=
  decide (1 ≤ e.count ∧ e.count ≤ 12 ∧ e.first ≤ 95) && decide (e.first + e.count ≤ 96) &&
    decide (e.repeats ≤ 255) && decide (1 ≤ e.reachBand ∧ e.reachBand ≤ 200) &&
    decide (100 ≤ e.reachTimeout ∧ e.reachTimeout ≤ 10000)

/-- Checks 2 to 4 of a SEGMENT write, Table 7-2. -/
def SegmentRecord.inRange (r : SegmentRecord) : Bool :=
  decide (r.position ≤ 4000) && decide (r.downforce ≤ 1000) && decide (r.dwell ≤ 5000)

/-- The platen and line checks of an INPUT write, where the function has them, and the filter's
range (R174). -/
def InputConfig.inRange (e : InputConfig) : Bool :=
  (match e.fn with
    | .supplyLow => decide (e.platen.toNat ≤ 2 ∧ e.line.toNat ≤ 3)
    | .condOverload => decide (e.platen.toNat ≤ 2)
    | _ => true) && decide (e.filter ≤ 15)

/-- The CADENCE checks: P, then E against that P, then Lt against that P, then V (R160). -/
def cadenceInRange (period early late limit : Nat) : Bool :=
  decide (250 ≤ period ∧ period ≤ 10000) && decide (1 ≤ early ∧ early ≤ period - 1) &&
    decide (period + 1 ≤ late ∧ late ≤ 4 * period) && decide (1 ≤ limit ∧ limit ≤ 15)

/-! ### Command values taken from cells (Table 13-3) -/

/-- A HEAD_COMMAND or CONDITIONER_COMMAND payload. -/
def commandOf (l : List Octet) : CommandValue := ⟨l.getD 0 0, l.getD 1 0, w16 (octAt16 l 2)⟩

/-- A DOCK_COMMAND payload. -/
def dockValueOf (l : List Octet) : DockValue := ⟨l.getD 0 0, l.getD 1 0, w16 (octAt16 l 2)⟩

/-! ### Event records (Table 13-7) -/

/-- The 12 octets of an event record. -/
def encodeEvent (r : EventRecord) : List Octet :=
  [oct (kindCode r.kind).val, oct r.rank, oct (sourceClass r.source), oct (sourceIndex r.source)] ++
    be16 r.detail1.toNat ++ be16 r.detail2.toNat ++ be16 r.stamp.toNat ++
    [oct r.repeats, oct r.lost]

end Sys2Proof.Machine
end

