-- ==== Sys2Proof/Machine/Ops.lean ====
section
/-! DEFINITION. The shared operations: field updates, handing an event to another block, raising an
event, the readers that several blocks use (effective Zone Config, function-active states, group
states, claims, the docked head), the Regulator Port, and setting a zone's setpoint. -/

namespace Sys2Proof.Machine

open Sys2Proof

/-- What one command answers. -/
abbrev Result := Host.Outcome State Fault Refusal

/-! ### Field updates -/

/-- Replaces head record `h`. -/
def State.setHead (s : State) (h : Head) (r : HeadRecord) : State :=
  { s with heads := s.heads.upd h r }

/-- Replaces zone channel `c`. -/
def State.setZone (s : State) (c : ZoneCh) (z : ZoneChannel) : State :=
  { s with zones := s.zones.upd c z }

/-- Replaces the feedback filter of channel `c`. -/
def State.setFilter (s : State) (c : Chan) (f : Filter) : State :=
  { s with filters := s.filters.upd c f }

/-- Replaces the Dock Table entry of platen `p`. -/
def State.setDock (s : State) (p : Platen) (d : DockEntry) : State :=
  { s with docks := s.docks.upd p d }

/-- Replaces the idle timer of platen `p`. -/
def State.setIdle (s : State) (p : Platen) (t : IdleTimer) : State :=
  { s with idle := s.idle.upd p t }

/-- Replaces the order queue of platen `p`. -/
def State.setQueue (s : State) (p : Platen) (q : DispenseQueue) : State :=
  { s with queues := s.queues.upd p q }

/-- Replaces line `i`. -/
def State.setLine (s : State) (i : LineIx) (x : LineState) : State :=
  { s with lines := s.lines.upd i x }

/-- Replaces the conditioner of platen `p`. -/
def State.setCond (s : State) (p : Platen) (c : Conditioner) : State :=
  { s with conds := s.conds.upd p c }

/-- Replaces discrete input `i`. -/
def State.setInput (s : State) (i : Fin 16) (u : InputUnit) : State :=
  { s with inputs := s.inputs.upd i u }

/-- Replaces the Ring Interface. -/
def State.setRing (s : State) (r : Ring) : State := { s with ring := r }

/-- Replaces the Cell Map. -/
def State.setMap (s : State) (m : CellMap) : State := { s with map := m }

/-- Replaces the Program Store. -/
def State.setStore (s : State) (p : ProgramStore) : State := { s with store := p }

/-- Replaces the Regulator Port. -/
def State.setReg (s : State) (r : RegulatorPort) : State := { s with reg := r }

/-- Replaces the Cadence Monitor. -/
def State.setCadence (s : State) (c : Cadence) : State := { s with cadence := c }

/-- Replaces the Table Verifier. -/
def State.setVerifier (s : State) (v : Verifier) : State := { s with verifier := v }

/-- Replaces the Event Queue. -/
def State.setEvents (s : State) (q : EventQueue) : State := { s with events := q }

/-- Replaces the Profile table. -/
def State.setProfiles (s : State) (t : Tab 8 ProfileEntry) : State := { s with profiles := t }

/-- Replaces the Segment pool. -/
def State.setSegments (s : State) (t : Tab 96 SegmentRecord) : State := { s with segments := t }

/-- Replaces the events handed and not yet taken. -/
def State.setHanded (s : State) (l : List Instr) : State := { s with handed := l }

/-- The zone channel of zone `z` of head `h`. -/
def State.zoneOf (s : State) (h : Head) (z : Zone) : ZoneChannel := s.zones.get (zoneCh h z)

/-! ### Handing events to other blocks

A hand-over, a notice and a raise are each an event of their own at the block that receives them
(R152, R34, R180).  The block that hands it puts it here; the command of that event takes it. -/

/-- Hands one event. -/
def State.hand (s : State) (c : Instr) : State := s.setHanded (s.handed ++ [c])

/-- Hands several events in order. -/
def State.handAll (s : State) (cs : List Instr) : State := s.setHanded (s.handed ++ cs)

/-- The group that an entry belongs to (R163). -/
def WrittenEntry.group : WrittenEntry → Group
  | .zone _ => .zone
  | .line _ => .line
  | .profile _ | .segment _ => .sweep

/-- Hands the write notice of an entry that has been written (R46, R93, R115). -/
def State.handWriteNotice (s : State) (x : WrittenEntry) : State :=
  { s with written := s.written ++ [x] }.hand (.writeNotice (WrittenEntry.group x))

/-- Takes an event that has been handed: the first waiting one of this form, and with it the note of
the frame it is a hand-over of, or of the written entry it tells of. -/
def State.takeUp (s : State) (c : Instr) : State :=
  { s with
    handed := s.handed.erase c
    awaiting := if c ∈ s.handed then s.awaiting.eraseP (fun x => x.event == c) else s.awaiting
    written :=
      if c ∈ s.handed then s.written.eraseP (fun x => c == .writeNotice (WrittenEntry.group x))
      else s.written }

/-- Raises an event to the Event Queue (R180). -/
def State.raise (s : State) (k : EventKind) (src : Source) (d1 d2 : Word16) : State :=
  s.hand (.eventRaise k src d1 d2)

/-! ### Readers -/

/-- The effective values of Zone Config entry `c` (R43, Table 3-2). -/
def ZoneConfig.effective (e : ZoneConfig) : ZoneConfig :=
  if e.valid then e else ⟨false, .fine, 0, 0, 0, 0, 65535, 0, 0, .report, 0, 255, 1⟩

/-- The effective Zone Config of zone channel `c`. -/
def State.zoneConfig (s : State) (c : ZoneCh) : ZoneConfig :=
  ZoneConfig.effective (s.zones.get c).config

/-- A line reads as enabled when its entry is valid and enabled (R91). -/
def LineConfig.isEnabled (e : LineConfig) : Bool := e.valid && e.enabled

/-- The platen of head `h`, as the Dock Table records it (R79). -/
def State.platenOf (s : State) (h : Head) : Option Platen :=
  (List.finRange 3).find? fun p => (s.docks.get p).docked == some h

/-- RUNNING or PAUSED. -/
def HeadRecord.isActive (r : HeadRecord) : Bool := r.state == .running || r.state == .paused

/-- Whether any head is RUNNING or PAUSED (R161). -/
def State.anyHeadActive (s : State) : Bool := s.heads.entries.any HeadRecord.isActive

/-- Program p is claimed while some head's claim entry holds it (R10). -/
def State.programClaimed (s : State) (p : Fin 16) : Bool :=
  s.store.claims.entries.any fun c => c == some p

/-- The use count of program p (R7). -/
def State.useCount (s : State) (p : Fin 16) : Nat :=
  s.store.claims.entries.countP fun c => c == some p

/-- Step record i is claimed while it lies in the range of a claimed program (R10). -/
def State.stepClaimed (s : State) (i : Fin 96) : Bool :=
  (List.finRange 16).any fun p =>
    s.programClaimed p && decide ((s.store.dir.get p).first ≤ i.val) &&
      decide (i.val < (s.store.dir.get p).first + (s.store.dir.get p).count)

/-- Profile k is claimed while it is a SWEEPING engine's current profile, or pending (R115). -/
def State.profileClaimed (s : State) (k : Fin 8) : Bool :=
  s.conds.entries.any fun c =>
    (c.state == .sweeping && c.profile == some k) || c.pendingProfile == some k

/-- Segment i lies in the range of profile k (R113). -/
def State.profileSpans (s : State) (k : Fin 8) (i : Fin 96) : Bool :=
  decide ((s.profiles.get k).first ≤ i.val) &&
    decide (i.val < (s.profiles.get k).first + (s.profiles.get k).count)

/-- Segment i is claimed while it lies in the range of a claimed profile (R115). -/
def State.segmentClaimed (s : State) (i : Fin 96) : Bool :=
  (List.finRange 8).any fun k => s.profileClaimed k && s.profileSpans k i

/-- Line l of platen p holds an order, QUEUED or ACTIVE (R92). -/
def State.lineInUse (s : State) (p : Platen) (l : Line) : Bool :=
  (s.queues.get p).orders.any fun o => o.line == l

/-! ### Discrete input functions -/

/-- A function with its instance (R174, R175). -/
inductive InputFunction where
  | estop | airLow | supplyLow (p : Platen) (l : Line) | condOverload (p : Platen)
  deriving DecidableEq, Repr

/-- The function with its instance of an input's entry, if any (R174). -/
def InputConfig.function (e : InputConfig) : Option InputFunction :=
  match e.fn with
  | .none => none
  | .estop => some .estop
  | .airLow => some .airLow
  | .supplyLow =>
    if hp : e.platen.toNat < 3 then
      if hl : e.line.toNat < 4 then some (.supplyLow ⟨e.platen.toNat, hp⟩ ⟨e.line.toNat, hl⟩)
      else none
    else none
  | .condOverload =>
    if hp : e.platen.toNat < 3 then some (.condOverload ⟨e.platen.toNat, hp⟩) else none

/-- The function and instance octets of an INPUT_CHANGE (R190, R191). -/
def inputDetail (e : InputConfig) : Word16 :=
  detail (inputFnCode e.fn)
    (match e.fn with
      | .supplyLow => 4 * e.platen.toNat + e.line.toNat
      | .condOverload => e.platen.toNat
      | _ => 0)

/-- An input is asserted when its filtered level equals its polarity (R175). -/
def InputUnit.asserted (u : InputUnit) : Bool := u.filtered == u.config.polarity

/-- The active state of an input (R175). -/
def InputUnit.isActive (u : InputUnit) : Bool :=
  u.config.fn != .none &&
    (match u.config.mode with
      | .level => InputUnit.asserted u
      | .latched => u.latch)

/-- A function is function-active while an input configured with it is active (R175). -/
def State.functionActive (s : State) (f : InputFunction) : Bool :=
  s.inputs.entries.any fun u => InputUnit.isActive u && InputConfig.function u.config == some f

/-! ### Verifier records -/

/-- The record of group `g`. -/
def Verifier.group (v : Verifier) : Group → GroupRecord
  | .cellmap => v.cellmap
  | .program => v.program
  | .zone => v.zone
  | .line => v.line
  | .sweep => v.sweep

/-- Replaces the record of group `g`. -/
def Verifier.setGroup (v : Verifier) (g : Group) (r : GroupRecord) : Verifier :=
  match g with
  | .cellmap => { v with cellmap := r }
  | .program => { v with program := r }
  | .zone => { v with zone := r }
  | .line => { v with line := r }
  | .sweep => { v with sweep := r }

/-- Replaces the record of group `g` in the state. -/
def State.setGroup (s : State) (g : Group) (r : GroupRecord) : State :=
  s.setVerifier (s.verifier.setGroup g r)

/-- Whether group `g` is VERIFIED, as the Table Verifier stands (R163). -/
def State.groupVerified (s : State) (g : Group) : Bool := (s.verifier.group g).state == .verified

/-- A gate of Table 10-5 passes: verify-before-run is off, or the group is VERIFIED. -/
def State.gateOpen (s : State) (g : Group) : Bool := !s.verifier.vbr || s.groupVerified g

/-- A gate of group `g` that counts the group as UNVERIFIED also while the notice of a write to an
entry of its `own` is waiting (Tables 3-4, 6-3 and 7-3; DEDUCED, log entry 29). -/
def State.gateOpenFor (s : State) (g : Group) (own : WrittenEntry → Bool) : Bool :=
  !s.verifier.vbr || (s.groupVerified g && !s.written.any own)

/-- Whether a written entry is a zone's of head `h`. -/
def WrittenEntry.ofHead (h : Head) : WrittenEntry → Bool
  | .zone c => headOfZone c == h
  | .line _ | .profile _ | .segment _ => false

/-- Whether a written entry is line `i`'s. -/
def WrittenEntry.ofLine (i : LineIx) : WrittenEntry → Bool
  | .line j => j == i
  | .zone _ | .profile _ | .segment _ => false

/-- Whether a written entry is profile `k` or a record in its range (Table 7-3). -/
def WrittenEntry.ofProfile (s : State) (k : Fin 8) : WrittenEntry → Bool
  | .profile j => j == k
  | .segment i => s.profileSpans k i
  | .zone _ | .line _ => false

/-- The ZONE gate of a START of head `h` passes (R21, Table 3-4; DEDUCED, log entry 29). -/
def State.zoneGateOpen (s : State) (h : Head) : Bool :=
  s.gateOpenFor .zone (WrittenEntry.ofHead h)

/-- The LINE gate of an order of line `i` passes (R99, Table 6-3; DEDUCED, log entry 29). -/
def State.lineGateOpen (s : State) (i : LineIx) : Bool :=
  s.gateOpenFor .line (WrittenEntry.ofLine i)

/-- The SWEEP gate of a SWEEP of profile `k` passes (R121, Table 7-3; DEDUCED, log entry 29).  A
group that is FAILED closes the gate also while its group-failed notice is waiting (R121 check 5
beside R125's Table 7-6; DESIGN CHOICE, log entry 45). -/
def State.sweepGateOpen (s : State) (k : Fin 8) : Bool :=
  s.gateOpenFor .sweep (WrittenEntry.ofProfile s k)

/-! ### Regulator Port (R59) -/

/-- The code of an output channel as it stands: a zone code, a conditioner position or a force. -/
def State.channelCode (s : State) (c : Chan) : Nat :=
  if h : c.val < 28 then (s.zones.get ⟨c.val, h⟩).code
  else if h' : c.val < 31 then (s.conds.get ⟨c.val - 28, by omega⟩).posOut
  else (s.conds.get ⟨c.val - 31, by omega⟩).forceOut

/-- The number of ones among the low `n` bits of a number. -/
def onesIn (n x : Nat) : Nat := (List.range n).countP fun i => x.testBit i

/-- The parity bit that makes the number of ones in a word of channel and code odd (R59). -/
def wordParity (c : Chan) (code : Nat) : Bool := (onesIn 6 c.val + onesIn 12 code) % 2 == 0

/-- The word that carries a code on a channel: six channel bits and twelve code bits, each most
significant first, then the parity bit (R59, Table 4-1). -/
def regulatorWord (c : Chan) (code : Nat) : RegulatorWord :=
  BitVec.ofNat 6 c.val ++ BitVec.ofNat 12 code ++ BitVec.ofBool (wordParity c code)

/-- Marks a channel pending when its code has changed to a value that differs from the last
transmitted one (R59, "Change"). -/
def State.markChange (s : State) (c : Chan) (old new : Nat) : State :=
  if new ≠ old ∧ new ≠ s.reg.last.get c then
    s.setReg { s.reg with pending := s.reg.pending.upd c true }
  else s

/-- The lowest-numbered pending channel. -/
def RegulatorPort.lowest (r : RegulatorPort) : Option Chan :=
  (List.finRange 34).find? fun c => r.pending.get c

/-- While the port is sending nothing and a mark is pending, it takes the lowest-numbered pending
channel and sends its code as it stands (R59; within a tick: DESIGN CHOICE, log entry 19). -/
def State.kickPort (s : State) : State :=
  match s.reg.inHand with
  | some _ => s
  | none =>
    match RegulatorPort.lowest s.reg with
    | none => s
    | some c =>
      let code := s.channelCode c
      { s with
        reg :=
          { s.reg with
            last := s.reg.last.upd c code, pending := s.reg.pending.upd c false,
            inHand := some c }
        regulatorOut := s.regulatorOut ++ [regulatorWord c code] }

/-- A next state, after the Regulator Port has started on what is pending. -/
def nextPort (s : State) : Result := .next s.kickPort

/-! ### Setpoints and codes (R56, R57) -/

/-- The regulator code of a setpoint under a range, capped at 4095 (R56). -/
def regulatorCode (r : PressureRange) (setpoint : Nat) : Nat :=
  match r with
  | .fine => min ((setpoint + 5) / 10) 4095
  | .coarse => min ((setpoint + 8) / 16) 4095

/-- Sets the setpoint of zone channel `c`, derives its code under the effective range, marks the
output channel and raises SATURATED at entry to code 4095 (R56, R57, R59). -/
def State.setSetpoint (s : State) (c : ZoneCh) (v : Nat) : State :=
  let z := s.zones.get c
  let r := (s.zoneConfig c).range
  let code := regulatorCode r v
  let s1 :=
    (s.setZone c
      { z with setpoint := v, code := code, saturated := decide (code = 4095) }).markChange
      (chanOfZone c) z.code code
  if code = 4095 ∧ z.saturated = false then
    s1.raise .saturated (.zone c) (w16 v) (w16 (rangeCode r))
  else s1

/-- `x` raised to `lo` if below it and lowered to `hi` if above (1.5). -/
def clampNat (lo hi x : Nat) : Nat := min (max lo x) hi

/-- `x` clamped to `lo..hi`, for signed values. -/
def clampInt (lo hi x : Int) : Int := min (max lo x) hi

/-- Moves `v` from `cur` toward `goal` by at most `rate`; a rate of 0 steps at once (R52, R58). -/
def approach (cur goal rate : Nat) : Nat :=
  if rate = 0 then goal
  else if cur ≤ goal then (if goal - cur ≤ rate then goal else cur + rate)
  else (if cur - goal ≤ rate then goal else cur - rate)

/-- Whether every zone of head `h` stands at its safe value (R35, R58). -/
def State.atSafeValues (s : State) (h : Head) : Bool :=
  (List.finRange 7).all fun z =>
    (s.zoneOf h z).setpoint == (s.zoneConfig (zoneCh h z)).safeValue

/-- The substate of a head in SAFE_HOLD (R18). -/
def State.safeSubstate (s : State) (h : Head) : HeadSubstate :=
  if s.atSafeValues h then .settled else .settling

/-! ### Frame hand-overs -/

/-- The frame whose hand-over the event `c` is, where one is waiting (R152). -/
def State.frameOf (s : State) (c : Instr) : Option Nat :=
  (s.awaiting.find? fun x => x.event == c).map HandOver.frame

/-- A hand-over of the frame that carried the RESET of the transparent period has not been taken by
its owner (R162). -/
def State.resetAwaits (s : State) : Bool :=
  s.awaiting.any fun x => some x.frame == s.ring.resetFrame

end Sys2Proof.Machine
end

