-- ==== Sys2Proof/Machine/Program.lean ====
section
/-! DEFINITION. The Program Store (chapter 1): program validity, START requests, releases and the
writes applied to the directory and the Step Store. -/

namespace Sys2Proof.Machine

open Sys2Proof

/-- detail1 of a WRITE_DROPPED for a table: the table, then the request WRITE or ERASE (R190). -/
def dropDetail (t : TableId) (isErase : Bool) : Word16 :=
  detail (tableCode t) (if isErase then 3 else 2)

/-- Raises WRITE_DROPPED for a group's table (R12, R45, R93, R115, R131). -/
def State.raiseDropped (s : State) (g : Group) (t : TableId) (isErase : Bool) (index : Nat) :
    State :=
  s.raise .writeDropped (.group g) (dropDetail t isErase) (w16 index)

/-- Every record of a directory entry's range is valid (R6). -/
def State.rangeValid (s : State) (e : DirEntry) : Bool :=
  (List.range e.count).all fun j =>
    if h : e.first + j < 96 then (s.store.steps.get ⟨e.first + j, h⟩).valid else false

/-- Program validity at the moment of a START request (R6): the program, if valid. -/
def State.validProgram (s : State) (p : Octet) : Option (Fin 16) :=
  if h : p.toNat < 16 then
    let i : Fin 16 := ⟨p.toNat, h⟩
    if (s.store.dir.get i).valid && s.rangeValid (s.store.dir.get i) then some i else none
  else none

/-- Sets a head's claim entry (R8, R9). -/
def State.setClaim (s : State) (h : Head) (c : Option (Fin 16)) : State :=
  s.setStore { s.store with claims := s.store.claims.upd h c }

/-- The release of head `h`, if one is waiting, is taken before what the head hands the store next
(DESIGN CHOICE, log entry 8). -/
def State.takeRelease (s : State) (h : Head) : State :=
  if (.programRelease h) ∈ s.handed then (s.takeUp (.programRelease h)).setClaim h none else s

/-- PROGRAM_RELEASE: the head's claim entry becomes NONE (R9). -/
def execProgramRelease (h : Head) (s : State) : Result :=
  .next ((s.takeUp (.programRelease h)).setClaim h none)

/-- Applies or drops a write to directory entry `i` (R12). -/
def applyDir (isErase : Bool) (i : Fin 16) (e : DirEntry) (s : State) : State :=
  if s.programClaimed i then s.raiseDropped .program .programDir isErase i.val
  else (s.setStore { s.store with dir := s.store.dir.upd i e }).hand (.writeNotice .program)

/-- Applies or drops a write to step record `i` (R12). -/
def applyStep (isErase : Bool) (i : Fin 96) (r : StepRecord) (s : State) : State :=
  if s.stepClaimed i then s.raiseDropped .program .step isErase i.val
  else (s.setStore { s.store with steps := s.store.steps.upd i r }).hand (.writeNotice .program)

/-- PROGRAM_DIR_WRITE_APPLY (R12). -/
def execProgramDirWriteApply (i : Fin 16) (e : DirEntry) (s : State) : Result :=
  .next (applyDir false i { e with valid := true } (s.takeUp (.programDirWriteApply i e)))

/-- PROGRAM_DIR_ERASE_APPLY (R12, R5). -/
def execProgramDirEraseApply (i : Fin 16) (s : State) : Result :=
  .next (applyDir true i .erased (s.takeUp (.programDirEraseApply i)))

/-- STEP_WRITE_APPLY (R12). -/
def execStepWriteApply (i : Fin 96) (r : StepRecord) (s : State) : Result :=
  .next (applyStep false i { r with valid := true } (s.takeUp (.stepWriteApply i r)))

/-- STEP_ERASE_APPLY (R12, R5). -/
def execStepEraseApply (i : Fin 96) (s : State) : Result :=
  .next (applyStep true i .erased (s.takeUp (.stepEraseApply i)))

end Sys2Proof.Machine
end

