-- ==== Sys2Proof/Machine/Conditioner.lean ====
section
/-! DEFINITION. Pad conditioning (chapter 7): parking, segments, commands, notices, faults, the
tick at a conditioner engine, and the writes applied to profiles and segments. -/

namespace Sys2Proof.Machine

open Sys2Proof

/-- Replaces conditioner p, marking its two output channels where their codes change (R116). -/
def State.driveCond (s : State) (p : Platen) (c : Conditioner) : State :=
  let old := s.conds.get p
  ((s.setCond p c).markChange (positionChan p) old.posOut c.posOut).markChange (forceChan p)
    old.forceOut c.forceOut

/-- The record on entry to PARKING (R119). -/
def Conditioner.parked (c : Conditioner) (override : Bool) : Conditioner :=
  { c with
    state := .parking, substate := .none, override := override, pendingProfile := none,
    target := c.parkPosition, posOut := c.parkPosition, forceOut := 0, timer := c.parkTimeout }

/-- Entry to PARKING (R119). -/
def enterParking (p : Platen) (override : Bool) (s : State) : State :=
  s.driveCond p (Conditioner.parked (s.conds.get p) override)

/-- The record on entry to FAULTED: force 0, position output kept, claims released (R117, R119,
R123). -/
def Conditioner.faulted (c : Conditioner) (cause : CondFaultCause) : Conditioner :=
  { c with
    state := .faulted, substate := .none, override := false, cause := cause,
    pendingProfile := none, forceOut := 0 }

/-- Entry to FAULTED with COND_FAULT (R117, R119, R123). -/
def enterFaulted (p : Platen) (cause : CondFaultCause) (d2 : Nat) (s : State) : State :=
  (s.driveCond p (Conditioner.faulted (s.conds.get p) cause)).raise .condFault (.conditioner p)
    (w16 (condFaultCode cause)) (w16 d2)

/-- The segment record of segment `seg` of profile `k` (R112). -/
def State.segmentOf (s : State) (k : Fin 8) (seg : Nat) : SegmentRecord :=
  if h : (s.profiles.get k).first + seg < 96 then
    s.segments.get ⟨(s.profiles.get k).first + seg, h⟩
  else .erased

/-- A segment start: segment `seg` of profile `k`, with a reload for the idle timer (R117). -/
def startSegment (p : Platen) (k : Fin 8) (seg : Nat) (s : State) : State :=
  let r := s.segmentOf k seg
  (s.driveCond p
    { s.conds.get p with
      profile := some k, segment := seg, substate := .reaching, target := r.position,
      posOut := r.position, forceOut := r.downforce,
      timer := (s.profiles.get k).reachTimeout }).hand (.idleTimerReload p)

/-- Profile k is usable (R113): the profile number, if usable. -/
def State.usableProfile (s : State) (k : Octet) : Option (Fin 8) :=
  if h : k.toNat < 8 then
    let i : Fin 8 := ⟨k.toNat, h⟩
    let e := s.profiles.get i
    let good :=
      (List.range e.count).all fun j =>
        if h : e.first + j < 96 then (s.segments.get ⟨e.first + j, h⟩).valid else false
    if e.valid && good then some i else none
  else none

/-- A sweep begins with profile `k` from segment 0, from PARKED or PARKING (Table 7-5). -/
def beginSweep (p : Platen) (k : Fin 8) (s : State) : State :=
  startSegment p k 0
    (s.setCond p
      { s.conds.get p with
        state := .sweeping, override := false, passes := 0, pendingProfile := none })

/-- A segment end (R118): pending profile, next segment, or pass complete. -/
def endSegment (p : Platen) (s : State) : State :=
  let c := s.conds.get p
  match c.pendingProfile with
  | some k =>
    startSegment p k 0
      (s.setCond p { c with profile := some k, pendingProfile := none, passes := 0 })
  | none =>
    match c.profile with
    | none => enterParking p false s
    | some k =>
      let e := s.profiles.get k
      if c.segment + 1 < e.count then startSegment p k (c.segment + 1) s
      else
        let n := min (c.passes + 1) 255
        let s := s.setCond p { c with passes := n }
        if e.repeats = 0 ∨ n < e.repeats then startSegment p k 0 s else enterParking p false s

/-! ### Commands (R121) -/

/-- Conditioner command codes (Table 13-3). -/
inductive CondCommand where
  | sweep (k : Octet) | park | clearFault | overloadAck | unknown
  deriving DecidableEq, Repr

/-- The command of a code and argument. -/
def condCommandOf (code arg : Octet) : CondCommand :=
  match code.toNat with
  | 1 => .sweep arg
  | 2 => .park
  | 3 => .clearFault
  | 4 => .overloadAck
  | _ => .unknown

/-- The checks of a SWEEP in order: the profile, or the refusal (R121). -/
def sweepCheck (p : Platen) (k : Octet) (s : State) : Except CondOutcome (Fin 8) :=
  if (s.conds.get p).state = .faulted then .error .faulted
  else if s.functionActive .estop then .error .estop
  else if s.functionActive (.condOverload p) then .error .overloadActive
  else
    match s.usableProfile k with
    | none => .error .badProfile
    | some i => if s.sweepGateOpen i then .ok i else .error .gated

/-- Applies a command in the conditioner's state: the state after, and the outcome (Table 7-5). -/
def applyCondCommand (p : Platen) (cmd : CondCommand) (s : State) : State × CondOutcome :=
  let c := s.conds.get p
  match cmd with
  | .sweep k =>
    match sweepCheck p k s with
    | .error o => (s, o)
    | .ok i =>
      match c.state with
      | .sweeping => (s.setCond p { c with pendingProfile := some i }, .accepted)
      | _ => (beginSweep p i s, .accepted)
  | .park =>
    match c.state with
    | .sweeping => (enterParking p false s, .accepted)
    | .faulted => (s, .faulted)
    | .parked | .parking => (s, .same)
  | .clearFault =>
    match c.state with
    | .faulted =>
      if s.functionActive (.condOverload p) then (s, .overloadActive)
      else (enterParking p false (s.setCond p { c with cause := .none }), .accepted)
    | _ => (s, .same)
  | .overloadAck =>
    match c.state with
    | .faulted =>
      if s.functionActive (.condOverload p) then
        (enterParking p true (s.setCond p { c with cause := .none }), .accepted)
      else (s, .same)
    | _ => (s, .notFaulted)
  | .unknown => (s, .badCommand)

/-- Raises CMD_REFUSED for a refused conditioner command (R120, R122). -/
def raiseCondRefusal (p : Platen) (code : Octet) (o : CondOutcome) (s : State) : State :=
  if CondOutcome.isRefusal o then
    s.raise .cmdRefused (.conditioner p) (w16 code.toNat) (w16 (condOutcomeCode o))
  else s

/-- A new CONDITIONER_COMMAND: its sequence is learned, it is applied, and sequence and outcome are
recorded (R120, "Different sequence"). -/
def newCondCommand (p : Platen) (v : CommandValue) (s : State) : State :=
  let s := s.setMap { s.map with learnedCond := s.map.learnedCond.upd p (some v.seq) }
  let (s, o) := applyCondCommand p (condCommandOf v.code v.arg) s
  let s := s.setCond p { s.conds.get p with lastSeq := v.seq, lastOutcome := o }
  raiseCondRefusal p v.code o s

/-- A CONDITIONER_COMMAND value delivered: compared with the learned sequence (R120, R139). -/
def deliverCondCommand (p : Platen) (v : CommandValue) (s : State) : State :=
  match s.map.learnedCond.get p with
  | none =>
    let s := s.setMap { s.map with learnedCond := s.map.learnedCond.upd p (some v.seq) }
    s.setCond p { s.conds.get p with lastSeq := v.seq, lastOutcome := .learned }
  | some q => if v.seq = q then s else newCondCommand p v s

/-- CONDITIONER_COMMAND_DELIVERY (R120).  A delivery of the RESET's own frame that is taken within
the transparent period is applied as at any time, where R127 says that none reaches the engine and
R142 that no learned sequence is consulted (R161, R162 beside R127 and R142; DESIGN CHOICE, log
entry 48). -/
def execConditionerCommandDelivery (p : Platen) (v : CommandValue) (s : State) : Result :=
  nextPort (deliverCondCommand p v (s.takeUp (.conditionerCommandDelivery p v)))

/-- SWEEP(k), new (R121). -/
def execSweep (p : Platen) (k : Octet) (seq : Word16) (s : State) : Result :=
  nextPort (newCondCommand p ⟨1, k, seq⟩ (s.takeUp (.sweep p k seq)))

/-- PARK, new (R121). -/
def execPark (p : Platen) (seq : Word16) (s : State) : Result :=
  nextPort (newCondCommand p ⟨2, 0, seq⟩ (s.takeUp (.park p seq)))

/-- CLEAR_FAULT, new (R121). -/
def execClearFault (p : Platen) (seq : Word16) (s : State) : Result :=
  nextPort (newCondCommand p ⟨3, 0, seq⟩ (s.takeUp (.clearFault p seq)))

/-- OVERLOAD_ACK, new (R121). -/
def execOverloadAck (p : Platen) (seq : Word16) (s : State) : Result :=
  nextPort (newCondCommand p ⟨4, 0, seq⟩ (s.takeUp (.overloadAck p seq)))

/-- A step-start command: judged by R121, its outcome not recorded (R122). -/
def stepCommandAt (p : Platen) (c : StepCommand) (s : State) : State :=
  match c with
  | .sweep k =>
    let (s, o) := applyCondCommand p (.sweep k) s
    raiseCondRefusal p 1 o s
  | .park =>
    let (s, o) := applyCondCommand p .park s
    raiseCondRefusal p 2 o s

/-- STEP_CONDITIONER_COMMAND (R122).  One that is taken within the transparent period, such as that
of a START of the RESET's own frame, is judged as at any time, where R127 says that none reaches
the engine (R161, R162 beside R127; DESIGN CHOICE, log entry 48). -/
def execStepConditionerCommand (p : Platen) (c : StepCommand) (s : State) : Result :=
  nextPort (stepCommandAt p c (s.takeUp (.stepConditionerCommand p c)))

/-- A SWEEPING conditioner enters PARKING; any other is left (R122, R124). -/
def parkIfSweeping (p : Platen) (s : State) : State :=
  if (s.conds.get p).state = .sweeping then enterParking p false s else s

/-- PARK_REQUEST (R122). -/
def execParkRequest (p : Platen) (s : State) : Result :=
  nextPort (parkIfSweeping p (s.takeUp (.parkRequest p)))

/-- ESTOP_NOTICE_CONDITIONER (R124). -/
def execEstopNoticeConditioner (p : Platen) (s : State) : Result :=
  nextPort (parkIfSweeping p (s.takeUp (.estopNoticeConditioner p)))

/-- The rise of COND_OVERLOAD at engine p (R123; the timer: DEDUCED, log entry 21). -/
def overloadAt (p : Platen) (s : State) : State :=
  let c := s.conds.get p
  if c.state = .sweeping ∨ (c.state = .parking ∧ c.override = false) then
    enterFaulted p .overload c.posOut s
  else s

/-- COND_OVERLOAD_NOTICE (R123). -/
def execCondOverloadNotice (p : Platen) (s : State) : Result :=
  nextPort (overloadAt p (s.takeUp (.condOverloadNotice p)))

/-! ### Position updates and timers -/

/-- The distance between two positions. -/
def distance (a b : Nat) : Nat := (a - b) + (b - a)

/-- A position update judged in REACHING or PARKING (R117, R119). -/
def judgePosition (p : Platen) (fb : Nat) (s : State) : State :=
  let c := s.conds.get p
  match c.state, c.substate, c.profile with
  | .sweeping, .reaching, some k =>
    if distance fb c.target ≤ (s.profiles.get k).reachBand then
      let dwell := (s.segmentOf k c.segment).dwell
      let s := s.setCond p { c with substate := .dwelling, timer := dwell }
      if dwell = 0 then endSegment p s else s
    else s
  | .parking, _, _ =>
    if distance fb c.target ≤ c.parkBand then
      s.setCond p { c with state := .parked, override := false }
    else s
  | _, _, _ => s

/-- POSITION_UPDATE (R117, R119). -/
def execPositionUpdate (p : Platen) (fb : Nat) (s : State) : Result :=
  nextPort (judgePosition p fb (s.takeUp (.positionUpdate p fb)))

/-- The reach timer reaches 0 in REACHING (R117). -/
def reachTimeoutAt (p : Platen) (s : State) : State :=
  let c := s.conds.get p
  if c.state = .sweeping ∧ c.substate = .reaching then
    enterFaulted p .reachTimeout c.target (s.setCond p { c with timer := 0 })
  else s

/-- The dwell timer reaches 0 in DWELLING (R118). -/
def dwellEndAt (p : Platen) (s : State) : State :=
  let c := s.conds.get p
  if c.state = .sweeping ∧ c.substate = .dwelling then endSegment p s else s

/-- The park timer reaches 0 in PARKING (R119). -/
def parkTimeoutAt (p : Platen) (s : State) : State :=
  let c := s.conds.get p
  if c.state = .parking then
    enterFaulted p .reachTimeout c.target (s.setCond p { c with timer := 0 })
  else s

/-- REACH_TIMEOUT (R117). -/
def execReachTimeout (p : Platen) (s : State) : Result :=
  nextPort (reachTimeoutAt p (s.takeUp (.reachTimeout p)))

/-- DWELL_END (R118). -/
def execDwellEnd (p : Platen) (s : State) : Result :=
  nextPort (dwellEndAt p (s.takeUp (.dwellEnd p)))

/-- PARK_TIMEOUT (R119). -/
def execParkTimeout (p : Platen) (s : State) : Result :=
  nextPort (parkTimeoutAt p (s.takeUp (.parkTimeout p)))

/-- The tick at conditioner engine p: the timer of REACHING, DWELLING or PARKING falls by 1, and at
0 its event follows (R117, R118, R119). -/
def tickCond (s : State) (p : Platen) : State :=
  let c := s.conds.get p
  match c.state with
  | .sweeping =>
    if 1 < c.timer then s.setCond p { c with timer := c.timer - 1 }
    else if c.substate = .dwelling then dwellEndAt p s
    else reachTimeoutAt p s
  | .parking =>
    if 1 < c.timer then s.setCond p { c with timer := c.timer - 1 } else parkTimeoutAt p s
  | .parked | .faulted => s

/-! ### Park settings -/

/-- SET_PARK_POSITION (R116). -/
def execSetParkPosition (p : Platen) (v : Nat) (s : State) : Result :=
  let s := s.takeUp (.setParkPosition p v)
  .next (s.setCond p { s.conds.get p with parkPosition := v })

/-- SET_PARK_BAND (R116). -/
def execSetParkBand (p : Platen) (v : Nat) (s : State) : Result :=
  let s := s.takeUp (.setParkBand p v)
  .next (s.setCond p { s.conds.get p with parkBand := v })

/-- SET_PARK_TIMEOUT (R116). -/
def execSetParkTimeout (p : Platen) (v : Nat) (s : State) : Result :=
  let s := s.takeUp (.setParkTimeout p v)
  .next (s.setCond p { s.conds.get p with parkTimeout := v })

/-! ### Profile and segment writes (R115) -/

/-- Applies or drops a write to profile entry `k` (R115). -/
def applyProfile (isErase : Bool) (k : Fin 8) (e : ProfileEntry) (s : State) : State :=
  if s.profileClaimed k then s.raiseDropped .sweep .profile isErase k.val
  else (s.setProfiles (s.profiles.upd k e)).handWriteNotice (.profile k)

/-- Applies or drops a write to segment record `i` (R115). -/
def applySegment (isErase : Bool) (i : Fin 96) (r : SegmentRecord) (s : State) : State :=
  if s.segmentClaimed i then s.raiseDropped .sweep .segment isErase i.val
  else (s.setSegments (s.segments.upd i r)).handWriteNotice (.segment i)

/-- PROFILE_WRITE_APPLY (R115). -/
def execProfileWriteApply (k : Fin 8) (e : ProfileEntry) (s : State) : Result :=
  .next (applyProfile false k { e with valid := true } (s.takeUp (.profileWriteApply k e)))

/-- PROFILE_ERASE_APPLY (R115). -/
def execProfileEraseApply (k : Fin 8) (s : State) : Result :=
  .next (applyProfile true k .erased (s.takeUp (.profileEraseApply k)))

/-- SEGMENT_WRITE_APPLY (R115). -/
def execSegmentWriteApply (i : Fin 96) (r : SegmentRecord) (s : State) : Result :=
  .next (applySegment false i { r with valid := true } (s.takeUp (.segmentWriteApply i r)))

/-- SEGMENT_ERASE_APPLY (R115). -/
def execSegmentEraseApply (i : Fin 96) (s : State) : Result :=
  .next (applySegment true i .erased (s.takeUp (.segmentEraseApply i)))

end Sys2Proof.Machine
end

