-- ==== Sys2Proof/Machine/Dispense.lean ====
section
/-! DEFINITION. Slurry dispense (chapter 6): order ends, activation, strokes, flow checking, the
notices that end orders, and the writes applied to Line Config. -/

namespace Sys2Proof.Machine

open Sys2Proof

/-- The state of line l of platen p. -/
def State.lineOf (s : State) (p : Platen) (l : Line) : LineState := s.lines.get (lineIx p l)

/-- Replaces the state of line l of platen p. -/
def State.setLineOf (s : State) (p : Platen) (l : Line) (x : LineState) : State :=
  s.setLine (lineIx p l) x

/-- Replaces the orders of platen p's queue. -/
def State.setOrders (s : State) (p : Platen) (os : List Order) : State :=
  s.setQueue p { s.queues.get p with orders := os }

/-- An ACTIVE order of line l. -/
def activeOn (l : Line) (o : Order) : Bool := o.active && o.line == l

/-- A QUEUED order of line l. -/
def queuedOn (l : Line) (o : Order) : Bool := !o.active && o.line == l

/-- The ACTIVE order of line l of platen p, if any. -/
def State.activeOrder (s : State) (p : Platen) (l : Line) : Option Order :=
  (s.queues.get p).orders.find? (activeOn l)

/-- A line is ready when its elapsed time is at least its stroke period (R100). -/
def LineState.ready (x : LineState) : Bool := decide (x.config.strokePeriod ≤ x.elapsed)

/-- What the end of one order does besides leaving the queue: an ACTIVE order's owed mark is
cleared, and ORDER_ENDED is raised (R96). -/
def reportEnd (p : Platen) (st : EndStatus) (s : State) (o : Order) : State :=
  let s := if o.active then s.setLineOf p o.line { s.lineOf p o.line with owed := false } else s
  s.raise .orderEnded (.line (lineIx p o.line)) (detail o.ordinal.toNat (endStatusCode st))
    (w16 o.strokes)

/-- Ends every order of platen p that satisfies `which`, in queue order (R96). -/
def endOrders (p : Platen) (which : Order → Bool) (st : EndStatus) (s : State) : State :=
  let os := (s.queues.get p).orders
  (os.filter which).foldl (reportEnd p st) (s.setOrders p (os.filter fun o => !which o))

/-- Ends the first order of platen p that satisfies `which` (R96). -/
def endFirst (p : Platen) (which : Order → Bool) (st : EndStatus) (s : State) : State :=
  let os := (s.queues.get p).orders
  match os.find? which with
  | none => s
  | some o => reportEnd p st (s.setOrders p (os.eraseP which)) o

/-- The list with `f` applied to the first order that satisfies `which`. -/
def updOrder (which : Order → Bool) (f : Order → Order) : List Order → List Order
  | [] => []
  | o :: os => if which o then f o :: os else o :: updOrder which f os

/-- The actions of a miss count that reached its limit (R104), up to zeroing the count. -/
def flowFault (p : Platen) (l : Line) (s : State) : State :=
  let i := lineIx p l
  let ordinal :=
    match s.activeOrder p l with
    | some o => w16 o.ordinal.toNat
    | none => 0xFFFF#16
  let s := endFirst p (activeOn l) .flowFault s
  let action := (s.lineOf p l).config.flowAction
  let s := s.raise .flowFault (.line i) ordinal (w16 (flowActionCode action))
  let s :=
    match action, (s.docks.get p).docked with
    | .safeHead, some h => s.hand (.flowFaultNotice h)
    | _, _ => s
  s.setLineOf p l { s.lineOf p l with miss := 0 }

/-- Closes and judges line l's open flow window (R103, R104). -/
def closeWindow (p : Platen) (l : Line) (s : State) : State :=
  let x := s.lineOf p l
  match x.window with
  | none => s
  | some w =>
    if w.credited then s.setLineOf p l { x with window := none }
    else
      let s := s.setLineOf p l { x with window := none, miss := x.miss + 1 }
      if x.config.missLimit ≤ x.miss + 1 then flowFault p l s else s

/-- Opens a flow window for a stroke of line l (R100). -/
def openWindow (p : Platen) (l : Line) (s : State) : State :=
  let x := s.lineOf p l
  s.setLineOf p l { x with window := some ⟨x.config.flowWindow, false⟩ }

/-- A miss of line l's open window would reach its miss limit (R100, R104). -/
def LineState.missReaches (x : LineState) : Bool :=
  match x.window with
  | none => false
  | some w => !w.credited && decide (x.config.missLimit ≤ x.miss + 1)

/-- Counts a stroke: strokes made and the delivered counter rise by 1, and the idle timer is handed
a reload for a STEP or DIRECT order (R100, steps 4 and 5). -/
def countStroke (p : Platen) (l : Line) (o : Order) (s : State) : State :=
  let os := (s.queues.get p).orders
  let s := s.setOrders p (updOrder (activeOn l) (fun o => { o with strokes := o.strokes + 1 }) os)
  let x := s.lineOf p l
  let s := s.setLineOf p l { x with delivered := x.delivered + 1 }
  if o.source = .idleWet then s else s.hand (.idleTimerReload p)

/-- Issues one stroke for the ACTIVE order of line l (R100). -/
def issueStroke (p : Platen) (l : Line) (s : State) : State :=
  match s.activeOrder p l with
  | none => s
  | some o =>
    if o.count ≤ o.strokes then s
    else
      let x := s.lineOf p l
      let reaches := LineState.missReaches x
      let s := { s with pumpOut := s.pumpOut ++ [lineIx p l] }
      let s := s.setLineOf p l { x with elapsed := 0 }
      if reaches then
        openWindow p l (closeWindow p l (countStroke p l o s))
      else
        let s := countStroke p l o (openWindow p l (closeWindow p l s))
        if o.strokes + 1 = o.count then endFirst p (activeOn l) .done s else s

/-- Judges eligibility on line l (R99).  Each pass ends an order or activates one, so a fuel above
the number of orders reaches the end. -/
def judgeLine (p : Platen) (l : Line) : Nat → State → State
  | 0, s => s
  | fuel + 1, s =>
    if (s.queues.get p).orders.any (activeOn l) then s
    else
      match (s.queues.get p).orders.find? (queuedOn l) with
      | none => s
      | some o =>
        if !LineConfig.isEnabled (s.lineOf p l).config then
          judgeLine p l fuel (endFirst p (queuedOn l) .lineOff s)
        else if s.functionActive (.supplyLow p l) then
          judgeLine p l fuel (endFirst p (queuedOn l) .supplyLow s)
        else if !s.lineGateOpen (lineIx p l) then
          judgeLine p l fuel (endFirst p (queuedOn l) .lineOff s)
        else
          let s :=
            s.setOrders p
              (updOrder (queuedOn l) (fun o => { o with active := true }) (s.queues.get p).orders)
          if o.mode = .burst ∧ LineState.ready (s.lineOf p l) = true then
            judgeLine p l fuel (issueStroke p l s)
          else s

/-- Judges eligibility on every line of platen p, in ascending line order (R99).  Orders of several
lines that end here end in that order (DESIGN CHOICE, log entry 40). -/
def judgeOrders (p : Platen) (s : State) : State :=
  (List.finRange 4).foldl
    (fun s l => judgeLine p l ((s.queues.get p).orders.length + 1) s) s

/-- Judges eligibility after an event at engine p that removed an order from its queue; `before` is
the queue's length before the event (R99). -/
def judgeIfEnded (p : Platen) (before : Nat) (s : State) : State :=
  if (s.queues.get p).orders.length < before then judgeOrders p s else s

/-- The number of orders in platen p's queue. -/
def State.occupancy (s : State) (p : Platen) : Nat := (s.queues.get p).orders.length

/-- Raises ORDER_DROPPED for an offer (R97); reason ESTOP 0, FULL 1. -/
def raiseOrderDropped (p : Platen) (reason : Nat) (o : Offer) (s : State) : State :=
  s.raise .orderDropped (.platen p) (detail reason (orderSourceCode o.source))
    (w16 (o.line.val * 1024 + o.count))

/-- Judges an offer (R97). -/
def offerOrder (p : Platen) (o : Offer) (s : State) : State :=
  let q := s.queues.get p
  if o.source = .idleWet ∧ q.orders.any (fun x => x.source == .idleWet) = true then s
  else if s.functionActive .estop then raiseOrderDropped p 0 o s
  else if 8 ≤ q.orders.length then raiseOrderDropped p 1 o s
  else
    judgeOrders p
      (s.setQueue p
        { orders := q.orders ++ [⟨q.nextOrdinal, o.source, o.line, o.count, o.mode, 0, false⟩]
          nextOrdinal := q.nextOrdinal + 1 })

/-- ORDER_OFFER (R97).  One that comes of the RESET's own frame, a START's STEP order or a DISPENSE,
is judged as at any time when it is taken within the transparent period (R161, R162 beside R111;
DESIGN CHOICE, log entry 48). -/
def execOrderOffer (p : Platen) (o : Offer) (s : State) : Result :=
  .next (offerOrder p o (s.takeUp (.orderOffer p o)))

/-- The reload of platen p's idle timer (R86). -/
def reloadIdle (p : Platen) (s : State) : State :=
  let t := s.idle.get p
  s.setIdle p { t with seconds := t.interval, millis := 0 }

/-- A line's trigger by a cycle notice of head h (R102). -/
def triggerLine (p : Platen) (h : Head) (s : State) (l : Line) : State :=
  match s.activeOrder p l with
  | none => s
  | some o =>
    if o.mode = .single ∧ (o.source = .step h ∨ o.source = .direct) then
      let x := s.lineOf p l
      if x.owed then s
      else if LineState.ready x then issueStroke p l s
      else s.setLineOf p l { x with owed := true }
    else s

/-- A cycle notice of head h at platen p, if h is the docked head: every line's trigger in
ascending order, and a reload of the idle timer (R84, R86, R102; DEDUCED, log entry 20).  Orders of
several lines that end here end in ascending line order (DESIGN CHOICE, log entry 40). -/
def cycleNoticeAt (p : Platen) (h : Head) (s : State) : State :=
  if (s.docks.get p).docked = some h then
    let n := s.occupancy p
    reloadIdle p (judgeIfEnded p n ((List.finRange 4).foldl (triggerLine p h) s))
  else s

/-- CYCLE_NOTICE (R85, R86, R102).  One that a cycle delivery of the RESET's own frame hands acts as
at any time when it is taken within the transparent period, where R111 says that none reaches the
engine (R161, R162 beside R111; DESIGN CHOICE, log entry 48). -/
def execCycleNotice (p : Platen) (h : Head) (s : State) : Result :=
  .next (cycleNoticeAt p h (s.takeUp (.cycleNotice p h)))

/-- The BURST stroke of line l falls due: the line is ready and holds an ACTIVE BURST order
(R101). -/
def burstStroke (p : Platen) (l : Line) (s : State) : State :=
  match s.activeOrder p l with
  | none => s
  | some o =>
    if o.mode = .burst ∧ LineState.ready (s.lineOf p l) = true then issueStroke p l s else s

/-- The owed stroke of line l falls due: its owed mark is set and the line is ready (R102). -/
def owedStroke (p : Platen) (l : Line) (s : State) : State :=
  let x := s.lineOf p l
  if x.owed = true ∧ LineState.ready x = true then
    issueStroke p l (s.setLineOf p l { x with owed := false })
  else s

/-- BURST_STROKE (R101), with the eligibility that an ended order leaves to judge. -/
def execBurstStroke (p : Platen) (l : Line) (s : State) : Result :=
  let s := s.takeUp (.burstStroke p l)
  .next (judgeIfEnded p (s.occupancy p) (burstStroke p l s))

/-- OWED_STROKE (R102), with the eligibility that an ended order leaves to judge. -/
def execOwedStroke (p : Platen) (l : Line) (s : State) : Result :=
  let s := s.takeUp (.owedStroke p l)
  .next (judgeIfEnded p (s.occupancy p) (owedStroke p l s))

/-- A flow pulse credits an open, uncredited window and zeroes the miss count (R103). -/
def creditPulse (p : Platen) (l : Line) (s : State) : State :=
  let x := s.lineOf p l
  match x.window with
  | some w =>
    if w.credited then s
    else s.setLineOf p l { x with window := some { w with credited := true }, miss := 0 }
  | none => s

/-- FLOW_PULSE (R103). -/
def execFlowPulse (p : Platen) (l : Line) (s : State) : Result :=
  .next (creditPulse p l (s.takeUp (.flowPulse p l)))

/-- FLOW_WINDOW_CLOSE: the open window's remaining time reaches 0 (R103, R104). -/
def execFlowWindowClose (p : Platen) (l : Line) (s : State) : Result :=
  let s := s.takeUp (.flowWindowClose p l)
  .next (judgeIfEnded p (s.occupancy p) (closeWindow p l s))

/-- STEP_END_NOTICE: the head's SINGLE STEP orders end ABANDONED (R105). -/
def execStepEndNotice (p : Platen) (h : Head) (s : State) : Result :=
  .next
    (judgeOrders p
      (endOrders p (fun o => o.source == .step h && o.mode == .single) .abandoned
        (s.takeUp (.stepEndNotice p h))))

/-- HEAD_SAFE_NOTICE: all the head's STEP orders end ABANDONED (R105). -/
def execHeadSafeNotice (p : Platen) (h : Head) (s : State) : Result :=
  .next
    (judgeOrders p
      (endOrders p (fun o => o.source == .step h) .abandoned (s.takeUp (.headSafeNotice p h))))

/-- ESTOP_NOTICE_DISPENSE: every order ends STOPPED (R106). -/
def execEstopNoticeDispense (p : Platen) (s : State) : Result :=
  .next (endOrders p (fun _ => true) .stopped (s.takeUp (.estopNoticeDispense p)))

/-- SUPPLY_LOW_NOTICE: the line's ACTIVE order ends SUPPLY_LOW and eligibility is judged (R107). -/
def execSupplyLowNotice (p : Platen) (l : Line) (s : State) : Result :=
  .next
    (judgeOrders p
      (endOrders p (activeOn l) .supplyLow (s.takeUp (.supplyLowNotice p l))))

/-- LINE_GROUP_FAILED_NOTICE: every ACTIVE order ends LINE_OFF and eligibility is judged (R109). -/
def execLineGroupFailedNotice (p : Platen) (s : State) : Result :=
  .next
    (judgeOrders p
      (endOrders p (fun o => o.active) .lineOff (s.takeUp (.lineGroupFailedNotice p))))

/-- STOP_LINE_APPLY: every order of the line ends STOPPED (R108), also within the transparent period
for one of the RESET's own frame (R162 beside R111; DESIGN CHOICE, log entry 48). -/
def execStopLineApply (p : Platen) (l : Line) (s : State) : Result :=
  .next
    (judgeOrders p
      (endOrders p (fun o => o.line == l) .stopped (s.takeUp (.stopLineApply p l))))

/-! ### The tick at a dispense engine (R100) -/

/-- A line's flow window on a tick: the remaining time falls, and at 0 the window closes and is
judged (R103). -/
def tickWindow (p : Platen) (l : Line) (s : State) : State :=
  let x := s.lineOf p l
  match x.window with
  | none => s
  | some w =>
    if w.remaining ≤ 1 then closeWindow p l s
    else s.setLineOf p l { x with window := some { w with remaining := w.remaining - 1 } }

/-- A line's tick: elapsed time, flow window, then the BURST or owed stroke that falls due. -/
def tickLine (p : Platen) (s : State) (l : Line) : State :=
  let x := s.lineOf p l
  let s := s.setLineOf p l { x with elapsed := min (x.elapsed + 1) 2000 }
  owedStroke p l (burstStroke p l (tickWindow p l s))

/-- The tick at the dispense engine of platen p: the lines in ascending order (R100), then
eligibility if an order ended (R99).  Orders of several lines that end on one tick end in ascending
line order (DESIGN CHOICE, log entry 40). -/
def tickDispense (s : State) (p : Platen) : State :=
  judgeIfEnded p (s.occupancy p) ((List.finRange 4).foldl (tickLine p) s)

/-! ### Line Config writes (R93) -/

/-- Applies or drops a write to Line Config entry `i` (R93). -/
def applyLine (isErase : Bool) (i : LineIx) (e : LineConfig) (s : State) : State :=
  if s.lineInUse (platenOfLine i) (lineOfLine i) then s.raiseDropped .line .line isErase i.val
  else
    (s.setLine i { s.lines.get i with config := e, window := none, miss := 0 }).handWriteNotice
      (.line i)

/-- LINE_WRITE_APPLY (R93), also within the transparent period for one of the RESET's own frame
(R162 beside R111; DESIGN CHOICE, log entry 48). -/
def execLineWriteApply (i : LineIx) (e : LineConfig) (s : State) : Result :=
  .next (applyLine false i { e with valid := true } (s.takeUp (.lineWriteApply i e)))

/-- LINE_ERASE_APPLY (R93), also within the transparent period for one of the RESET's own frame
(R162 beside R111; DESIGN CHOICE, log entry 48). -/
def execLineEraseApply (i : LineIx) (s : State) : Result :=
  .next (applyLine true i .erased (s.takeUp (.lineEraseApply i)))

end Sys2Proof.Machine
end

