-- ==== Sys2Proof/Machine/Zone.lean ====
section
/-! DEFINITION. Zone setpoint arithmetic (chapter 3) and the band monitor (4.4): the cycle
arithmetic of stage 4, the settle countdown, safe-hold arithmetic, the band monitor of stage 3 and
the writes applied to Zone Config. -/

namespace Sys2Proof.Machine

open Sys2Proof

/-- The trim step: the stored trim clamped to the step's limit (R50). -/
def clampedTrim (trim : Int) (limit : Nat) : Int :=
  if limit = 0 then 0 else clampInt (-(limit : Int)) limit trim

/-- The composed target: target plus clamped trim, clamped to floor..ceiling (R51). -/
def composedTarget (target : Nat) (tc : Int) (floor ceiling : Nat) : Nat :=
  (clampInt floor ceiling ((target : Int) + tc)).toNat

/-- The differential step: `r` clamped to the window of width D about the zone inside (R54). -/
def diffClamp (r inner d : Nat) : Nat := clampNat (inner - d) (inner + d) r

/-- The settle counter lowered by 1, not below 0 (R53). -/
def ZoneChannel.countdown (z : ZoneChannel) : ZoneChannel := { z with settle := z.settle - 1 }

/-- The zone inside zone `z`, for the zones 2 to 6 that have a differential limit (R42, R54). -/
def innerZone (z : Zone) : Option Zone :=
  if h : 2 ≤ z.val then some ⟨z.val - 1, by omega⟩ else none

/-- The setpoint a RUNNING stage 4 derives for zone `z` of head `h` before the floor and ceiling
clamp, with the ramped value it came from (R50 to R54): ramped value, composed target, and value
after the differential step. -/
def rampAndDifferential (h : Head) (z : Zone) (r : StepRecord) (trim : Int) (s : State) :
    Nat × Nat × Nat :=
  let zc := s.zoneConfig (zoneCh h z)
  let tc := clampedTrim trim r.trimLimit
  let c := composedTarget (r.targets.get z) tc zc.floor zc.ceiling
  let rate := if z.val = 0 then r.ringRate else r.membraneRate
  let ramped := approach (s.zoneOf h z).setpoint c rate
  let limited :=
    match innerZone z with
    | some y =>
      if zc.diffLimit = 0 then ramped
      else diffClamp ramped (s.zoneOf h y).setpoint zc.diffLimit
    | none => ramped
  (ramped, c, limited)

/-- Stage 4 of a RUNNING delivery for one zone (R49 to R56). -/
def deriveZone (h : Head) (r : StepRecord) (trims : Tab 7 Int) (s : State) (z : Zone) : State :=
  let i := zoneCh h z
  let zc := s.zoneConfig i
  let old := ZoneChannel.countdown (s.zones.get i)
  let (ramped, c, limited) := rampAndDifferential h z r (trims.get z) s
  let ramping := decide (ramped ≠ c)
  let settle := if old.ramping && !ramping then r.settleMask else old.settle
  let s :=
    s.setZone i
      { old with ramping := ramping, settle := settle, diffLimited := decide (limited ≠ ramped) }
  s.setSetpoint i (clampNat zc.floor zc.ceiling limited)

/-- Stage 4 of a RUNNING delivery: every zone in ascending order (R49). -/
def deriveZones (h : Head) (r : StepRecord) (trims : Tab 7 Int) (s : State) : State :=
  (List.finRange 7).foldl (deriveZone h r trims) s

/-- The settle countdown of zone `z` (R53). -/
def countdownZone (h : Head) (s : State) (z : Zone) : State :=
  s.setZone (zoneCh h z) (ZoneChannel.countdown (s.zoneOf h z))

/-- Stage 4 of a PAUSED delivery: the settle countdown of every zone (R49, R53). -/
def countdownZones (h : Head) (s : State) : State := (List.finRange 7).foldl (countdownZone h) s

/-- A step start at zone `z`: the settle counter 0 and the ramping mark set (R28, R53). -/
def maskZone (h : Head) (s : State) (z : Zone) : State :=
  s.setZone (zoneCh h z) { s.zoneOf h z with ramping := true, settle := 0 }

/-- A step start at every zone (R28). -/
def maskZones (h : Head) (s : State) : State := (List.finRange 7).foldl (maskZone h) s

/-- CLEAR at one zone: setpoint and code 0, marks, counter and band monitor cleared (R24, R48,
R75). -/
def clearZone (h : Head) (s : State) (z : Zone) : State :=
  let i := zoneCh h z
  let s :=
    s.setZone i
      { s.zones.get i with
        ramping := false, settle := 0, diffLimited := false, debounce := 0, excursion := false,
        monitorStale := false }
  s.setSetpoint i 0

/-- CLEAR at every zone of head `h`. -/
def clearZones (h : Head) (s : State) : State := (List.finRange 7).foldl (clearZone h) s

/-- Safe-hold arithmetic of one zone on a tick (R58). -/
def safeMoveZone (h : Head) (s : State) (z : Zone) : State :=
  let i := zoneCh h z
  let zc := s.zoneConfig i
  s.setSetpoint i (approach (s.zones.get i).setpoint zc.safeValue zc.safeRate)

/-- Safe-hold settle of head `h` on a tick: zones in order, then the substate (R37, R58). -/
def safeSettle (h : Head) (s : State) : State :=
  let s := (List.finRange 7).foldl (safeMoveZone h) s
  s.setHead h { s.heads.get h with substate := s.safeSubstate h }

/-! ### Band monitor (R70 to R74) -/

/-- The kind of an episode that begins (R72, R73). -/
inductive Episode where
  | deviation | stale
  deriving DecidableEq, Repr

/-- What a monitor hands its head: whether the zone met its part of the settled test, and whether
an episode began (R70). -/
structure Verdict where
  met : Bool
  episode : Option Episode
  deriving DecidableEq, Repr

/-- One evaluation of a band monitor: the zone channel and the verdict, with the deviation (R71 to
R73).  `band` is the step's band, `fb` the filter's feedback and `stale` its stale mark.  A count
past a lowered debounce length comes down to that length (DESIGN CHOICE, log entry 32). -/
def judgeBand (z : ZoneChannel) (band debounceCode fb : Nat) (stale : Bool) :
    ZoneChannel × Verdict :=
  if band = 0 then
    ({ z with debounce := 0, excursion := false, monitorStale := false }, ⟨false, none⟩)
  else
    let z1 := if ZoneChannel.masked z then { z with debounce := 0, excursion := false } else z
    if stale then
      ({ z1 with monitorStale := true }, ⟨false, if z.monitorStale then none else some .stale⟩)
    else
      let z2 := { z1 with monitorStale := false }
      if ZoneChannel.masked z then (z2, ⟨false, none⟩)
      else if ((fb : Int) - z.setpoint).natAbs ≤ band then
        ({ z2 with debounce := 0, excursion := false }, ⟨true, none⟩)
      else
        let len := debounceLength debounceCode
        let n := min (z2.debounce + 1) len
        if z2.excursion then ({ z2 with debounce := n }, ⟨false, none⟩)
        else if n = len then
          ({ z2 with debounce := n, excursion := true }, ⟨false, some .deviation⟩)
        else ({ z2 with debounce := n }, ⟨false, none⟩)

/-- The band monitor of zone `z` of head `h` at stage 3, with its BAND_EXCURSION (R70 to R74). -/
def bandMonitor (h : Head) (band : Nat) (z : Zone) (s : State) : State × Verdict :=
  let i := zoneCh h z
  let zone := s.zones.get i
  let f := s.filters.get (chanOfZone i)
  let (zone', v) := judgeBand zone band (s.zoneConfig i).bandDebounce f.feedback f.stale
  let s := s.setZone i zone'
  match v.episode with
  | none => (s, v)
  | some .stale => (s.raise .bandExcursion (.zone i) 1 0, v)
  | some .deviation =>
    (s.raise .bandExcursion (.zone i) 0 (detailSigned ((f.feedback : Int) - zone.setpoint)), v)

/-! ### Zone Config writes (R45, R46, R65) -/

/-- The setpoint of a zone brought within the limits of its new entry, by its head's state. -/
def setpointUnder (st : HeadState) (e : ZoneConfig) (v : Nat) : Nat :=
  match st with
  | .idle => 0
  | .safeHold => min v e.ceiling
  | .done | .running | .paused => clampNat e.floor e.ceiling v

/-- Applies or drops a write to Zone Config entry `c` (R45, R46, R65). -/
def applyZone (isErase : Bool) (c : ZoneCh) (e : ZoneConfig) (s : State) : State :=
  let h := headOfZone c
  if (s.heads.get h).isActive then s.raiseDropped .zone .zone isErase c.val
  else
    let z := s.zones.get c
    let s := s.setZone c { z with config := e }
    let s :=
      s.setSetpoint c (setpointUnder (s.heads.get h).state (ZoneConfig.effective e) z.setpoint)
    let f := s.filters.get (chanOfZone c)
    let s := s.setFilter (chanOfZone c) { f with sum := 0, count := 0 }
    let s :=
      if (s.heads.get h).state = .safeHold then
        s.setHead h { s.heads.get h with substate := s.safeSubstate h }
      else s
    s.handWriteNotice (.zone c)

/-- ZONE_WRITE_APPLY (R45). -/
def execZoneWriteApply (c : ZoneCh) (e : ZoneConfig) (s : State) : Result :=
  nextPort (applyZone false c { e with valid := true } (s.takeUp (.zoneWriteApply c e)))

/-- ZONE_ERASE_APPLY (R45). -/
def execZoneEraseApply (c : ZoneCh) (s : State) : Result :=
  nextPort (applyZone true c .erased (s.takeUp (.zoneEraseApply c)))

end Sys2Proof.Machine
end

