-- ==== Sys2Proof/Machine/Head.lean ====
section
/-! DEFINITION. The head engines (chapter 2): head commands and their gates, step starts and ends,
safe hold, the five stages of a cycle delivery, and the notices that stop a head. -/

namespace Sys2Proof.Machine

open Sys2Proof

/-- Head commands (R20, Table 13-3). -/
inductive HeadCommand where
  | nop | start (p : Octet) | pause | resume | skip | abort | clear | unknown
  deriving DecidableEq, Repr

/-- The command of a code and argument (Table 13-3). -/
def headCommandOf (code arg : Octet) : HeadCommand :=
  match code.toNat with
  | 0 => .nop
  | 1 => .start arg
  | 2 => .pause
  | 3 => .resume
  | 4 => .skip
  | 5 => .abort
  | 6 => .clear
  | _ => .unknown

/-! ### Safe hold (R34 to R36) -/

/-- The states in which a cause makes the head enter SAFE_HOLD (Table 2-5). -/
def causeEnters (c : SafeCause) (st : HeadState) : Bool :=
  match st with
  | .running => c != .none
  | .paused => c != .none && c != .stepTimeout
  | .done => c != .none && c != .stepTimeout && c != .cadenceLost && c != .tableFailed
  | .idle | .safeHold => false

/-- Entry to SAFE_HOLD from RUNNING, PAUSED or DONE (R35). -/
def enterSafeHold (h : Head) (cause : SafeCause) (s : State) : State :=
  let r := s.heads.get h
  let s := if r.isActive then s.hand (.programRelease h) else s
  let s :=
    match s.platenOf h with
    | some p => s.handAll [.headSafeNotice p h, .parkRequest p]
    | none => s
  let s :=
    s.raise .safeHoldEntered (.head h) (w16 (safeCauseCode cause)) (w16 (headStateCode r.state))
  s.setHead h
    { r with cause := cause, skip := false, state := .safeHold, substate := s.safeSubstate h }

/-- A safe-hold cause reaching a head: it enters SAFE_HOLD in the states of Table 2-5, and in any
other state nothing changes (R34, R36). -/
def safeHoldCause (h : Head) (cause : SafeCause) (s : State) : State :=
  if causeEnters cause (s.heads.get h).state then enterSafeHold h cause s else s

/-- OVERPRESSURE_NOTICE (R77). -/
def execOverpressureNotice (h : Head) (s : State) : Result :=
  .next (safeHoldCause h .overpressure (s.takeUp (.overpressureNotice h)))

/-- CADENCE_LOST_NOTICE (R34, R172). -/
def execCadenceLostNotice (h : Head) (s : State) : Result :=
  .next (safeHoldCause h .cadenceLost (s.takeUp (.cadenceLostNotice h)))

/-- ESTOP_NOTICE_HEAD (R34, R176). -/
def execEstopNoticeHead (h : Head) (s : State) : Result :=
  .next (safeHoldCause h .estop (s.takeUp (.estopNoticeHead h)))

/-- TABLE_FAILED_NOTICE (R34, R167). -/
def execTableFailedNotice (h : Head) (s : State) : Result :=
  .next (safeHoldCause h .tableFailed (s.takeUp (.tableFailedNotice h)))

/-- FLOW_FAULT_NOTICE (R34, R104). -/
def execFlowFaultNotice (h : Head) (s : State) : Result :=
  .next (safeHoldCause h .flowFault (s.takeUp (.flowFaultNotice h)))

/-! ### Step starts (R28) -/

/-- The index of step `idx` of program `p` in the Step Store. -/
def State.stepRecordOf (s : State) (p : Fin 16) (idx : Nat) : StepRecord :=
  if h : (s.store.dir.get p).first + idx < 96 then
    s.store.steps.get ⟨(s.store.dir.get p).first + idx, h⟩
  else .erased

/-- The line named by a record's dispense part (DESIGN CHOICE, log entry 27). -/
def stepLine (r : StepRecord) : Line := ⟨r.line.toNat % 4, by omega⟩

/-- The mode named by a record's dispense part. -/
def stepMode (r : StepRecord) : OrderMode := if r.mode.toNat = 1 then .burst else .single

/-- The step-start actions a record hands to platen `p`, in order (R28). -/
def stepActions (h : Head) (p : Platen) (r : StepRecord) : List Instr :=
  (if r.dispense then [.orderOffer p ⟨.step h, stepLine r, r.count, stepMode r⟩] else []) ++
    (match r.conditioner with
      | .none => []
      | .sweep => [.stepConditionerCommand p (.sweep r.profile)]
      | .park => [.stepConditionerCommand p .park])

/-- A step start of step `idx` of program `p` (R28). -/
def startStep (h : Head) (p : Fin 16) (idx : Nat) (s : State) : State :=
  let rec' := s.stepRecordOf p idx
  let r := s.heads.get h
  let s :=
    s.setHead h
      { r with
        stepIndex := idx, context := some rec', cycleCount := 0, settledRun := 0, skip := false,
        latch := r.endpoint }
  let s := maskZones h s
  match s.platenOf h with
  | some pl => s.handAll (stepActions h pl rec')
  | none => s

/-! ### Head commands (R19 to R24) -/

/-- The first failed gate among gates 3 to 6 of a START of head `h` (R21). -/
def startVerdict (h : Head) (s : State) : Option HeadOutcome :=
  if !(s.gateOpen .cellmap && s.gateOpen .program && s.zoneGateOpen h) then some .gated
  else if s.cadence.state ≠ .locked then some .cadence
  else if s.functionActive .estop then some .estop
  else if s.functionActive .airLow then some .airLow
  else none

/-- START(p) in IDLE: the six gates, the START request at the Program Store, and step 0 (R8,
R21). -/
def startHead (h : Head) (p : Octet) (s : State) : State × HeadOutcome :=
  match s.platenOf h with
  | none => (s, .notDocked)
  | some _ =>
    let s := s.takeRelease h
    match s.validProgram p with
    | none => (s, .badProgram)
    | some i =>
      match startVerdict h s with
      | some reason => (s, reason)
      | none =>
        let s := s.setClaim h (some i)
        let s := s.setHead h { s.heads.get h with program := some i, state := .running }
        (startStep h i 0 s, .accepted)

/-- CLEAR accepted: the head becomes IDLE and its zones vent (R24, R48, R75). -/
def clearHead (h : Head) (s : State) : State :=
  let s := clearZones h s
  s.setHead h
    { s.heads.get h with
      state := .idle, substate := .none, cause := .none, skip := false, latch := none }

/-- Applies a command in the head's present state: the state after and the outcome (Table 2-3). -/
def applyHeadCommand (h : Head) (cmd : HeadCommand) (s : State) : State × HeadOutcome :=
  let r := s.heads.get h
  match cmd with
  | .nop => (s, .same)
  | .start p =>
    match r.state with
    | .idle => startHead h p s
    | .running | .paused | .done | .safeHold => (s, .notIdle)
  | .pause =>
    match r.state with
    | .running => (s.setHead h { r with state := .paused }, .accepted)
    | .paused => (s, .same)
    | .idle | .done | .safeHold => (s, .notRunning)
  | .resume =>
    match r.state with
    | .paused => (s.setHead h { r with state := .running }, .accepted)
    | .running => (s, .same)
    | .idle | .done | .safeHold => (s, .notPaused)
  | .skip =>
    match r.state with
    | .running => (s.setHead h { r with skip := true }, .accepted)
    | .idle | .paused | .done | .safeHold => (s, .notRunning)
  | .abort =>
    match r.state with
    | .running | .paused | .done => (enterSafeHold h .aborted s, .accepted)
    | .idle | .safeHold => (s, .same)
  | .clear =>
    match r.state with
    | .idle => (s, .same)
    | .running | .paused => (s, .busy)
    | .done => (clearHead h s, .accepted)
    | .safeHold =>
      if r.substate = .settled then (clearHead h s, .accepted) else (s, .notSettled)
  | .unknown => (s, .badCommand)

/-- Raises CMD_REFUSED for a refused head command (R19). -/
def raiseHeadRefusal (h : Head) (code : Octet) (o : HeadOutcome) (s : State) : State :=
  if HeadOutcome.isRefusal o then
    s.raise .cmdRefused (.head h) (w16 code.toNat) (w16 (headOutcomeCode o))
  else s

/-- A new HEAD_COMMAND: its sequence is learned, it is applied, and sequence and outcome are
recorded (R19, third case). -/
def newHeadCommand (h : Head) (v : CommandValue) (s : State) : State :=
  let s := s.setMap { s.map with learnedHead := s.map.learnedHead.upd h (some v.seq) }
  let (s, o) := applyHeadCommand h (headCommandOf v.code v.arg) s
  let s := s.setHead h { s.heads.get h with lastSeq := v.seq, lastOutcome := o }
  raiseHeadRefusal h v.code o s

/-- START, new (R21). -/
def execStart (h : Head) (program : Octet) (seq : Word16) (s : State) : Result :=
  .next (newHeadCommand h ⟨1, program, seq⟩ (s.takeUp (.start h program seq)))

/-- PAUSE, new (R22). -/
def execPause (h : Head) (seq : Word16) (s : State) : Result :=
  .next (newHeadCommand h ⟨2, 0, seq⟩ (s.takeUp (.pause h seq)))

/-- RESUME, new (R22). -/
def execResume (h : Head) (seq : Word16) (s : State) : Result :=
  .next (newHeadCommand h ⟨3, 0, seq⟩ (s.takeUp (.resume h seq)))

/-- SKIP, new (R23). -/
def execSkip (h : Head) (seq : Word16) (s : State) : Result :=
  .next (newHeadCommand h ⟨4, 0, seq⟩ (s.takeUp (.skip h seq)))

/-- ABORT, new (R24). -/
def execAbort (h : Head) (seq : Word16) (s : State) : Result :=
  .next (newHeadCommand h ⟨5, 0, seq⟩ (s.takeUp (.abort h seq)))

/-- CLEAR, new (R24). -/
def execClear (h : Head) (seq : Word16) (s : State) : Result :=
  nextPort (newHeadCommand h ⟨6, 0, seq⟩ (s.takeUp (.clear h seq)))

/-- NOP, new (R20). -/
def execNop (h : Head) (seq : Word16) (s : State) : Result :=
  .next (newHeadCommand h ⟨0, 0, seq⟩ (s.takeUp (.nop h seq)))

/-! ### The stages of a cycle delivery (R25) -/

/-- Whether a command value starts a step at stage 1: an accepted START, that is a new one that
takes the head from IDLE to RUNNING (R26). -/
def startedStep (before after : HeadState) : Bool := before == .idle && after == .running

/-- Stage 1: the command value, if one was taken, against the learned sequence (R19, R139). -/
def stageCommand (h : Head) (cmd : Option CommandValue) (s : State) : State :=
  match cmd with
  | none => s
  | some v =>
    match s.map.learnedHead.get h with
    | none =>
      let s := s.setMap { s.map with learnedHead := s.map.learnedHead.upd h (some v.seq) }
      s.setHead h { s.heads.get h with lastSeq := v.seq, lastOutcome := .learned }
    | some q => if v.seq = q then s else newHeadCommand h v s

/-- The trims after stage 2: each value carried replaces the stored one (R26). -/
def storeTrims (stored : Tab 7 Int) (carried : Tab 7 (Option Int)) : Tab 7 Int :=
  Tab.ofFn fun z =>
    match carried.get z with
    | some t => t
    | none => stored.get z

/-- The endpoint latch after stage 2 (R26). -/
def settleLatch (r : HeadRecord) (started : Bool) : Option Nat :=
  if started then r.endpoint
  else if r.isActive && r.latch == none then r.endpoint
  else r.latch

/-- Stage 2: endpoint, trims and latch (R26). -/
def stageInputs (h : Head) (d : Delivery) (started : Bool) (s : State) : State :=
  let r := s.heads.get h
  let endpoint :=
    match d.endpoint with
    | some e => some e
    | none => r.endpoint
  let r := { r with endpoint := endpoint, trims := storeTrims r.trims d.trims }
  s.setHead h { r with latch := settleLatch r started }

/-- The band action of a zone applied to its head at stage 3 (R27). -/
def applyBandAction (h : Head) (a : BandAction) (s : State) : State :=
  match a with
  | .report => s
  | .hold =>
    if (s.heads.get h).state = .running then s.setHead h { s.heads.get h with state := .paused }
    else s
  | .safe => safeHoldCause h .excursion s

/-- One zone at stage 3: monitor, settled test, and band action if an episode begins (R27). -/
def stageBandZone (h : Head) (band : Nat) (acc : State × Bool) (z : Zone) : State × Bool :=
  let (s, v) := bandMonitor h band z acc.1
  let s :=
    match v.episode with
    | some _ => applyBandAction h (s.zoneConfig (zoneCh h z)).bandAction s
    | none => s
  (s, acc.2 && v.met)

/-- The band of the head's current or last step (R27, R70). -/
def stepBand (r : HeadRecord) : Nat :=
  match r.context with
  | some c => c.band
  | none => 0

/-- Stage 3: every zone in order; whether the delivery met the settled test (R27). -/
def stageBand (h : Head) (s : State) : State × Bool :=
  (List.finRange 7).foldl (stageBandZone h (stepBand (s.heads.get h))) (s, true)

/-- Stage 4: setpoints in RUNNING, the settle countdown alone in PAUSED (R25, R49). -/
def stageSetpoints (h : Head) (s : State) : State :=
  let r := s.heads.get h
  match r.state, r.context with
  | .running, some c => deriveZones h c r.trims s
  | .running, none => s
  | .paused, _ => countdownZones h s
  | .idle, _ => s
  | .done, _ => s
  | .safeHold, _ => s

/-- What a step's end hands to the docked platen (R33). -/
def handStepEnd (h : Head) (s : State) : State :=
  match s.platenOf h with
  | some p => s.hand (.stepEndNotice p h)
  | none => s

/-- The number of steps of the head's program (R1). -/
def State.stepCount (s : State) (r : HeadRecord) : Nat :=
  match r.program with
  | some p => (s.store.dir.get p).count
  | none => 0

/-- A step's normal end: the next step starts, or the head is DONE (R33). -/
def endStep (h : Head) (s : State) : State :=
  let s := handStepEnd h s
  let r := s.heads.get h
  let s := s.setHead h { r with skip := false }
  match r.program with
  | none => s
  | some p =>
    if r.stepIndex + 1 < s.stepCount r then startStep h p (r.stepIndex + 1) s
    else
      ((s.setHead h { r with skip := false, state := .done }).hand (.programRelease h)).raise
        .programDone (.head h) (w16 p.val) (w16 (s.stepCount r))

/-- A step's end condition at stage 5 (R30, R31). -/
def endCondition (r : HeadRecord) (c : StepRecord) : Bool :=
  match c.endKind with
  | .duration => r.cycleCount == c.endCount
  | .endpoint =>
    match r.latch with
    | some l => r.endpoint != some l
    | none => false
  | .settled => r.settledRun == c.endCount

/-- The head record after stage 5's counting: step cycle count and settled run (R29, R31). -/
def countCycle (r : HeadRecord) (c : StepRecord) (met : Bool) : HeadRecord :=
  { r with
    cycleCount := min (r.cycleCount + 1) 65535
    settledRun :=
      if c.endKind = .settled then (if met then min (r.settledRun + 1) 255 else 0)
      else r.settledRun }

/-- What stage 5 judges of a step, in the order of R29. -/
inductive StepJudgement where
  | endsNormally | timesOut | goesOn
  deriving DecidableEq, Repr

/-- The judgement of a step at stage 5, after counting (R29). -/
def judgeStep (r : HeadRecord) (c : StepRecord) (skipBefore : Bool) : StepJudgement :=
  if r.skip && skipBefore then .endsNormally
  else if endCondition r c then .endsNormally
  else if c.endKind ≠ .duration ∧ c.maxCycles ≤ r.cycleCount then .timesOut
  else .goesOn

/-- A step's timeout: STEP_TIMEOUT, then NEXT or FAULT (R32). -/
def timeoutStep (h : Head) (c : StepRecord) (s : State) : State :=
  let s :=
    s.raise .stepTimeout (.head h) (w16 (s.heads.get h).stepIndex) (w16 c.timeoutAction.toNat)
  if c.timeoutAction.toNat = 1 then safeHoldCause h .stepTimeout s else endStep h s

/-- Stage 5: count, cycle notice, and the step's end (R29, R85). -/
def stageEnd (h : Head) (skipBefore met : Bool) (s : State) : State :=
  let r := s.heads.get h
  match r.context with
  | none => s
  | some c =>
    let r := countCycle r c met
    let s := s.setHead h r
    let s :=
      match s.platenOf h with
      | some p => s.hand (.cycleNotice p h)
      | none => s
    match judgeStep r c skipBefore with
    | .endsNormally => endStep h s
    | .timesOut => timeoutStep h c s
    | .goesOn => s

/-- Stage 3 runs in RUNNING, PAUSED and DONE (Table 2-4). -/
def runsBand (st : HeadState) : Bool := st == .running || st == .paused || st == .done

/-- A cycle delivery at head `h`: the five stages, each judged on the state as it stands (R25). -/
def deliverCycle (h : Head) (d : Delivery) (s0 : State) : State :=
  let s1 := stageCommand h d.command s0
  let s2 :=
    stageInputs h d (startedStep (s0.heads.get h).state (s1.heads.get h).state) s1
  let (s3, met) := if runsBand (s2.heads.get h).state then stageBand h s2 else (s2, false)
  let s4 := stageSetpoints h s3
  if (s4.heads.get h).state = .running then stageEnd h (s0.heads.get h).skip met s4 else s4

/-- CYCLE_DELIVERY (R25).  One of the RESET's own frame may be taken within the transparent period,
and R161 has a START in it judged as usual.  That the rest of such a delivery, a CLEAR or an ABORT
among it, acts as at any time is the model's, where R60 has the heads keep their states and R142 has
no learned sequence consulted (DESIGN CHOICE, log entry 48). -/
def execCycleDelivery (h : Head) (d : Delivery) (s : State) : Result :=
  nextPort (deliverCycle h d (s.takeUp (.cycleDelivery h d)))

/-- The tick at head h: the safe-hold settle in SAFE_HOLD (R18, R37). -/
def tickHead (s : State) (h : Head) : State :=
  if (s.heads.get h).state = .safeHold then safeSettle h s else s

end Sys2Proof.Machine
end

