-- ==== Sys2Proof/Machine/Dock.lean ====
section
/-! DEFINITION. The Dock Table and the platen idle timers (chapter 5). -/

namespace Sys2Proof.Machine

open Sys2Proof

/-- The code of NONE in a DOCK_COMMAND (Table 13-3). -/
def dockNoneCode : Octet := 0xFF#8

/-- Empties platen p's entry if it holds head h. -/
def undockAt (h : Head) (s : State) (p : Platen) : State :=
  if (s.docks.get p).docked = some h then s.setDock p { s.docks.get p with docked := none } else s

/-- Empties every entry that holds head h (R81, check 5). -/
def undock (h : Head) (s : State) : State := (List.finRange 3).foldl (undockAt h) s

/-- Applies a dock command naming head h: checks 2 to 5 (R81). -/
def dockHead (p : Platen) (h : Head) (s : State) : State × DockOutcome :=
  if (s.docks.get p).docked = some h then (s, .same)
  else if (s.docks.get p).docked ≠ none then (s, .platenTaken)
  else if (s.heads.get h).isActive then (s, .headBusy)
  else
    let s := undock h s
    (s.setDock p { s.docks.get p with docked := some h }, .accepted)

/-- Applies a dock command with NONE: checks 6 to 8 (R81). -/
def dockNone (p : Platen) (s : State) : State × DockOutcome :=
  match (s.docks.get p).docked with
  | none => (s, .same)
  | some h =>
    if (s.heads.get h).isActive then (s, .headBusy)
    else (s.setDock p { s.docks.get p with docked := none }, .accepted)

/-- Applies a dock command with head code `x` (R81). -/
def applyDock (p : Platen) (x : Octet) (s : State) : State × DockOutcome :=
  if x = dockNoneCode then dockNone p s
  else if h : x.toNat < 4 then dockHead p ⟨x.toNat, h⟩ s
  else (s, .badCommand)

/-- A new DOCK_COMMAND: its sequence is learned, it is applied, and sequence and outcome are
recorded (R80, "Different sequence"). -/
def newDock (p : Platen) (x : Octet) (seq : Word16) (s : State) : State :=
  let s := s.setMap { s.map with learnedDock := s.map.learnedDock.upd p (some seq) }
  let (s, o) := applyDock p x s
  let s := s.setDock p { s.docks.get p with lastSeq := seq, lastOutcome := o }
  if DockOutcome.isRefusal o then
    s.raise .cmdRefused (.platen p) (w16 x.toNat) (w16 (dockOutcomeCode o))
  else s

/-- A DOCK_COMMAND value delivered: compared with the learned sequence (R80, R139). -/
def deliverDock (p : Platen) (v : DockValue) (s : State) : State :=
  match s.map.learnedDock.get p with
  | none =>
    let s := s.setMap { s.map with learnedDock := s.map.learnedDock.upd p (some v.seq) }
    s.setDock p { s.docks.get p with lastSeq := v.seq, lastOutcome := .learned }
  | some q => if v.seq = q then s else newDock p v.code v.seq s

/-- DOCK_DELIVERY (R80).  One of the RESET's own frame that is taken within the transparent period
is judged as at any time, where R90 has the Dock Table stand still and R142 has no learned sequence
consulted (R161, R162 beside R90 and R142; DESIGN CHOICE, log entry 48). -/
def execDockDelivery (p : Platen) (v : DockValue) (s : State) : Result :=
  .next (deliverDock p v (s.takeUp (.dockDelivery p v)))

/-- DOCK_COMMAND_HEAD, new (R81). -/
def execDockCommandHead (p : Platen) (code : Octet) (seq : Word16) (s : State) : Result :=
  .next (newDock p code seq (s.takeUp (.dockCommandHead p code seq)))

/-- DOCK_COMMAND_NONE, new (R81). -/
def execDockCommandNone (p : Platen) (seq : Word16) (s : State) : Result :=
  .next (newDock p dockNoneCode seq (s.takeUp (.dockCommandNone p seq)))

/-! ### Idle timers (R86 to R88) -/

/-- IDLE_TIMER_RELOAD (R86). -/
def execIdleTimerReload (p : Platen) (s : State) : Result :=
  .next (reloadIdle p (s.takeUp (.idleTimerReload p)))

/-- The platen's dock entry holds NONE or a head that is not RUNNING (R87). -/
def platenUnused (p : Platen) (s : State) : Bool :=
  match (s.docks.get p).docked with
  | none => true
  | some h => (s.heads.get h).state != .running

/-- An idle expiry: IDLE_WET, the offer, the park request and the reload, in order (R87). -/
def expireIdle (p : Platen) (s : State) : State :=
  let t := s.idle.get p
  let s := s.raise .idleWet (.platen p) (w16 t.line.val) (w16 t.count)
  let s := s.hand (.orderOffer p ⟨.idleWet, t.line, t.count, .burst⟩)
  let s :=
    if (s.conds.get p).state = .sweeping ∧ platenUnused p s = true then s.hand (.parkRequest p)
    else s
  reloadIdle p s

/-- IDLE_EXPIRY: nothing where the idle interval is 0 (R87). -/
def execIdleExpiry (p : Platen) (s : State) : Result :=
  let s := s.takeUp (.idleExpiry p)
  .next (if (s.idle.get p).interval = 0 then s else expireIdle p s)

/-- The tick at the idle timer of platen p (R87). -/
def tickIdle (s : State) (p : Platen) : State :=
  let t := s.idle.get p
  if t.interval = 0 then s
  else if t.millis + 1 < 1000 then s.setIdle p { t with millis := t.millis + 1 }
  else
    let s := s.setIdle p { t with millis := 0, seconds := t.seconds - 1 }
    if t.seconds ≤ 1 then expireIdle p s else s

/-- SET_IDLE_INTERVAL: the new value, and a reload with it at once (R88). -/
def execSetIdleInterval (p : Platen) (v : Nat) (s : State) : Result :=
  let s := s.takeUp (.setIdleInterval p v)
  .next (reloadIdle p (s.setIdle p { s.idle.get p with interval := v }))

/-- SET_IDLE_LINE (R88). -/
def execSetIdleLine (p : Platen) (l : Line) (s : State) : Result :=
  let s := s.takeUp (.setIdleLine p l)
  .next (s.setIdle p { s.idle.get p with line := l })

/-- SET_IDLE_COUNT (R88). -/
def execSetIdleCount (p : Platen) (v : Nat) (s : State) : Result :=
  let s := s.takeUp (.setIdleCount p v)
  .next (s.setIdle p { s.idle.get p with count := v })

end Sys2Proof.Machine
end

