-- ==== Sys2Proof/Machine/Gauge.lean ====
section
/-! DEFINITION. The Gauge Port, the feedback filters and the overpressure monitor (chapter 4), and
the Regulator Port's commands (3.7). -/

namespace Sys2Proof.Machine

open Sys2Proof

/-- The number a list of bits spells, most significant first (Table 4-1). -/
def bitsToNat (l : List Bool) : Nat := l.foldl (fun n b => 2 * n + boolCode b) 0

/-- How the Gauge Port disposes of an arriving word (R61). -/
inductive GaugeCheck where
  | framing | parity | unassigned (channel : Nat) | good (c : Chan) (reading : Nat)
  deriving DecidableEq, Repr

/-- The checks of an arriving word, in order (R61). -/
def checkWord (w : GaugeBits) : GaugeCheck :=
  if w.bits.length ≠ 19 ∨ w.stop = false then .framing
  else if (w.bits.count true) % 2 = 0 then .parity
  else
    let ch := bitsToNat (w.bits.take 6)
    if h : ch < 34 then .good ⟨ch, h⟩ (bitsToNat ((w.bits.drop 6).take 12)) else .unassigned ch

/-- The sample a reading gives on a channel (R62, Table 4-2). -/
def State.sampleOf (s : State) (c : Chan) (reading : Nat) : Nat :=
  if h : c.val < 28 then
    match (s.zoneConfig ⟨c.val, h⟩).range with
    | .fine => reading * 10
    | .coarse => reading * 16
  else if c.val < 31 then min reading 4000
  else min reading 1000

/-- The averaging count of a channel (Table 4-2). -/
def State.averagingOf (s : State) (c : Chan) : Nat :=
  if h : c.val < 28 then (s.zoneConfig ⟨c.val, h⟩).averaging else 1

/-- The stale limit of a channel, in ms (Table 4-2). -/
def State.staleLimitOf (s : State) (c : Chan) : Nat :=
  if h : c.val < 28 then (s.zoneConfig ⟨c.val, h⟩).staleLimit else 50

/-- The source of a channel's GAUGE_STALE (R66). -/
def staleSource (c : Chan) : Source :=
  if h : c.val < 28 then .zone ⟨c.val, h⟩
  else if h' : c.val < 31 then .conditioner ⟨c.val - 28, by omega⟩
  else .conditioner ⟨c.val - 31, by omega⟩

/-- One judgement of the overpressure monitor: the zone channel after, and whether overpressure is
detected (R76).  A count past a lowered debounce length comes down to that length (DESIGN CHOICE,
log entry 32). -/
def judgeOverpressure (z : ZoneChannel) (limit debounceCode fb : Nat) : ZoneChannel × Bool :=
  if fb ≤ limit then ({ z with opCount := 0, opMark := false }, false)
  else
    let len := debounceLength debounceCode
    let n := min (z.opCount + 1) len
    if z.opMark then ({ z with opCount := n }, false)
    else if n = len then ({ z with opCount := n, opMark := true }, true)
    else ({ z with opCount := n }, false)

/-- A feedback update handed to the overpressure monitor of zone channel c (R64, R76). -/
def overpressureUpdate (c : ZoneCh) (fb : Nat) (s : State) : State :=
  let zc := s.zoneConfig c
  let (z, detected) := judgeOverpressure (s.zones.get c) zc.opLimit zc.opDebounce fb
  let s := s.setZone c z
  if detected then
    (s.raise .overpressure (.zone c) (w16 fb) (w16 zc.opLimit)).hand
      (.overpressureNotice (headOfZone c))
  else s

/-- The hand-over of a feedback update to the block that reads updates (R64, step 5). -/
def handUpdate (c : Chan) (fb : Nat) (s : State) : State :=
  if h : c.val < 28 then overpressureUpdate ⟨c.val, h⟩ fb s
  else if h' : c.val < 31 then s.hand (.positionUpdate ⟨c.val - 28, by omega⟩ fb)
  else s

/-- A sample reaches the filter of channel c; a complete window makes a feedback update (R64). -/
def takeSample (c : Chan) (sample : Nat) (s : State) : State :=
  let f := s.filters.get c
  let n := s.averagingOf c
  if n ≤ f.count + 1 then
    let fb := (f.sum + sample) / n
    handUpdate c fb
      (s.setFilter c { f with sum := 0, count := 0, feedback := fb, age := 0, stale := false })
  else s.setFilter c { f with sum := f.sum + sample, count := f.count + 1 }

/-- A gauge word arrives (R61). -/
def arriveWord (w : GaugeBits) (s : State) : State :=
  match checkWord w with
  | .framing => s.raise .gaugeError .gaugePort 0 0
  | .parity => s.raise .gaugeError .gaugePort 1 0
  | .unassigned ch => s.raise .gaugeError .gaugePort 2 (w16 ch)
  | .good c reading => takeSample c (s.sampleOf c reading) s

/-- GAUGE_WORD (R61). -/
def execGaugeWord (w : GaugeBits) (s : State) : Result :=
  .next (arriveWord w (s.takeUp (.gaugeWord w)))

/-- A filter whose age exceeds its stale limit sets its stale mark and raises GAUGE_STALE (R66). -/
def judgeStale (c : Chan) (s : State) : State :=
  let f := s.filters.get c
  if f.stale = false ∧ s.staleLimitOf c < f.age then
    (s.setFilter c { f with stale := true }).raise .gaugeStale (staleSource c) (w16 c.val)
      (w16 f.feedback)
  else s

/-- GAUGE_STALE (R66). -/
def execGaugeStale (c : Chan) (s : State) : Result :=
  .next (judgeStale c (s.takeUp (.gaugeStale c)))

/-- The tick at the filter of channel c: its age rises, then its staleness is judged (R66). -/
def tickFilter (s : State) (c : Chan) : State :=
  let f := s.filters.get c
  judgeStale c (s.setFilter c { f with age := min (f.age + 1) 65535 })

/-! ### Regulator Port -/

/-- A refresh marks all 34 channels pending (R59). -/
def refreshPort (s : State) : State := s.setReg { s.reg with pending := Tab.all 34 true }

/-- REGULATOR_REFRESH (R59). -/
def execRegulatorRefresh (s : State) : Result :=
  nextPort (refreshPort (s.takeUp .regulatorRefresh))

/-- REGULATOR_WORD_DONE: the word in hand ends and the port takes the next pending channel
(R59). -/
def execRegulatorWordDone (s : State) : Result :=
  let s := s.takeUp .regulatorWordDone
  nextPort (s.setReg { s.reg with inHand := none })

/-- The tick at the Regulator Port: every eighth tick is a refresh (R59). -/
def tickPort (s : State) : State :=
  if s.reg.refresh + 1 < 8 then s.setReg { s.reg with refresh := s.reg.refresh + 1 }
  else
    let s := refreshPort s
    s.setReg { s.reg with refresh := 0 }

end Sys2Proof.Machine
end

