-- ==== Sys2Proof/Machine/Cadence.lean ====
section
/-! DEFINITION. The time base and the Cadence Monitor (11.1): violations, late expiries, the
cycle-frame notice and the CADENCE setting. -/

namespace Sys2Proof.Machine

open Sys2Proof

/-- The two kinds of cadence violation (R172). -/
inductive Violation where
  | early | late
  deriving DecidableEq, Repr

/-- Codes of the cadence reasons (R191): EARLY 0, LATE 1. -/
def violationCode : Violation → Nat
  | .early => 0
  | .late => 1

/-- What the monitor does at a violation, by its state (R172). -/
def cadenceViolation (v : Violation) (s : State) : State :=
  let c := s.cadence
  match c.state with
  | .unarmed => s
  | .locked =>
    let n := c.violations + 1
    let lost := decide (c.limit ≤ n)
    let s :=
      s.setCadence
        { c with
          violations := n, state := if lost then .lost else .locked,
          regain := if lost then 0 else c.regain }
    let s := s.raise .cadenceViolation .device (w16 (violationCode v)) (w16 n)
    if lost then
      (s.raise .cadenceLost .device (w16 c.limit) (w16 (violationCode v))).handAll
        ((List.finRange 4).map Instr.cadenceLostNotice)
    else s
  | .lost =>
    (s.setCadence { c with regain := 0 }).raise .cadenceViolation .device (w16 (violationCode v))
      (w16 c.violations)

/-- A late expiry at the expiry time `e`: the expired mark, the timer restarted Lt later, and a late
violation (R172).  The Cadence Monitor's rule stops the timer in UNARMED. -/
def lateExpiry (e : BitVec 32) (s : State) : State :=
  let c := s.cadence
  cadenceViolation .late
    (s.setCadence { c with expired := true, timer := some (e + BitVec.ofNat 32 c.late) })

/-- Microseconds from the present count to the count `e`, modulo 2^32 (R169). -/
def State.untilCount (s : State) (e : BitVec 32) : Nat := (e - s.us).toNat

/-- The late expiries that fall before the end of a span, in time order: `span` is what is left of
it, counted from the present microsecond count (R169, R172).  An expiry that falls exactly at the
span's end is left to be taken after it.  Each expiry lies Lt after the last, so `fuel` above the
span's length reaches the end for every Lt the setting admits. -/
def passExpiries : Nat → Nat → State → State
  | 0, span, s => { s with us := s.us + BitVec.ofNat 32 span }
  | fuel + 1, span, s =>
    match s.cadence.timer with
    | none => { s with us := s.us + BitVec.ofNat 32 span }
    | some e =>
      let d := s.untilCount e
      if d < span then passExpiries fuel (span - d) (lateExpiry e { s with us := e })
      else { s with us := s.us + BitVec.ofNat 32 span }

/-- The microsecond count moves on by `d` µs, with the late expiries that fall in it (R169). -/
def advanceTime (d : Nat) (s : State) : State := passExpiries (d + 1) d s

/-- The time base moves on to tick phase `phase`, where that is not behind it (DESIGN CHOICE,
log entry 11). -/
def advanceToPhase (phase : Nat) (s : State) : State :=
  if phase ≤ s.phase then s else { advanceTime (phase - s.phase) s with phase := phase }

/-- CADENCE_LATE_EXPIRY: the running timer reaches its expiry time.  The count moves on to that time
where it lies before the next tick (R169, R172, DESIGN CHOICE, log entry 11). -/
def takeExpiry (s : State) : State :=
  match s.cadence.timer with
  | none => s
  | some e =>
    let d := s.untilCount e
    if s.phase + d < 1000 then lateExpiry e { s with us := e, phase := s.phase + d }
    else lateExpiry e s

/-- CADENCE_LATE_EXPIRY (R172). -/
def execCadenceLateExpiry (s : State) : Result := .next (takeExpiry (s.takeUp .cadenceLateExpiry))

/-- An in-window frame (R171). -/
def inWindow (s : State) : State :=
  let c := s.cadence
  match c.state with
  | .unarmed => s
  | .locked => s.setCadence { c with violations := c.violations - 1 }
  | .lost =>
    if c.regain + 1 < 8 then s.setCadence { c with regain := c.regain + 1 }
    else
      (s.setCadence { c with state := .locked, violations := 0, regain := 0 }).raise
        .cadenceRegained .device 0 0

/-- The judgement of a cycle-frame notice's interval (R171).  An interval above Lt is neither
in-window nor a violation (DESIGN CHOICE, log entry 12). -/
def judgeInterval (us : BitVec 32) (s : State) : State :=
  let c := s.cadence
  match c.state with
  | .unarmed => s.setCadence { c with state := .locked }
  | .locked | .lost =>
    if c.expired then s
    else
      match c.lastEnd with
      | none => s
      | some e =>
        let d := (us - e).toNat
        if d < c.early then cadenceViolation .early s
        else if d ≤ c.late then inWindow s
        else s

/-- A cycle-frame notice with the count `us` (R171). -/
def cycleFrameNotice (us : BitVec 32) (s : State) : State :=
  let s := judgeInterval us s
  s.setCadence
    { s.cadence with
      lastEnd := some us, expired := false, timer := some (us + BitVec.ofNat 32 s.cadence.late) }

/-- CYCLE_FRAME_NOTICE (R171).  One of the RESET's own frame that is taken within the transparent
period is judged as at any time, where R178 says that the monitor receives none (R161, R162 beside
R155 and R178; DESIGN CHOICE, log entry 48). -/
def execCycleFrameNotice (us : BitVec 32) (s : State) : Result :=
  .next (cycleFrameNotice us (s.takeUp (.cycleFrameNotice us)))

/-- SET_CADENCE (R170). -/
def execSetCadence (period early late limit : Nat) (s : State) : Result :=
  let s := s.takeUp (.setCadence period early late limit)
  .next
    (s.setCadence
      { s.cadence with
        period := period, early := early, late := late, limit := limit, violations := 0,
        regain := 0 })

end Sys2Proof.Machine
end

