-- ==== Sys2Proof/Machine/Events.lean ====
section
/-! DEFINITION. The Event Queue (chapter 12): raising, coalescing, eviction, slot filling, release
and return, and the commands EVENT_RAISE, EVENT_RELEASE and EVENT_RETURN. -/

namespace Sys2Proof.Machine

open Sys2Proof

/-- The rank of a kind: express A 5, express B 4, else its level (R179). -/
def rankOf (q : EventQueue) (k : EventKind) : Nat :=
  if q.expressA = some k then 5
  else if q.expressB = some k then 4
  else (q.kinds.get (kindCode k)).level.val

/-- A QUEUED record of the given kind and source. -/
def matchesQueued (k : EventKind) (src : Source) (r : EventRecord) : Bool :=
  r.flight == none && r.kind == k && r.source == src

/-- Folds a raise into a QUEUED record (R180, "Coalescing"). -/
def coalesceInto (d1 d2 : Word16) (r : EventRecord) : EventRecord :=
  { r with repeats := min (r.repeats + 1) 255, detail1 := d1, detail2 := d2 }

/-- The list with `f` applied to the first element that satisfies `p`. -/
def updFirst {α : Type} (p : α → Bool) (f : α → α) : List α → List α
  | [] => []
  | x :: xs => if p x then f x :: xs else x :: updFirst p f xs

/-- The list without the last element that satisfies `p`. -/
def eraseLast {α : Type} (p : α → Bool) (l : List α) : List α := (l.reverse.eraseP p).reverse

/-- The lowest rank among the QUEUED records (R181). -/
def lowestRank (rs : List EventRecord) : Option Nat :=
  rs.foldl (init := none) fun m r =>
    if r.flight = none then
      match m with
      | none => some r.rank
      | some x => some (min x r.rank)
    else m

/-- A raise judged by the queue under the stamp `stamp` (R180, R181). -/
def raiseInto (q : EventQueue) (k : EventKind) (src : Source) (d1 d2 stamp : Word16) :
    EventQueue :=
  if (q.kinds.get (kindCode k)).enable = false then q
  else if q.records.any (matchesQueued k src) then
    { q with records := updFirst (matchesQueued k src) (coalesceInto d1 d2) q.records }
  else
    let new : EventRecord := ⟨k, rankOf q k, src, d1, d2, stamp, 0, 0, none⟩
    if q.records.length < 32 then { q with records := q.records ++ [new] }
    else
      match lowestRank q.records with
      | some low =>
        if low < new.rank then
          { q with
            records :=
              eraseLast (fun r => r.flight == none && r.rank == low) q.records ++ [new]
            lost := min (q.lost + 1) 255 }
        else { q with lost := min (q.lost + 1) 255 }
      | none => { q with lost := min (q.lost + 1) 255 }

/-- A raise as one event at the Event Queue; the stamp is the last good sequence when the record is
entered (R143, R180), also where the raise is of a hand-over of an earlier frame (R152; DESIGN
CHOICE, log entry 46). -/
def State.enqueue (s : State) (k : EventKind) (src : Source) (d1 d2 : Word16) : State :=
  s.setEvents (raiseInto s.events k src d1 d2 s.ring.lastGood)

/-- The highest rank among the QUEUED records (R182). -/
def highestRank (rs : List EventRecord) : Option Nat :=
  rs.foldl (init := none) fun m r =>
    if r.flight = none then
      match m with
      | none => some r.rank
      | some x => some (max x r.rank)
    else m

/-- The QUEUED record of the highest rank, the oldest among those (R182). -/
def bestQueued (rs : List EventRecord) : Option EventRecord :=
  match highestRank rs with
  | none => none
  | some top => rs.find? fun r => r.flight == none && r.rank == top

/-- The record as written into a slot: the queue's lost count is added to its own, and it goes in
flight in frame `frame` (R182). -/
def launch (lost frame : Nat) (r : EventRecord) : EventRecord :=
  { r with lost := min (r.lost + lost) 255, flight := some frame }

/-- Fills a slot of frame `frame`: the record written, if any, and the queue after (R182). -/
def fillSlot (q : EventQueue) (frame : Nat) : Option (EventRecord × EventQueue) :=
  match bestQueued q.records with
  | none => none
  | some best =>
    some
      (launch q.lost frame best,
        { q with
          records :=
            updFirst (fun r => r.flight == none && r.rank == best.rank) (launch q.lost frame)
              q.records
          lost := 0 })

/-- The records left after a release of frame `frame` (R183). -/
def releaseFrame (frame : Nat) (rs : List EventRecord) : List EventRecord :=
  rs.filter fun r => r.flight != some frame

/-- Merges a younger record into an older one (R183). -/
def mergeRecords (older younger : EventRecord) : EventRecord :=
  { older with
    repeats := min (older.repeats + younger.repeats + 1) 255
    lost := min (older.lost + younger.lost) 255
    detail1 := younger.detail1
    detail2 := younger.detail2
    flight := none }

/-- Returns the records of frame `frame`, oldest first: `older` are the records already judged, in
age order; a returning record merges with the QUEUED record of its kind and source, which may be
older or younger than it (R183).  `fuel` bounds the records left. -/
def returnFrom (frame : Nat) : Nat → List EventRecord → List EventRecord → List EventRecord
  | 0, older, rest => older ++ rest
  | _, older, [] => older
  | fuel + 1, older, r :: rest =>
    if r.flight = some frame then
      let back := { r with flight := none }
      let same := matchesQueued r.kind r.source
      if older.any same then
        returnFrom frame fuel (updFirst same (fun o => mergeRecords o back) older) rest
      else
        match rest.find? same with
        | some y => returnFrom frame fuel (older ++ [mergeRecords back y]) (rest.eraseP same)
        | none => returnFrom frame fuel (older ++ [back]) rest
    else returnFrom frame fuel (older ++ [r]) rest

/-- The records after a return of frame `frame` (R183). -/
def returnFrame (frame : Nat) (rs : List EventRecord) : List EventRecord :=
  returnFrom frame rs.length [] rs

/-! ### The commands -/

/-- EVENT_RAISE (R180). -/
def execEventRaise (k : EventKind) (src : Source) (d1 d2 : Word16) (s : State) : Result :=
  .next ((s.takeUp (.eventRaise k src d1 d2)).enqueue k src d1 d2)

/-- EVENT_RELEASE (R183). -/
def execEventRelease (frame : Nat) (s : State) : Result :=
  let s := s.takeUp (.eventRelease frame)
  .next (s.setEvents { s.events with records := releaseFrame frame s.events.records })

/-- EVENT_RETURN (R183). -/
def execEventReturn (frame : Nat) (s : State) : Result :=
  let s := s.takeUp (.eventReturn frame)
  .next (s.setEvents { s.events with records := returnFrame frame s.events.records })

end Sys2Proof.Machine
end

