-- ==== Sys2Proof/Machine/Cells.lean ====
section
/-! DEFINITION. Cells in passage (chapter 8 and 12.3): the values GIVE entries write, DATA cells,
SLOT cells, the judgement of required entries, and the writes applied to the Cell Map. -/

namespace Sys2Proof.Machine

open Sys2Proof

/-! ### Values of give objects (Table 13-3) -/

/-- An instance octet as an index, where it lies in range. -/
def indexOf (n : Nat) (x : Octet) : Option (Fin n) :=
  if h : x.toNat < n then some ⟨x.toNat, h⟩ else none

/-- HEAD_STATUS[h] (R40). -/
def headStatus (h : Head) (s : State) : List Octet :=
  let r := s.heads.get h
  let zones := (List.finRange 7).map (s.zoneOf h)
  [oct (headStateCode r.state), oct (headSubstateCode r.substate), oct (octetOr 0xFF r.program),
      oct r.stepIndex] ++
    be16 r.cycleCount ++ be16 r.lastSeq.toNat ++
    [oct (headOutcomeCode r.lastOutcome), oct (safeCauseCode r.cause),
      oct (packBits (zones.map ZoneChannel.masked ++ [r.skip])),
      oct (packBits (zones.map (fun z => z.diffLimited) ++ [r.latch == none]))]

/-- The lines of platen p that have an ACTIVE order (R110). -/
def activeLines (p : Platen) (s : State) : List Bool :=
  (List.finRange 4).map fun l =>
    (s.queues.get p).orders.any fun o => o.active && o.line == l

/-- PLATEN_STATUS[p] (Table 13-3, R126, R110).  Bit 0 of octet 4, which carries no field, is sent as
0 (DESIGN CHOICE, log entry 49). -/
def platenStatus (p : Platen) (s : State) : List Octet :=
  let d := s.docks.get p
  let c := s.conds.get p
  [oct (octetOr 0xFF d.docked)] ++ be16 d.lastSeq.toNat ++
    [oct (16 * dockOutcomeCode d.lastOutcome + condOutcomeCode c.lastOutcome),
      oct
        (64 * condStateCode c.state + 16 * condSubstateCode c.substate + 8 * boolCode c.override +
          2 * condFaultCode c.cause),
      oct (16 * octetOr 0xF c.profile + c.segment)] ++
    be16 (s.filters.get (positionChan p)).feedback ++
    be16 (s.filters.get (forceChan p)).feedback ++ be16 c.lastSeq.toNat ++
    [oct (16 * (s.queues.get p).orders.length + packBits (activeLines p s))] ++
    be16 (s.idle.get p).seconds ++ [0]

/-- INPUTS: the 16 filtered levels and the 16 active states (R175). -/
def inputsValue (s : State) : List Octet :=
  be16 (packBits (s.inputs.entries.map fun u => u.filtered)) ++
    be16 (packBits (s.inputs.entries.map InputUnit.isActive))

/-- DEVICE_STATUS (R137).  Bits 3 to 0 of octet 4, which carry no field, are sent as 0 (DESIGN
CHOICE, log entry 49). -/
def deviceStatus (s : State) : List Octet :=
  let g := fun x => groupStateCode (s.verifier.group x).state
  [oct (linkCode s.ring.link), oct (16 * cadenceStateCode s.cadence.state + s.cadence.violations),
    oct (16 * g .cellmap + g .program), oct (16 * g .zone + g .line), oct (16 * g .sweep),
    oct s.events.records.length, oct s.events.lost, 0]

/-- The value of a give object and whether it is held (R137). -/
def giveValue (cls : ObjClass) (inst : Octet) (s : State) : List Octet × Bool :=
  match cls with
  | .headStatus =>
    match indexOf 4 inst with
    | some h => (headStatus h s, false)
    | none => ([], false)
  | .zoneSetpoint =>
    match indexOf 28 inst with
    | some c => (be16 (s.zones.get c).setpoint, false)
    | none => ([], false)
  | .zoneFeedback =>
    match indexOf 28 inst with
    | some c =>
      (be16 (s.filters.get (chanOfZone c)).feedback, (s.filters.get (chanOfZone c)).stale)
    | none => ([], false)
  | .lineDelivered =>
    match indexOf 12 inst with
    | some i => (be32 (s.lines.get i).delivered.toNat, false)
    | none => ([], false)
  | .platenStatus =>
    match indexOf 3 inst with
    | some p =>
      (platenStatus p s,
        (s.filters.get (positionChan p)).stale || (s.filters.get (forceChan p)).stale)
    | none => ([], false)
  | .inputs => (inputsValue s, false)
  | .deviceStatus => (deviceStatus s, false)
  | .headCommand | .headEndpoint | .zoneTrim | .dockCommand | .conditionerCommand => ([], false)

/-! ### DATA cells (R133 to R138) -/

/-- The valid entry that holds a tag (R133). -/
def CellMap.find (m : CellMap) (tag : Word16) : Option (Fin 128) :=
  (List.finRange 128).find? fun e => (m.entries.get e).valid && (m.entries.get e).tag == tag

/-- Raises CELL_FAULT for entry `e` (R138); reason WIDTH 0, COLLISION 1. -/
def State.raiseCellFault (s : State) (e : Fin 128) (reason : Nat) (c : Cell) : State :=
  s.raise .cellFault (.mapEntry e) (w16 reason) (w16 c.payload.length)

/-- A DATA cell held by TAKE entry `e` (R134): the state after, and the cell as it leaves. -/
def takeCell (e : Fin 128) (c : Cell) (s : State) : State × Cell :=
  let m := s.map.entries.get e
  match s.ring.frame.kind with
  | .async => (s, c)
  | .cycle =>
    if c.payload.length ≠ classWidth m.cls then
      (s.raiseCellFault e 0 c, { c with flags := setFlag c.flags flagFault })
    else
      (s.setRing
          { s.ring with takeSlots := s.ring.takeSlots.upd e (some ⟨m.cls, m.inst, c.payload⟩) },
        { c with flags := setFlag c.flags flagTaken })

/-- The flags of a cell that has been given: GIVEN set, STALE as the value is held or not (R136). -/
def givenFlags (f : Octet) (held : Bool) : Octet :=
  if held then setFlag (setFlag f flagGiven) flagStale
  else clearFlag (setFlag f flagGiven) flagStale

/-- A DATA cell held by GIVE entry `e` (R136): the state after, and the cell as it leaves. -/
def giveCell (e : Fin 128) (c : Cell) (s : State) : State × Cell :=
  let m := s.map.entries.get e
  if hasFlag c.flags flagGiven then (s.raiseCellFault e 1 c, c)
  else if c.payload.length ≠ classWidth m.cls then
    (s.raiseCellFault e 0 c, { c with flags := setFlag c.flags flagFault })
  else
    let (value, held) := giveValue m.cls m.inst s
    (s, { c with payload := padTo c.payload.length value, flags := givenFlags c.flags held })

/-- A DATA cell in passage (R133). -/
def passData (c : Cell) (s : State) : State × Cell :=
  match s.map.find c.tag with
  | none => (s, c)
  | some e =>
    match (s.map.entries.get e).dir with
    | .take => takeCell e c s
    | .give => giveCell e c s

/-! ### SLOT cells (R148, R182) -/

/-- A SLOT cell in passage: filled from the Event Queue if its length is 12 and a record is QUEUED,
else untouched. -/
def passSlot (c : Cell) (s : State) : State × Cell :=
  if c.payload.length ≠ 12 then (s, c)
  else
    match fillSlot s.events s.ring.frame.ordinal with
    | none => (s, c)
    | some (r, q) =>
      (s.setEvents q,
        { c with kind := kindEvent, tag := withNode c.tag s.ring.node, payload := encodeEvent r })

/-! ### Required entries (R140) -/

/-- The judgement of one entry. -/
def judgeRequired (filled : List (Fin 128)) (s : State) (e : Fin 128) : State :=
  let m := s.map.entries.get e
  if m.valid && m.dir == .take && m.required then
    if e ∈ filled then s.setMap { s.map with seen := s.map.seen.upd e true }
    else if s.map.seen.get e then
      (s.raise .missingCell (.mapEntry e) m.tag (w16 (classCode m.cls))).setMap
        { s.map with seen := s.map.seen.upd e false }
    else s
  else s

/-- REQUIRED_ENTRY_JUDGEMENT (R140).  One of the RESET's own frame that is taken within the
transparent period is made as at any time, where R142 says that no required entry is judged (R161,
R162 beside R142; DESIGN CHOICE, log entry 48). -/
def execRequiredEntryJudgement (filled : List (Fin 128)) (s : State) : Result :=
  .next
    ((List.finRange 128).foldl (judgeRequired filled) (s.takeUp (.requiredEntryJudgement filled)))

/-! ### Cell Map writes (R130, R131) -/

/-- Checks 7 and 8 of Table 8-3: another valid entry holds the tag, or another valid TAKE entry
names the instance. -/
def State.bindsTwice (s : State) (i : Fin 128) (e : MapEntry) : Bool :=
  (List.finRange 128).any fun j =>
    let x := s.map.entries.get j
    j != i && x.valid &&
      (x.tag == e.tag || (e.dir == .take && x.dir == .take && x.cls == e.cls && x.inst == e.inst))

/-- Replaces map entry `i` and clears its seen mark. -/
def State.setEntry (s : State) (i : Fin 128) (e : MapEntry) : State :=
  s.setMap { s.map with entries := s.map.entries.upd i e, seen := s.map.seen.upd i false }

/-- Applies or drops a WRITE of map entry `i` (R131). -/
def applyMapWrite (i : Fin 128) (e : MapEntry) (s : State) : State :=
  if s.bindsTwice i e then s.raiseDropped .cellmap .cellmap false i.val
  else (s.setEntry i { e with valid := true }).hand (.writeNotice .cellmap)

/-- CELLMAP_WRITE_APPLY (R131). -/
def execCellmapWriteApply (i : Fin 128) (e : MapEntry) (s : State) : Result :=
  .next (applyMapWrite i e (s.takeUp (.cellmapWriteApply i e)))

/-- CELLMAP_ERASE_APPLY: always applied (R131). -/
def execCellmapEraseApply (i : Fin 128) (s : State) : Result :=
  .next (((s.takeUp (.cellmapEraseApply i)).setEntry i .erased).hand (.writeNotice .cellmap))

end Sys2Proof.Machine
end

