-- ==== Sys2Proof/Machine/Management.lean ====
section
/-! DEFINITION. The Management Responder (chapter 10.1 to 10.4): request codes and lengths, each
request's own checks at cell time, the reply written into the cell, and staging. -/

namespace Sys2Proof.Machine

open Sys2Proof

/-- Reply statuses (Table 10-2). -/
inductive Status where
  | ok | accepted | badRequest | badTable | badIndex | badValue | inUse | duplicate | busy | full
  | gated | supplyLow | stillAsserted | estop | lineOff
  deriving DecidableEq, Repr

/-- Reply status codes (Table 13-5). -/
def statusCode : Status → Nat
  | .ok => 0
  | .accepted => 1
  | .badRequest => 2
  | .badTable => 3
  | .badIndex => 4
  | .badValue => 5
  | .inUse => 6
  | .duplicate => 7
  | .busy => 8
  | .full => 9
  | .gated => 10
  | .supplyLow => 11
  | .stillAsserted => 12
  | .estop => 13
  | .lineOff => 14

/-- Request codes (Table 13-4). -/
inductive Request where
  | read | write | erase | verify | set | status | dispense | stopLine | clearInput | reset
  deriving DecidableEq, Repr

/-- The code of a request. -/
def requestCode : Request → Nat
  | .read => 1
  | .write => 2
  | .erase => 3
  | .verify => 4
  | .set => 5
  | .status => 6
  | .dispense => 7
  | .stopLine => 8
  | .clearInput => 9
  | .reset => 10

/-- The request of a code. -/
def requestOf (n : Nat) : Option Request :=
  match n with
  | 1 => some .read
  | 2 => some .write
  | 3 => some .erase
  | 4 => some .verify
  | 5 => some .set
  | 6 => some .status
  | 7 => some .dispense
  | 8 => some .stopLine
  | 9 => some .clearInput
  | 10 => some .reset
  | _ => none

/-- What judging a request gives: the reply, with data for OK, and the request to be staged. -/
structure Judged where
  status : Status
  data : List Octet
  staged : Option Instr
  deriving DecidableEq, Repr

/-- A refusal. -/
def refuse (st : Status) : Judged := ⟨st, [], none⟩

/-- An answer with data. -/
def answer (data : List Octet) : Judged := ⟨.ok, data, none⟩

/-- A request accepted for staging. -/
def accept (i : Instr) : Judged := ⟨.accepted, [], some i⟩

/-! ### READ (R158) -/

/-- The valid field and record of a table's entry, and the use count after a PROGRAM_DIR entry
(Table 13-4).  The use count is one octet (DESIGN CHOICE, log entry 41). -/
def readEntry (t : TableId) (i : Nat) (s : State) : Option (List Octet) :=
  match t with
  | .cellmap =>
    if h : i < 128 then
      let e := s.map.entries.get ⟨i, h⟩
      some (oct (boolCode e.valid) :: encodeMapEntry e)
    else none
  | .programDir =>
    if h : i < 16 then
      let e := s.store.dir.get ⟨i, h⟩
      some (oct (boolCode e.valid) :: encodeDirEntry e ++ [oct (s.useCount ⟨i, h⟩)])
    else none
  | .step =>
    if h : i < 96 then
      let r := s.store.steps.get ⟨i, h⟩
      some (oct (boolCode r.valid) :: encodeStep r)
    else none
  | .zone =>
    if h : i < 28 then
      let e := (s.zones.get ⟨i, h⟩).config
      some (oct (boolCode e.valid) :: encodeZone e)
    else none
  | .line =>
    if h : i < 12 then
      let e := (s.lines.get ⟨i, h⟩).config
      some (oct (boolCode e.valid) :: encodeLine e)
    else none
  | .profile =>
    if h : i < 8 then
      let e := s.profiles.get ⟨i, h⟩
      some (oct (boolCode e.valid) :: encodeProfile e)
    else none
  | .segment =>
    if h : i < 96 then
      let r := s.segments.get ⟨i, h⟩
      some (oct (boolCode r.valid) :: encodeSegment r)
    else none
  | .input =>
    if h : i < 16 then
      let e := (s.inputs.get ⟨i, h⟩).config
      some (oct (boolCode e.valid) :: encodeInput e)
    else none

/-- READ (R158). -/
def judgeRead (t : TableId) (p : List Octet) (s : State) : Judged :=
  match readEntry t (octAt p 2) s with
  | some data => answer data
  | none => refuse .badIndex

/-! ### WRITE and ERASE -/

/-- The head of zone channel `c` bars its Zone Config from change (Table 3-3, check 11). -/
def State.zoneInUse (s : State) (c : ZoneCh) : Bool := (s.heads.get (headOfZone c)).isActive

/-- A decoded record judged by its range checks and its claim or use check, in that order. -/
def judgeRecord {α : Type} (r : Option α) (inRange : α → Bool) (inUse : Bool) (stage : α → Instr) :
    Judged :=
  match r with
  | none => refuse .badValue
  | some x =>
    if !inRange x then refuse .badValue
    else if inUse then refuse .inUse
    else accept (stage x)

/-- A WRITE of CELLMAP entry `i`: Table 8-3, checks 2 to 8.  Checks 7 and 8 read the map as
committed, without an ERASE staged earlier in the same frame: a WRITE that takes over the tag or the
TAKE instance of the entry erased is refused DUPLICATE (R130 beside R131, which lets a tag move so
within one frame; DESIGN CHOICE, log entry 50). -/
def judgeMapWrite (i : Fin 128) (l : List Octet) (s : State) : Judged :=
  match decodeMapEntry l with
  | none => refuse .badValue
  | some e =>
    if !MapEntry.inRange e then refuse .badValue
    else if s.bindsTwice i e then refuse .duplicate
    else accept (.cellmapWriteApply i e)

/-- WRITE (R2, R4, R11, R44, R92, R114, R130, R174). -/
def judgeWrite (t : TableId) (p : List Octet) (s : State) : Judged :=
  let i := octAt p 2
  let l := p.drop 4
  match t with
  | .cellmap => if h : i < 128 then judgeMapWrite ⟨i, h⟩ l s else refuse .badIndex
  | .programDir =>
    if h : i < 16 then
      judgeRecord (decodeDirEntry l) DirEntry.inRange (s.programClaimed ⟨i, h⟩)
        (.programDirWriteApply ⟨i, h⟩)
    else refuse .badIndex
  | .step =>
    if h : i < 96 then
      judgeRecord (decodeStep l) StepRecord.inRange (s.stepClaimed ⟨i, h⟩)
        (.stepWriteApply ⟨i, h⟩)
    else refuse .badIndex
  | .zone =>
    if h : i < 28 then
      judgeRecord (decodeZone l) ZoneConfig.inRange (s.zoneInUse ⟨i, h⟩) (.zoneWriteApply ⟨i, h⟩)
    else refuse .badIndex
  | .line =>
    if h : i < 12 then
      judgeRecord (decodeLine l) LineConfig.inRange
        (s.lineInUse (platenOfLine ⟨i, h⟩) (lineOfLine ⟨i, h⟩)) (.lineWriteApply ⟨i, h⟩)
    else refuse .badIndex
  | .profile =>
    if h : i < 8 then
      judgeRecord (decodeProfile l) ProfileEntry.inRange (s.profileClaimed ⟨i, h⟩)
        (.profileWriteApply ⟨i, h⟩)
    else refuse .badIndex
  | .segment =>
    if h : i < 96 then
      judgeRecord (decodeSegment l) SegmentRecord.inRange (s.segmentClaimed ⟨i, h⟩)
        (.segmentWriteApply ⟨i, h⟩)
    else refuse .badIndex
  | .input =>
    if h : i < 16 then
      judgeRecord (decodeInput l) InputConfig.inRange (InputUnit.isActive (s.inputs.get ⟨i, h⟩))
        (.inputWriteApply ⟨i, h⟩)
    else refuse .badIndex

/-- An erase judged by its claim or use check. -/
def judgeUse (inUse : Bool) (i : Instr) : Judged := if inUse then refuse .inUse else accept i

/-- ERASE (R2, R4, R11, R44, R92, R114, R130, R174). -/
def judgeErase (t : TableId) (p : List Octet) (s : State) : Judged :=
  let i := octAt p 2
  match t with
  | .cellmap => if h : i < 128 then accept (.cellmapEraseApply ⟨i, h⟩) else refuse .badIndex
  | .programDir =>
    if h : i < 16 then judgeUse (s.programClaimed ⟨i, h⟩) (.programDirEraseApply ⟨i, h⟩)
    else refuse .badIndex
  | .step =>
    if h : i < 96 then judgeUse (s.stepClaimed ⟨i, h⟩) (.stepEraseApply ⟨i, h⟩)
    else refuse .badIndex
  | .zone =>
    if h : i < 28 then judgeUse (s.zoneInUse ⟨i, h⟩) (.zoneEraseApply ⟨i, h⟩)
    else refuse .badIndex
  | .line =>
    if h : i < 12 then
      judgeUse (s.lineInUse (platenOfLine ⟨i, h⟩) (lineOfLine ⟨i, h⟩)) (.lineEraseApply ⟨i, h⟩)
    else refuse .badIndex
  | .profile =>
    if h : i < 8 then judgeUse (s.profileClaimed ⟨i, h⟩) (.profileEraseApply ⟨i, h⟩)
    else refuse .badIndex
  | .segment =>
    if h : i < 96 then judgeUse (s.segmentClaimed ⟨i, h⟩) (.segmentEraseApply ⟨i, h⟩)
    else refuse .badIndex
  | .input =>
    if h : i < 16 then
      judgeUse (InputUnit.isActive (s.inputs.get ⟨i, h⟩)) (.inputEraseApply ⟨i, h⟩)
    else refuse .badIndex

/-! ### The other requests -/

/-- VERIFY: the group, else BAD_VALUE (Table 10-1). -/
def judgeVerify (p : List Octet) : Judged :=
  match groupOf (octAt p 1) with
  | some g => accept (.verifyApply g (w16 (octAt16 p 2)))
  | none => refuse .badValue

/-- A setting of one platen: the instance, else BAD_INDEX; then the value's range, else BAD_VALUE
(R160). -/
def judgePlatenSetting (p : List Octet) (lo hi : Nat) (stage : Platen → Nat → Instr) : Judged :=
  if h : octAt p 2 < 3 then
    if lo ≤ octAt16 p 3 ∧ octAt16 p 3 ≤ hi then accept (stage ⟨octAt p 2, h⟩ (octAt16 p 3))
    else refuse .badValue
  else refuse .badIndex

/-- SET of IDLE_LINE. -/
def judgeIdleLine (p : List Octet) : Judged :=
  if h : octAt p 2 < 3 then
    if h' : octAt16 p 3 < 4 then accept (.setIdleLine ⟨octAt p 2, h⟩ ⟨octAt16 p 3, h'⟩)
    else refuse .badValue
  else refuse .badIndex

/-- SET of EXPRESS_A or EXPRESS_B: NONE or an event kind, else BAD_VALUE (R160). -/
def judgeExpress (p : List Octet) (stage : Option EventKind → Instr) : Judged :=
  if octAt p 3 = 0xFF then accept (stage none)
  else
    match kindOf (octAt p 3) with
    | some k => accept (stage (some k))
    | none => refuse .badValue

/-- SET of EVENT_KIND: the kind, else BAD_INDEX; level and enable, else BAD_VALUE (R160). -/
def judgeEventKind (p : List Octet) : Judged :=
  match kindOf (octAt p 2) with
  | none => refuse .badIndex
  | some k =>
    match boolOf (octAt p 4) with
    | none => refuse .badValue
    | some e =>
      if h : octAt p 3 < 4 then accept (.setEventKind k ⟨octAt p 3, h⟩ e) else refuse .badValue

/-- SET of CADENCE (R160). -/
def judgeCadence (p : List Octet) : Judged :=
  let period := octAt16 p 3
  let early := octAt16 p 5
  let late := octAt16 p 7
  let limit := octAt p 9
  if cadenceInRange period early late limit then accept (.setCadence period early late limit)
  else refuse .badValue

/-- SET (R160, Table 13-5). -/
def judgeSet (p : List Octet) : Judged :=
  match octAt p 1 with
  | 0 => judgeCadence p
  | 1 =>
    match boolOf (octAt p 3) with
    | some on => accept (.setVerifyBeforeRun on)
    | none => refuse .badValue
  | 2 => judgeExpress p .setExpressA
  | 3 => judgeExpress p .setExpressB
  | 4 => judgeEventKind p
  | 5 => judgePlatenSetting p 0 3600 .setIdleInterval
  | 6 => judgeIdleLine p
  | 7 => judgePlatenSetting p 1 1023 .setIdleCount
  | 8 => judgePlatenSetting p 0 4000 .setParkPosition
  | 9 => judgePlatenSetting p 1 200 .setParkBand
  | 10 => judgePlatenSetting p 100 10000 .setParkTimeout
  | _ => refuse .badRequest

/-- The data of a STATUS reply (R158). -/
def statusData (s : State) : List Octet :=
  deviceStatus s ++ be32 s.ring.goodCount.toNat ++ be32 s.ring.badCount.toNat

/-- The checks a dispense engine makes of DISPENSE at cell time, in order (R98).  Check 4 reads the
verifier's state alone (DEDUCED, log entry 29). -/
def dispenseRefusal (p : Platen) (l : Line) (s : State) : Option Status :=
  if !LineConfig.isEnabled (s.lineOf p l).config then some .lineOff
  else if s.functionActive .estop then some .estop
  else if s.functionActive (.supplyLow p l) then some .supplyLow
  else if !s.gateOpen .line then some .gated
  else if 8 ≤ s.occupancy p then some .full
  else none

/-- DISPENSE (Table 10-1, R98). -/
def judgeDispense (p : List Octet) (s : State) : Judged :=
  if h : octAt p 1 < 3 then
    if h' : octAt p 2 < 4 then
      let pl : Platen := ⟨octAt p 1, h⟩
      let l : Line := ⟨octAt p 2, h'⟩
      let count := octAt16 p 3
      match orderModeOf (octAt p 5) with
      | none => refuse .badValue
      | some mode =>
        if 1 ≤ count ∧ count ≤ 1023 then
          match dispenseRefusal pl l s with
          | some st => refuse st
          | none => accept (.orderOffer pl ⟨.direct, l, count, mode⟩)
        else refuse .badValue
    else refuse .badIndex
  else refuse .badIndex

/-- STOP_LINE (Table 10-1). -/
def judgeStopLine (p : List Octet) : Judged :=
  if h : octAt p 1 < 3 then
    if h' : octAt p 2 < 4 then accept (.stopLineApply ⟨octAt p 1, h⟩ ⟨octAt p 2, h'⟩)
    else refuse .badIndex
  else refuse .badIndex

/-- CLEAR_INPUT (R177). -/
def judgeClearInput (p : List Octet) (s : State) : Judged :=
  if h : octAt p 1 < 16 then
    if InputUnit.asserted (s.inputs.get ⟨octAt p 1, h⟩) then refuse .stillAsserted
    else accept (.clearInputApply ⟨octAt p 1, h⟩)
  else refuse .badIndex

/-- RESET (R161). -/
def judgeReset (p : List Octet) (s : State) : Judged :=
  match scopeOf (octAt p 1) with
  | none => refuse .badValue
  | some sc => if s.anyHeadActive then refuse .busy else accept (.resetApply sc)

/-! ### The judgement of a request (R157) -/

/-- The fixed request length of a code, over its table where it has one (Table 13-4). -/
def requestLength (r : Request) (t : TableId) : Nat :=
  match r with
  | .read | .write => 4 + recordLength t
  | .erase => 3
  | .verify => 4
  | .set => 10
  | .status => 17
  | .dispense => 6
  | .stopLine => 3
  | .clearInput => 2
  | .reset => 2

/-- Requests that name a table. -/
def Request.hasTable : Request → Bool
  | .read | .write | .erase => true
  | _ => false

/-- A request's own checks, once its code, table and length are good (Table 10-1). -/
def judgeOwn (r : Request) (t : TableId) (p : List Octet) (s : State) : Judged :=
  match r with
  | .read => judgeRead t p s
  | .write => judgeWrite t p s
  | .erase => judgeErase t p s
  | .verify => judgeVerify p
  | .set => judgeSet p
  | .status => answer (statusData s)
  | .dispense => judgeDispense p s
  | .stopLine => judgeStopLine p
  | .clearInput => judgeClearInput p s
  | .reset => judgeReset p s

/-- The table a request names; a payload too short to name one names none (DESIGN CHOICE,
log entry 14). -/
def requestTable (r : Request) (p : List Octet) : Option TableId :=
  if Request.hasTable r then (if p.length < 2 then none else tableOf (octAt p 1))
  else some .cellmap

/-- A request judged by checks 1 to 4 of R157. -/
def judgeRequest (p : List Octet) (s : State) : Judged :=
  match requestOf (octAt p 0) with
  | none => refuse .badRequest
  | some r =>
    match requestTable r p with
    | none => refuse .badTable
    | some t =>
      if p.length ≠ requestLength r t then refuse .badRequest else judgeOwn r t p s

/-- Check 5 of R157: a staged request needs a free staging slot (R154). -/
def judgeStaging (j : Judged) (s : State) : Judged :=
  match j.staged with
  | none => j
  | some _ => if 4 ≤ s.ring.mgmtSlots.length then refuse .busy else j

/-- Puts an accepted request in the next free staging slot (R154). -/
def State.stage (s : State) (i : Option Instr) : State :=
  match i with
  | none => s
  | some c => s.setRing { s.ring with mgmtSlots := s.ring.mgmtSlots ++ [c] }

/-- A MGMT cell of this node in passage: the request is judged and the reply written into the same
cell (R148, R157). -/
def passRequest (c : Cell) (s : State) : State × Cell :=
  match c.payload with
  | [] => (s, { c with kind := kindReply })
  | p =>
    let j := judgeStaging (judgeRequest p s) s
    (s.stage j.staged,
      { c with kind := kindReply, payload := padTo p.length (oct (statusCode j.status) :: j.data) })

/-- A MGMT cell in passage: another node's passes untouched (R148). -/
def passMgmt (c : Cell) (s : State) : State × Cell :=
  if lowTag c.tag = s.ring.node.toNat then passRequest c s else (s, c)

/-- A well-formed cell passed by its kind (R148). -/
def passCell (c : Cell) (s : State) : State × Cell :=
  if c.kind = kindData then passData c s
  else if c.kind = kindMgmt then passMgmt c s
  else if c.kind = kindSlot then passSlot c s
  else (s, c)

end Sys2Proof.Machine
end

