-- ==== Sys2Proof/Machine/Frames.lean ====
section
/-! DEFINITION. The Ring Interface (chapter 9): the link, the reception states octet by octet, good
and bad frame ends with their hand-overs, whole cells in passage, and the commands of the traffic
path. -/

namespace Sys2Proof.Machine

open Sys2Proof

/-- The most octets from the first header octet to the last FCS octet (9.3, R146). -/
def maxFrameOctets : Nat := 1536

/-- What leaves on port B (R145). -/
def State.emit (s : State) (xs : List PortSymbol) : State := { s with portB := s.portB ++ xs }

/-- Octets leave on port B. -/
def State.emitOctets (s : State) (os : List Octet) : State := s.emit (os.map PortSymbol.octet)

/-- Within a frame: the states in which a frame is in passage (Table 9-2). -/
def Reception.inFrame : Reception → Bool
  | .header | .cells | .check | .endWait => true
  | .between | .ignoring => false

/-- What arrives outside a frame is ignored, and an idle symbol leaves in its place (R145, Table
9-2; idles that no arrival stands for: DESIGN CHOICE, log entry 4). -/
def State.idles (s : State) : State := s.emit [.idleSymbol]

/-- A frame in passage that the Ring Interface acts on, as against one forwarded untouched. -/
def Ring.acting (r : Ring) : Bool := r.reception.inFrame && !r.through

/-- Replaces the frame context and the reception state. -/
def State.setFrame (s : State) (f : FrameContext) (st : Reception) : State :=
  s.setRing { s.ring with frame := f, reception := st }

/-! ### Frame ends -/

/-- The header sequence where all four header octets have arrived, else 0 (R151). -/
def discardSeq (r : Ring) : Word16 := if r.reception = .header then 0 else r.frame.seq

/-- What leaves of a cell or an FCS that a bad end cuts short: the octets of the cell as they
arrived, and for the octets of the FCS those sent in their place.  The FCS has not matched, so they
are octets of the complement of the sent CRC (R149, Table 9-2; DESIGN CHOICE, log entry 15). -/
def heldOctets (r : Ring) : List Octet :=
  match r.reception with
  | .cells => r.frame.buf
  | .check => (fcsOctets (~~~fcsOf r.frame.txCrc)).take r.frame.buf.length
  | _ => []

/-- Empties the TAKE and management staging slots. -/
def Ring.emptied (r : Ring) : Ring := { r with takeSlots := Tab.all 128 none, mgmtSlots := [] }

/-- A bad end for reason `why`: `out` leaves on port B and the reception state becomes `st` (R150,
R151). -/
def badEnd (why : BadEnd) (out : List PortSymbol) (st : Reception) (s : State) : State :=
  let r := s.ring
  let s := (s.emitOctets (heldOctets r)).emit out
  let s :=
    s.setRing
      { Ring.emptied r with
        badCount := r.badCount + 1, reception := st, frame := { r.frame with buf := [] } }
  (s.hand (.eventReturn r.frame.ordinal)).raise .frameDiscarded .ring (w16 (badEndCode why))
    (discardSeq r)

/-- The value taken for an object instance, if its slot is filled (R153).  Where a map write applied
in mid-frame lets two filled slots hold one instance, it is that of the lowest entry (DESIGN CHOICE,
log entry 34). -/
def takenFor (slots : Tab 128 (Option Taken)) (cls : ObjClass) (inst : Nat) :
    Option (List Octet) :=
  slots.entries.findSome? fun x =>
    match x with
    | some t => if t.cls = cls ∧ t.inst.toNat = inst then some t.payload else none
    | none => none

/-- The cycle delivery of head h (R153). -/
def deliveryFor (slots : Tab 128 (Option Taken)) (h : Head) : Delivery :=
  { command := (takenFor slots .headCommand h.val).map commandOf
    endpoint := (takenFor slots .headEndpoint h.val).map fun l => octAt16 l 0
    trims :=
      Tab.ofFn fun z => (takenFor slots .zoneTrim (zoneCh h z).val).map fun l => octAtSigned l 0 }

/-- The entries whose slots are filled. -/
def filledSlots (slots : Tab 128 (Option Taken)) : List (Fin 128) :=
  (List.finRange 128).filter fun e => (slots.get e).isSome

/-- The dock deliveries of a frame (Table 9-4). -/
def dockDeliveries (slots : Tab 128 (Option Taken)) : List Instr :=
  (List.finRange 3).filterMap fun p =>
    (takenFor slots .dockCommand p.val).map fun l => .dockDelivery p (dockValueOf l)

/-- The conditioner command deliveries of a frame (Table 9-4). -/
def condDeliveries (slots : Tab 128 (Option Taken)) : List Instr :=
  (List.finRange 3).filterMap fun p =>
    (takenFor slots .conditionerCommand p.val).map fun l =>
      .conditionerCommandDelivery p (commandOf l)

/-- The hand-overs of a good end, in the order of Table 9-4. -/
def handOvers (r : Ring) (us : BitVec 32) : List Instr :=
  (match r.frame.kind with
    | .cycle =>
      ((List.finRange 4).map fun h => Instr.cycleDelivery h (deliveryFor r.takeSlots h)) ++
        dockDeliveries r.takeSlots ++ condDeliveries r.takeSlots ++
        [.cycleFrameNotice us, .requiredEntryJudgement (filledSlots r.takeSlots)]
    | .async => []) ++
    r.mgmtSlots ++ [.eventRelease r.frame.ordinal]

/-- Notes that the hand-overs `cs` are of frame `frame` (R162, DESIGN CHOICE, log entry 30). -/
def State.await (s : State) (frame : Nat) (cs : List Instr) : State :=
  { s with awaiting := s.awaiting ++ cs.map fun c => ⟨frame, c⟩ }

/-- A good end: the end symbol is forwarded, the frame is counted and its staged work handed over
(R149, R152). -/
def goodEnd (s : State) : State :=
  let r := s.ring
  let s := s.emit [.endSymbol]
  let s :=
    s.setRing
      { Ring.emptied r with
        lastGood := r.frame.seq, goodCount := r.goodCount + 1,
        link := if r.link = .sync then .up else r.link, reception := .between,
        frame := { r.frame with buf := [] } }
  (s.handAll (handOvers r s.us)).await r.frame.ordinal (handOvers r s.us)

/-! ### Symbols on port A (Table 9-2) -/

/-- A frame begins: slots emptied, counts and CRCs started, the symbol forwarded (R146).  One that
begins while the transparent mark is set is forwarded untouched to its end (R155). -/
def beginFrame (s : State) : State :=
  let s := s.emit [.startSymbol]
  s.setRing
    { Ring.emptied s.ring with
      frame := { FrameContext.empty with ordinal := s.ring.frame.ordinal + 1 },
      reception := .header, through := s.ring.transparent }

/-- A start symbol: it ends a frame in passage bad, unless that is forwarded untouched, and begins a
frame (R146, R155). -/
def rxStart (s : State) : State :=
  if s.ring.link = .down then s.idles
  else if s.ring.acting ∧ s.ring.transparent = false then
    beginFrame (badEnd .structural [.abortSymbol] .between s)
  else beginFrame s

/-- An octet of a header (R147). -/
def rxHeader (o : Octet) (s : State) : State :=
  let f := s.ring.frame
  let n := f.buf.length
  if n = 0 ∧ o ≠ 0x01 ∧ o ≠ 0x02 then badEnd .structural [.abortSymbol] .ignoring s
  else
    let buf := f.buf ++ [o]
    let f :=
      { f with
        rxCrc := crc32Run f.rxCrc [o], txCrc := crc32Run f.txCrc [o], octets := f.octets + 1,
        buf := buf,
        kind := if n = 0 then (if o = 0x01 then .cycle else .async) else f.kind,
        cellCount := if n = 1 then o.toNat else f.cellCount }
    let s := s.emitOctets [o]
    if n < 3 then s.setFrame f .header
    else
      s.setFrame { f with seq := w16 (octAt16 buf 2), buf := [] }
        (if f.cellCount = 0 then .check else .cells)

/-- A cell is complete: it is passed, and leaves as its owner answers (R148). -/
def completeCell (c : Cell) (s : State) : State :=
  let (s, out) := passCell c s
  let f := s.ring.frame
  let s := s.emitOctets (Cell.octets out)
  s.setFrame
    { f with
      txCrc := crc32Run f.txCrc (Cell.octets out), cellsParsed := f.cellsParsed + 1, buf := [] }
    (if f.cellCount ≤ f.cellsParsed + 1 then .check else .cells)

/-- Whether the octets of a cell received so far decide a structure error: the cell kind at the
first, the length at the fifth (R148). -/
def badCellOctets (buf : List Octet) : Bool :=
  (buf.length == 1 && !knownKind (buf.getD 0 0)) ||
    (buf.length == 5 && decide (48 < octAt buf 4))

/-- Whether the octets received are a complete cell. -/
def cellComplete (buf : List Octet) : Bool :=
  decide (5 ≤ buf.length) && buf.length == 5 + octAt buf 4

/-- An octet of a cell.  The cell is passed at its last octet, so a cell that a bad end cuts short
is not acted on: no value is taken or given, no fault is raised and no record goes in flight (R148,
R182; DESIGN CHOICE, log entry 33). -/
def rxCell (o : Octet) (s : State) : State :=
  let f := s.ring.frame
  let buf := f.buf ++ [o]
  if badCellOctets buf then badEnd .structural [.abortSymbol] .ignoring s
  else
    let s :=
      s.setFrame { f with rxCrc := crc32Run f.rxCrc [o], octets := f.octets + 1, buf := buf }
        .cells
    if cellComplete buf then completeCell (cellOf buf) s else s

/-- The value four FCS octets spell (R149). -/
def fcsValue (l : List Octet) : BitVec 32 :=
  BitVec.ofNat 32 (65536 * octAt16 l 0 + octAt16 l 2)

/-- An octet of the FCS.  The octet that leaves in its place is known when the comparison is made,
at the fourth, and the four leave then (R149, Table 9-2; DESIGN CHOICE, log entry 15). -/
def rxCheck (o : Octet) (s : State) : State :=
  let f := s.ring.frame
  let buf := f.buf ++ [o]
  let f := { f with octets := f.octets + 1, buf := buf }
  if buf.length < 4 then s.setFrame f .check
  else
    let good := fcsValue buf == fcsOf f.rxCrc
    let sent := fcsOf f.txCrc
    (s.emitOctets (fcsOctets (if good then sent else ~~~sent))).setFrame
      { f with buf := [], fcsOk := good } .endWait

/-- An octet of a frame forwarded untouched (R155): it leaves as it arrived and is counted (R146),
up to the most that a frame has.  Its header and cells are not parsed (DESIGN CHOICE, log entry
17). -/
def forwardOctet (o : Octet) (s : State) : State :=
  let f := s.ring.frame
  (s.emitOctets [o]).setRing
    { s.ring with frame := { f with octets := min (f.octets + 1) maxFrameOctets } }

/-- An octet on port A; the octet limit is judged before the state (DEDUCED, log entry 16). -/
def rxOctet (o : Octet) (s : State) : State :=
  if s.ring.reception.inFrame = false then s.idles
  else if s.ring.through then forwardOctet o s
  else if maxFrameOctets ≤ s.ring.frame.octets then badEnd .oversize [.abortSymbol] .ignoring s
  else
    match s.ring.reception with
    | .header => rxHeader o s
    | .cells => rxCell o s
    | .check => rxCheck o s
    | .endWait => badEnd .structural [.abortSymbol] .ignoring s
    | .between | .ignoring => s.idles

/-- Octets on port A, in order. -/
def rxOctets (os : List Octet) (s : State) : State := os.foldl (fun s o => rxOctet o s) s

/-- An end symbol. -/
def rxEnd (s : State) : State :=
  if s.ring.reception.inFrame = false then s.idles
  else if s.ring.through then
    (s.emit [.endSymbol]).setRing { s.ring with reception := .between, through := false }
  else if s.ring.reception ≠ .endWait then badEnd .structural [.abortSymbol] .between s
  else if s.ring.frame.fcsOk then goodEnd s
  else badEnd .fcs [.endSymbol] .between s

/-- An abort symbol. -/
def rxAbort (s : State) : State :=
  if s.ring.reception.inFrame = false then s.idles
  else if s.ring.through then
    (s.emit [.abortSymbol]).setRing { s.ring with reception := .between, through := false }
  else badEnd .abort [.abortSymbol] .between s

/-- An idle symbol. -/
def rxIdle (s : State) : State :=
  if s.ring.reception.inFrame = false then s.idles
  else if s.ring.through then
    (s.emit [.idleSymbol]).setRing { s.ring with reception := .between, through := false }
  else badEnd .structural [.abortSymbol] .ignoring s

/-- Loss of signal or of symbol lock: a frame in passage ends with an abort, the reception state
becomes BETWEEN and the link DOWN (R144, R155; from IGNORING: DEDUCED, log entry 23). -/
def rxLoss (s : State) : State :=
  let s :=
    if s.ring.reception.inFrame = false then s
    else if s.ring.through then s.emit [.abortSymbol]
    else badEnd .link [.abortSymbol] .between s
  s.setRing { s.ring with link := .down, reception := .between, through := false }

/-- The symbol that ends the octets of a frame that ends bad. -/
def rxTail : FrameTail → State → State
  | .endSymbol, s => rxEnd s
  | .abortSymbol, s => rxAbort s
  | .idleSymbol, s => rxIdle s
  | .nothing, s => s

/-! ### Whole cells -/

/-- A cell can be taken whole: the Ring Interface is between cells of a frame it acts on, the cell
is well formed, and it does not reach the octet limit. -/
def takesWhole (c : Cell) (r : Ring) : Bool :=
  r.reception == .cells && !r.through && r.frame.buf == [] && knownKind c.kind &&
    decide (c.payload.length ≤ 48) &&
    decide (r.frame.octets + 5 + c.payload.length ≤ maxFrameOctets)

/-- A cell arrives on port A.  Taken whole it is passed at once; in any other state its octets go
the way of Table 9-2 one by one, which comes to the same (R148). -/
def arriveCell (c : Cell) (s : State) : State :=
  if takesWhole c s.ring then
    let f := s.ring.frame
    completeCell c
      (s.setFrame
        { f with
          rxCrc := crc32Run f.rxCrc (Cell.octets c), octets := f.octets + 5 + c.payload.length,
          buf := Cell.octets c }
        .cells)
  else rxOctets (Cell.octets c) s

/-- The MGMT cell of a request. -/
def mgmtCell (h : MgmtHead) (payload : List Octet) : Cell := ⟨kindMgmt, h.flags, h.tag, payload⟩

/-! ### The commands -/

/-- SYMBOL_LOCK_GAINED (R144). -/
def execSymbolLockGained (s : State) : Result :=
  let s := s.takeUp .symbolLockGained
  .next (if s.ring.link = .down then s.setRing { s.ring with link := .sync } else s)

/-- LOSS_OF_SIGNAL (R144). -/
def execLossOfSignal (s : State) : Result := .next (rxLoss (s.takeUp .lossOfSignal))

/-- FRAME_START: a start symbol, then the octets that follow it (R146, R147). -/
def execFrameStart (octets : List Octet) (s : State) : Result :=
  .next (rxOctets octets (rxStart (s.takeUp (.frameStart octets))))

/-- FRAME_GOOD_END: the octets that remain and an end symbol, at tick phase `phase` (R149, R152). -/
def execFrameGoodEnd (octets : List Octet) (phase : Fin 1000) (s : State) : Result :=
  .next
    (rxEnd (rxOctets octets (advanceToPhase phase.val (s.takeUp (.frameGoodEnd octets phase)))))

/-- FRAME_BAD_END: the octets since the last complete part of the frame, and the symbol after them
(R150, R151). -/
def execFrameBadEnd (octets : List Octet) (tail : FrameTail) (s : State) : Result :=
  .next (rxTail tail (rxOctets octets (s.takeUp (.frameBadEnd octets tail))))

/-- TAKE (R134). -/
def execTake (c : Cell) (s : State) : Result := .next (arriveCell c (s.takeUp (.take c)))

/-- GIVE (R136). -/
def execGive (c : Cell) (s : State) : Result := .next (arriveCell c (s.takeUp (.give c)))

/-- SLOT_FILL (R182). -/
def execSlotFill (c : Cell) (s : State) : Result := .next (arriveCell c (s.takeUp (.slotFill c)))

/-- READ (R157, R158). -/
def execRead (h : MgmtHead) (body : List Octet) (s : State) : Result :=
  .next (arriveCell (mgmtCell h (oct 1 :: body)) (s.takeUp (.read h body)))

/-- WRITE (R157). -/
def execWrite (h : MgmtHead) (body : List Octet) (s : State) : Result :=
  .next (arriveCell (mgmtCell h (oct 2 :: body)) (s.takeUp (.write h body)))

/-- ERASE (R157). -/
def execErase (h : MgmtHead) (body : List Octet) (s : State) : Result :=
  .next (arriveCell (mgmtCell h (oct 3 :: body)) (s.takeUp (.erase h body)))

/-- VERIFY (R157). -/
def execVerify (h : MgmtHead) (body : List Octet) (s : State) : Result :=
  .next (arriveCell (mgmtCell h (oct 4 :: body)) (s.takeUp (.verify h body)))

/-- SET (R160). -/
def execSet (h : MgmtHead) (body : List Octet) (s : State) : Result :=
  .next (arriveCell (mgmtCell h (oct 5 :: body)) (s.takeUp (.set h body)))

/-- STATUS (R158). -/
def execStatus (h : MgmtHead) (body : List Octet) (s : State) : Result :=
  .next (arriveCell (mgmtCell h (oct 6 :: body)) (s.takeUp (.status h body)))

/-- DISPENSE (R98). -/
def execDispense (h : MgmtHead) (body : List Octet) (s : State) : Result :=
  .next (arriveCell (mgmtCell h (oct 7 :: body)) (s.takeUp (.dispense h body)))

/-- STOP_LINE (Table 10-1). -/
def execStopLine (h : MgmtHead) (body : List Octet) (s : State) : Result :=
  .next (arriveCell (mgmtCell h (oct 8 :: body)) (s.takeUp (.stopLine h body)))

/-- CLEAR_INPUT (R177). -/
def execClearInput (h : MgmtHead) (body : List Octet) (s : State) : Result :=
  .next (arriveCell (mgmtCell h (oct 9 :: body)) (s.takeUp (.clearInput h body)))

/-- RESET (R161). -/
def execReset (h : MgmtHead) (body : List Octet) (s : State) : Result :=
  .next (arriveCell (mgmtCell h (oct 10 :: body)) (s.takeUp (.reset h body)))

/-- UNKNOWN_REQUEST_CODE, or a MGMT cell of length 0 (R157). -/
def execUnknownRequestCode (h : MgmtHead) (payload : List Octet) (s : State) : Result :=
  .next (arriveCell (mgmtCell h payload) (s.takeUp (.unknownRequestCode h payload)))

end Sys2Proof.Machine
end

