-- ==== Sys2Proof/Machine/Inputs.lean ====
section
/-! DEFINITION. The Discrete Input Unit (11.3): filtering, assertions, active states and rising
notices, configuration writes and CLEAR_INPUT. -/

namespace Sys2Proof.Machine

open Sys2Proof

/-- The rising notices of a function (R176). -/
def risingNotices : InputFunction → List Instr
  | .estop =>
    (List.finRange 4).map Instr.estopNoticeHead ++
      (List.finRange 3).map Instr.estopNoticeDispense ++
      (List.finRange 3).map Instr.estopNoticeConditioner
  | .airLow => []
  | .supplyLow p l => [.supplyLowNotice p l]
  | .condOverload p => [.condOverloadNotice p]

/-- Input `i` becomes `u`: a change of its active state raises INPUT_CHANGE, and a function that
becomes function-active hands its rising notices (R175, R176).  In detail2 the active and the
asserted state are 1 where they hold and 0 where not (DESIGN CHOICE, log entry 42). -/
def updateInput (i : Fin 16) (u : InputUnit) (s : State) : State :=
  let s' := s.setInput i u
  if InputUnit.isActive u = InputUnit.isActive (s.inputs.get i) then s'
  else
    let s' :=
      s'.raise .inputChange (.input i) (inputDetail u.config)
        (detail (boolCode (InputUnit.isActive u)) (boolCode (InputUnit.asserted u)))
    match InputConfig.function u.config with
    | some f =>
      if InputUnit.isActive u = true ∧ s.functionActive f = false then s'.handAll (risingNotices f)
      else s'
    | none => s'

/-- An assertion sets the latch of a LATCHED input (R175). -/
def latchOn (was : Bool) (u : InputUnit) : InputUnit :=
  if was = false ∧ InputUnit.asserted u = true ∧ u.config.mode = .latched then
    { u with latch := true }
  else u

/-- The filtered level of input `i` takes the raw level (R175). -/
def settleInput (i : Fin 16) (s : State) : State :=
  let u := s.inputs.get i
  updateInput i (latchOn (InputUnit.asserted u) { u with filtered := u.raw }) s

/-- INPUT_LEVEL_CHANGE (R175; the stability count where filter 0 settles the input at once: DESIGN
CHOICE, log entry 36).  A level that stands on the pin already is no change and does nothing
(DESIGN CHOICE, log entry 43). -/
def execInputLevelChange (i : Fin 16) (level : Bool) (s : State) : Result :=
  let s := s.takeUp (.inputLevelChange i level)
  let u := s.inputs.get i
  if level = u.raw then .next s
  else
    let s := s.setInput i { u with raw := level, stability := 0 }
    .next (if level ≠ u.filtered ∧ u.config.filter = 0 then settleInput i s else s)

/-- INPUT_FILTER_SETTLED: the filtered level takes the raw level (R175). -/
def execInputFilterSettled (i : Fin 16) (s : State) : Result :=
  let s := s.takeUp (.inputFilterSettled i)
  let u := s.inputs.get i
  .next (if u.raw = u.filtered then s else settleInput i s)

/-- The tick at input `i` (R175; the count after it settles: DEDUCED, log entry 22).  A count that a
lowered filter time leaves at or past it settles the input at this tick (DESIGN CHOICE, log entry
35). -/
def tickInput (s : State) (i : Fin 16) : State :=
  let u := s.inputs.get i
  if u.raw = u.filtered then s
  else
    let s := s.setInput i { u with stability := min (u.stability + 1) 15 }
    if u.config.filter ≤ u.stability + 1 then settleInput i s else s

/-- Input `i` under a new entry: the latch is cleared, and an input asserted under it counts as an
assertion (R174). -/
def reconfigure (e : InputConfig) (u : InputUnit) : InputUnit :=
  latchOn false { u with config := e, latch := false }

/-- Raises the WRITE_DROPPED of a request at input `i` (R174, R177). -/
def raiseInputDropped (i : Fin 16) (d1 : Word16) (s : State) : State :=
  s.raise .writeDropped (.input i) d1 (w16 i.val)

/-- Applies or drops a write to INPUT entry `i` (R174). -/
def applyInput (isErase : Bool) (i : Fin 16) (e : InputConfig) (s : State) : State :=
  if InputUnit.isActive (s.inputs.get i) then raiseInputDropped i (dropDetail .input isErase) s
  else updateInput i (reconfigure e (s.inputs.get i)) s

/-- INPUT_WRITE_APPLY (R174). -/
def execInputWriteApply (i : Fin 16) (e : InputConfig) (s : State) : Result :=
  .next (applyInput false i { e with valid := true } (s.takeUp (.inputWriteApply i e)))

/-- INPUT_ERASE_APPLY (R174). -/
def execInputEraseApply (i : Fin 16) (s : State) : Result :=
  .next (applyInput true i .erased (s.takeUp (.inputEraseApply i)))

/-- Applies or drops a CLEAR_INPUT (R177). -/
def clearInputAt (i : Fin 16) (s : State) : State :=
  let u := s.inputs.get i
  if InputUnit.asserted u then raiseInputDropped i (detail 0xFF 9) s
  else updateInput i { u with latch := false } s

/-- CLEAR_INPUT_APPLY (R177). -/
def execClearInputApply (i : Fin 16) (s : State) : Result :=
  .next (clearInputAt i (s.takeUp (.clearInputApply i)))

end Sys2Proof.Machine
end

