-- ==== Sys2Proof/Machine/Reset.lean ====
section
/-! DEFINITION. Resets (10.4 and each chapter's "Values after reset"): the reset values of every
block, power-on reset, the application of a management RESET, and the end of the transparent
period. -/

namespace Sys2Proof.Machine

open Sys2Proof

/-- The three kinds of reset (1.7). -/
inductive ResetKind where
  | powerOn | management (scope : Scope)
  deriving DecidableEq, Repr

/-- RESET(STATE) keeps tables and settings; the other resets do not. -/
def ResetKind.keeps : ResetKind → Bool
  | .management .state => true
  | _ => false

/-- Reset kind codes in RESET_DONE (R191): POWER_ON 0, STATE 1, ALL 2. -/
def ResetKind.code : ResetKind → Nat
  | .powerOn => 0
  | .management .state => 1
  | .management .all => 2

/-- A kept value, or the value a reset gives. -/
def keepOr {α : Type} (k : ResetKind) (old new : α) : α := if ResetKind.keeps k then old else new

/-- The Cell Map after a reset (Table 8-5). -/
def CellMap.afterResetOf (k : ResetKind) (m : CellMap) : CellMap :=
  { entries := keepOr k m.entries (Tab.all 128 .erased), seen := Tab.all 128 false,
    learnedHead := Tab.all 4 none, learnedDock := Tab.all 3 none, learnedCond := Tab.all 3 none }

/-- The Program Store after a reset (Table 1-9). -/
def ProgramStore.afterResetOf (k : ResetKind) (p : ProgramStore) : ProgramStore :=
  { dir := keepOr k p.dir (Tab.all 16 .erased), steps := keepOr k p.steps (Tab.all 96 .erased),
    claims := Tab.all 4 none }

/-- A zone channel after a reset (Table 3-6, Table 4-5). -/
def ZoneChannel.afterResetOf (k : ResetKind) (z : ZoneChannel) : ZoneChannel :=
  ZoneChannel.afterReset (keepOr k z.config .erased)

/-- The Regulator Port after a reset, before it takes its next channel (Table 3-6).  A word in hand
at a management reset is sent to its end (DESIGN CHOICE, log entry 31). -/
def RegulatorPort.afterResetOf (k : ResetKind) (r : RegulatorPort) : RegulatorPort :=
  match k with
  | .powerOn => { last := Tab.all 34 0, pending := Tab.all 34 true, refresh := 0, inHand := none }
  | .management _ => { r with pending := Tab.all 34 true, refresh := 0 }

/-- A Dock Table entry after a reset (Table 5-2). -/
def DockEntry.afterResetOf (k : ResetKind) (d : DockEntry) : DockEntry :=
  ⟨keepOr k d.docked none, 0, .none⟩

/-- An idle timer after a reset: loaded from the interval the reset leaves (Table 5-2, R90). -/
def IdleTimer.afterResetOf (k : ResetKind) (t : IdleTimer) : IdleTimer :=
  keepOr k { t with seconds := t.interval, millis := 0 } .afterReset

/-- A line after a reset (Table 6-7). -/
def LineState.afterResetOf (k : ResetKind) (x : LineState) : LineState :=
  LineState.afterReset (keepOr k x.config .erased)

/-- A conditioner after a reset (Table 7-7). -/
def Conditioner.afterResetOf (k : ResetKind) (c : Conditioner) : Conditioner :=
  Conditioner.afterReset (keepOr k c.parkPosition 0) (keepOr k c.parkBand 20)
    (keepOr k c.parkTimeout 5000)

/-- The Cadence Monitor after a reset (Table 11-2). -/
def Cadence.afterResetOf (k : ResetKind) (c : Cadence) : Cadence :=
  Cadence.afterReset (keepOr k c.period 1000) (keepOr k c.early 700) (keepOr k c.late 1500)
    (keepOr k c.limit 3)

/-- An input as a reset leaves it before its filter runs: the filtered level opposite its polarity
(R178).  The raw level is the pin's. -/
def InputUnit.afterResetOf (k : ResetKind) (u : InputUnit) : InputUnit :=
  let config := keepOr k u.config .erased
  { config := config, raw := u.raw, filtered := !config.polarity, stability := 0, latch := false }

/-- A group after a reset: under RESET(STATE) its state and check word are kept and a scan or rescan
starts again from the first octet (R168). -/
def GroupRecord.afterResetOf (k : ResetKind) (r : GroupRecord) : GroupRecord :=
  keepOr k { r with position := 0, crc := crc16Init, ticks := 0 } .afterReset

/-- The Table Verifier after a reset (Table 10-7). -/
def Verifier.afterResetOf (k : ResetKind) (v : Verifier) : Verifier :=
  { cellmap := GroupRecord.afterResetOf k v.cellmap
    program := GroupRecord.afterResetOf k v.program
    zone := GroupRecord.afterResetOf k v.zone
    line := GroupRecord.afterResetOf k v.line
    sweep := GroupRecord.afterResetOf k v.sweep
    vbr := keepOr k v.vbr true }

/-- The Event Queue emptied, under the settings the reset leaves, and RESET_DONE entered with stamp
0 (R185). -/
def EventQueue.afterResetOf (k : ResetKind) (q : EventQueue) : EventQueue :=
  raiseInto
    { records := [], lost := 0, kinds := keepOr k q.kinds defaultKinds,
      expressA := keepOr k q.expressA none, expressB := keepOr k q.expressB none }
    .resetDone .device (w16 (ResetKind.code k)) 0 0

/-- The Ring Interface after a management reset (Table 9-5; the frame in passage: DEDUCED, log entry
18). -/
def Ring.afterManagementReset (r : Ring) : Ring :=
  { Ring.emptied r with
    transparent := false, scope := .state, resetTicks := 0, resetFrame := none, lastGood := 0,
    goodCount := 0, badCount := 0 }

/-- The Ring Interface after power-on reset (Table 9-5). -/
def Ring.afterPowerOn (straps : BitVec 5) : Ring :=
  { node := straps, link := .down, reception := .between, frame := .empty, transparent := false,
    scope := .state, resetTicks := 0, resetFrame := none, through := false, lastGood := 0,
    goodCount := 0, badCount := 0, takeSlots := Tab.all 128 none, mgmtSlots := [] }

/-- Every block but the Ring Interface and the time base takes its reset values at once.  Events
handed between blocks and not yet taken are lost with the state that would take them (DESIGN
CHOICE, log entry 9).  An active input that the reset values make inactive raises no INPUT_CHANGE
for it (R178; DESIGN CHOICE, log entry 44). -/
def resetBlocks (k : ResetKind) (s : State) : State :=
  { s with
    handed := []
    awaiting := []
    written := []
    map := CellMap.afterResetOf k s.map
    store := ProgramStore.afterResetOf k s.store
    heads := Tab.all 4 .afterReset
    zones := s.zones.mapT (ZoneChannel.afterResetOf k)
    filters := Tab.all 34 .afterReset
    reg := RegulatorPort.afterResetOf k s.reg
    docks := s.docks.mapT (DockEntry.afterResetOf k)
    idle := s.idle.mapT (IdleTimer.afterResetOf k)
    queues := Tab.all 3 ⟨[], 0⟩
    lines := s.lines.mapT (LineState.afterResetOf k)
    conds := s.conds.mapT (Conditioner.afterResetOf k)
    profiles := keepOr k s.profiles (Tab.all 8 .erased)
    segments := keepOr k s.segments (Tab.all 96 .erased)
    cadence := Cadence.afterResetOf k s.cadence
    inputs := s.inputs.mapT (InputUnit.afterResetOf k)
    verifier := Verifier.afterResetOf k s.verifier
    events := EventQueue.afterResetOf k s.events }

/-- The filter of input `i` runs from the reset: at once for filter 0 (R178). -/
def refilterInput (s : State) (i : Fin 16) : State :=
  let u := s.inputs.get i
  if u.raw ≠ u.filtered ∧ u.config.filter = 0 then settleInput i s else s

/-- Every input's filter runs from the reset.  Inputs with filter 0 are asserted in ascending index
order, which orders what they raise and hand (R178, DESIGN CHOICE, log entry 37). -/
def refilterInputs (s : State) : State := (List.finRange 16).foldl refilterInput s

/-- Power-on reset: a frame in passage is ended on port B with an abort (R156), every block takes
its power-on values, the time base starts at 0 (R169) and the Regulator Port begins to send the
reset codes (R60).  Octets received and not yet sent are lost (DESIGN CHOICE, log entry 15). -/
def powerOn (straps : BitVec 5) (s : State) : State :=
  let s := if s.ring.reception.inFrame then s.emit [.abortSymbol] else s
  let s := (resetBlocks .powerOn s).setRing (Ring.afterPowerOn straps)
  (refilterInputs { s with us := 0, phase := 0 }).kickPort

/-- POWER_ON_RESET. -/
def execPowerOnReset (straps : BitVec 5) (s : State) : Result := .next (powerOn straps s)

/-- A frame already in passage when the transparent mark is set is forwarded untouched from here on
(R155); what has arrived of a cell or of the FCS leaves as it arrived. -/
def goThrough (s : State) : State :=
  if s.ring.acting then
    let s :=
      if s.ring.reception = .cells ∨ s.ring.reception = .check then s.emitOctets s.ring.frame.buf
      else s
    s.setRing { s.ring with through := true, frame := { s.ring.frame with buf := [] } }
  else s

/-- A RESET of frame `frame` reaches the Ring Interface (R161): dropped while a head is RUNNING or
PAUSED, merged with one of the same frame, else applied.  (A RESET that no frame handed, and a
period begun anew by one of another frame: DESIGN CHOICE, log entry 30.) -/
def applyReset (scope : Scope) (frame : Option Nat) (s : State) : State :=
  if s.anyHeadActive then s.raise .writeDropped .device (detail 0xFF 10) (w16 (scopeCode scope))
  else if s.ring.transparent ∧ frame = s.ring.resetFrame then
    s.setRing { s.ring with scope := if scope = .all then .all else s.ring.scope }
  else
    let s := goThrough s
    s.setRing
      { s.ring with transparent := true, scope := scope, resetTicks := 0, resetFrame := frame }

/-- RESET_APPLY (R161). -/
def execResetApply (scope : Scope) (s : State) : Result :=
  .next (applyReset scope (s.frameOf (.resetApply scope)) (s.takeUp (.resetApply scope)))

/-- The transparent period ends: every block takes its reset values for the period's scope and the
mark is cleared (R162), and the Regulator Port goes on to send the reset codes (R60). -/
def endTransparent (s : State) : State :=
  let k := ResetKind.management s.ring.scope
  (refilterInputs ((resetBlocks k s).setRing (Ring.afterManagementReset s.ring))).kickPort

/-- TRANSPARENT_PERIOD_END: nothing while a hand-over of the frame that carried the RESET has not
been taken (R162). -/
def execTransparentPeriodEnd (s : State) : Result :=
  let s := s.takeUp .transparentPeriodEnd
  .next (if s.ring.transparent = true ∧ s.resetAwaits = false then endTransparent s else s)

/-- The transparent period on a tick: it ends at the fifth tick after the mark was set, or at the
first tick after the last hand-over of the frame that carried the RESET has been taken (R162). -/
def tickTransparent (s : State) : State :=
  if s.ring.transparent = false then s
  else
    let s := s.setRing { s.ring with resetTicks := min (s.ring.resetTicks + 1) 5 }
    if 5 ≤ s.ring.resetTicks ∧ s.resetAwaits = false then endTransparent s else s

end Sys2Proof.Machine
end

