-- ==== Sys2Proof/Machine/Verifier.lean ====
section
/-! DEFINITION. The Table Verifier (10.5): group images, scans and rescans, write notices, VERIFY,
and the settings of the verifier and the Event Queue. -/

namespace Sys2Proof.Machine

open Sys2Proof

/-! ### Group images (R163, R189) -/

/-- One entry of an image: its valid octet, then the octets of its record. -/
def imageEntry (valid : Bool) (octets : List Octet) : List Octet := oct (boolCode valid) :: octets

/-- The image of the CELLMAP table. -/
def cellmapImage (s : State) : List Octet :=
  s.map.entries.entries.flatMap fun e => imageEntry e.valid (encodeMapEntry e)

/-- The image of the PROGRAM group: PROGRAM_DIR, then STEP. -/
def programImage (s : State) : List Octet :=
  (s.store.dir.entries.flatMap fun e => imageEntry e.valid (encodeDirEntry e)) ++
    s.store.steps.entries.flatMap fun r => imageEntry r.valid (encodeStep r)

/-- The image of the ZONE table. -/
def zoneImage (s : State) : List Octet :=
  s.zones.entries.flatMap fun z => imageEntry z.config.valid (encodeZone z.config)

/-- The image of the LINE table. -/
def lineImage (s : State) : List Octet :=
  s.lines.entries.flatMap fun x => imageEntry x.config.valid (encodeLine x.config)

/-- The image of the SWEEP group: PROFILE, then SEGMENT. -/
def sweepImage (s : State) : List Octet :=
  (s.profiles.entries.flatMap fun e => imageEntry e.valid (encodeProfile e)) ++
    s.segments.entries.flatMap fun r => imageEntry r.valid (encodeSegment r)

/-- The image of a group, over the tables as they stand (Table 10-5). -/
def State.groupImage (s : State) : Group → List Octet
  | .cellmap => cellmapImage s
  | .program => programImage s
  | .zone => zoneImage s
  | .line => lineImage s
  | .sweep => sweepImage s

/-! ### Scans -/

/-- A group's record with its scan context at the first octet of the image. -/
def GroupRecord.fresh (r : GroupRecord) (st : GroupState) : GroupRecord :=
  { r with state := st, position := 0, crc := crc16Init, ticks := 0 }

/-- The ticks a scan or rescan takes (R164, R166); 0 where the group is not scanned. -/
def scanTicks : GroupState → Nat
  | .verifying => 2
  | .verified => 50
  | .unverified | .failed => 0

/-- The group-failed notices of a group (Table 10-6). -/
def failedNotices : Group → List Instr
  | .cellmap | .program | .zone => (List.finRange 4).map Instr.tableFailedNotice
  | .line => (List.finRange 3).map Instr.lineGroupFailedNotice
  | .sweep => (List.finRange 3).map Instr.parkRequest

/-- The CRC of a group's scan carried over the rest of the image, as the tables stand (R164). -/
def State.finalCrc (s : State) (g : Group) : BitVec 16 :=
  let r := s.verifier.group g
  crc16Run r.crc ((s.groupImage g).drop r.position)

/-- A group enters FAILED (R164, R166, R167). -/
def failGroup (g : Group) (crc : BitVec 16) (s : State) : State :=
  let r := s.verifier.group g
  ((s.setGroup g (GroupRecord.fresh r .failed)).raise .tableFault (.group g) crc r.check).handAll
    (failedNotices g)

/-- A scan completes (R164).  The manual gives no detail2 for TABLE_VERIFIED: it is a free value
(DESIGN CHOICE, log entry 5).  A write whose notice is waiting is judged as the tables stand (DESIGN
CHOICE, log entry 47). -/
def completeScan (g : Group) (s : State) : State :=
  let r := s.verifier.group g
  if s.finalCrc g = r.check then
    let s := s.setGroup g (GroupRecord.fresh r .verified)
    { s.raise .tableVerified (.group g) r.check (Config.tableVerifiedDetail2 s.free) with
      free := s.free + 1 }
  else failGroup g (s.finalCrc g) s

/-- A rescan completes (R166).  A write whose notice is waiting is judged as the tables stand, and
may fail the group before the notice makes it UNVERIFIED (DESIGN CHOICE, log entry 47). -/
def completeRescan (g : Group) (s : State) : State :=
  let r := s.verifier.group g
  if s.finalCrc g = r.check then s.setGroup g (GroupRecord.fresh r .verified)
  else failGroup g (s.finalCrc g) s

/-- The scan of group `g` in VERIFYING, or its rescan in VERIFIED, completes. -/
def completeAt (g : Group) (s : State) : State :=
  match (s.verifier.group g).state with
  | .verifying => completeScan g s
  | .verified => completeRescan g s
  | .unverified | .failed => s

/-- The scan context of a group after tick `k` of the `n` its scan takes: the scan moves through the
image at an even pace, reading the tables as they stand (R164, DESIGN CHOICE, log entry 13). -/
def scanStep (k n : Nat) (image : List Octet) (r : GroupRecord) : GroupRecord :=
  let position := image.length * k / n
  { r with
    position := position
    crc := crc16Run r.crc ((image.drop r.position).take (position - r.position))
    ticks := k }

/-- The tick at group `g`: a scan or rescan moves on, and completes at its last tick (R164,
R166). -/
def tickGroup (s : State) (g : Group) : State :=
  let r := s.verifier.group g
  let n := scanTicks r.state
  if n = 0 then s
  else if r.ticks + 1 < n then s.setGroup g (scanStep (r.ticks + 1) n (s.groupImage g) r)
  else completeAt g s

/-- The tick at the Table Verifier. -/
def tickVerifier (s : State) : State :=
  [Group.cellmap, .program, .zone, .line, .sweep].foldl tickGroup s

/-- SCAN_COMPLETE: the scan of a group in VERIFYING completes (R164). -/
def execScanComplete (g : Group) (s : State) : Result :=
  let s := s.takeUp (.scanComplete g)
  .next (if (s.verifier.group g).state = .verifying then completeScan g s else s)

/-- RESCAN_COMPLETE: the rescan of a VERIFIED group completes (R166). -/
def execRescanComplete (g : Group) (s : State) : Result :=
  let s := s.takeUp (.rescanComplete g)
  .next (if (s.verifier.group g).state = .verified then completeRescan g s else s)

/-- WRITE_NOTICE: the group becomes UNVERIFIED and keeps its check word (R165). -/
def execWriteNotice (g : Group) (s : State) : Result :=
  let s := s.takeUp (.writeNotice g)
  .next (s.setGroup g (GroupRecord.fresh (s.verifier.group g) .unverified))

/-- VERIFY_APPLY: the check word is set and a scan starts at the first octet (R164). -/
def execVerifyApply (g : Group) (w : Word16) (s : State) : Result :=
  let s := s.takeUp (.verifyApply g w)
  .next
    (s.setGroup g (GroupRecord.fresh { s.verifier.group g with check := w } .verifying))

/-! ### Settings (R160) -/

/-- SET_VERIFY_BEFORE_RUN. -/
def execSetVerifyBeforeRun (on : Bool) (s : State) : Result :=
  let s := s.takeUp (.setVerifyBeforeRun on)
  .next (s.setVerifier { s.verifier with vbr := on })

/-- SET_EXPRESS_A (R179). -/
def execSetExpressA (k : Option EventKind) (s : State) : Result :=
  let s := s.takeUp (.setExpressA k)
  .next (s.setEvents { s.events with expressA := k })

/-- SET_EXPRESS_B (R179). -/
def execSetExpressB (k : Option EventKind) (s : State) : Result :=
  let s := s.takeUp (.setExpressB k)
  .next (s.setEvents { s.events with expressB := k })

/-- SET_EVENT_KIND (R179). -/
def execSetEventKind (k : EventKind) (level : Fin 4) (enable : Bool) (s : State) : Result :=
  let s := s.takeUp (.setEventKind k level enable)
  .next (s.setEvents { s.events with kinds := s.events.kinds.upd (kindCode k) ⟨level, enable⟩ })

end Sys2Proof.Machine
end

