-- ==== Sys2Proof/Machine/Tick.lean ====
section
/-! DEFINITION. The 1 ms tick (R169): one event at each block that works on ticks, taken here in one
order of the blocks (DESIGN CHOICE, log entry 10). -/

namespace Sys2Proof.Machine

open Sys2Proof

/-- The tick at the heads, the filters, the dispense engines, the conditioners and the idle
timers. -/
def tickField (s : State) : State :=
  let s := (List.finRange 4).foldl tickHead s
  let s := (List.finRange 34).foldl tickFilter s
  let s := (List.finRange 3).foldl tickDispense s
  let s := (List.finRange 3).foldl tickCond s
  (List.finRange 3).foldl tickIdle s

/-- The tick at every block: the time base comes to the tick, the field blocks, the Regulator Port,
the inputs and the Table Verifier work on it, and a transparent period may end.  A port that sends
nothing then takes the channel that is pending (R59, DESIGN CHOICE, log entry 19). -/
def takeTick (s : State) : State :=
  let s := { advanceTime (1000 - s.phase) s with phase := 0 }
  let s := tickPort (tickField s)
  let s := tickVerifier ((List.finRange 16).foldl tickInput s)
  (tickTransparent s).kickPort

/-- TICK (R169). -/
def execTick (s : State) : Result := .next (takeTick (s.takeUp .tick))

end Sys2Proof.Machine
end

