-- ==== Sys2Proof/Machine/Dispatch.lean ====
section
/-! DEFINITION. The meaning of each command: one arm per row of spec/opcode_table.json. -/

namespace Sys2Proof.Machine

open Sys2Proof

/-- What a command does to everything but the queue of waiting commands. -/
def exec (i : Instr) (s : State) : Host.Outcome State Fault Refusal :=
  match i with
  | .powerOnReset straps => Sys2Proof.Machine.execPowerOnReset straps s
  | .symbolLockGained => Sys2Proof.Machine.execSymbolLockGained s
  | .lossOfSignal => Sys2Proof.Machine.execLossOfSignal s
  | .frameStart octets => Sys2Proof.Machine.execFrameStart octets s
  | .frameGoodEnd octets phase => Sys2Proof.Machine.execFrameGoodEnd octets phase s
  | .frameBadEnd octets tail => Sys2Proof.Machine.execFrameBadEnd octets tail s
  | .take cell => Sys2Proof.Machine.execTake cell s
  | .give cell => Sys2Proof.Machine.execGive cell s
  | .slotFill cell => Sys2Proof.Machine.execSlotFill cell s
  | .read head body => Sys2Proof.Machine.execRead head body s
  | .write head body => Sys2Proof.Machine.execWrite head body s
  | .erase head body => Sys2Proof.Machine.execErase head body s
  | .verify head body => Sys2Proof.Machine.execVerify head body s
  | .set head body => Sys2Proof.Machine.execSet head body s
  | .status head body => Sys2Proof.Machine.execStatus head body s
  | .dispense head body => Sys2Proof.Machine.execDispense head body s
  | .stopLine head body => Sys2Proof.Machine.execStopLine head body s
  | .clearInput head body => Sys2Proof.Machine.execClearInput head body s
  | .reset head body => Sys2Proof.Machine.execReset head body s
  | .cycleDelivery h d => Sys2Proof.Machine.execCycleDelivery h d s
  | .start h program seq => Sys2Proof.Machine.execStart h program seq s
  | .pause h seq => Sys2Proof.Machine.execPause h seq s
  | .resume h seq => Sys2Proof.Machine.execResume h seq s
  | .skip h seq => Sys2Proof.Machine.execSkip h seq s
  | .abort h seq => Sys2Proof.Machine.execAbort h seq s
  | .clear h seq => Sys2Proof.Machine.execClear h seq s
  | .nop h seq => Sys2Proof.Machine.execNop h seq s
  | .programRelease h => Sys2Proof.Machine.execProgramRelease h s
  | .overpressureNotice h => Sys2Proof.Machine.execOverpressureNotice h s
  | .cadenceLostNotice h => Sys2Proof.Machine.execCadenceLostNotice h s
  | .estopNoticeHead h => Sys2Proof.Machine.execEstopNoticeHead h s
  | .tableFailedNotice h => Sys2Proof.Machine.execTableFailedNotice h s
  | .flowFaultNotice h => Sys2Proof.Machine.execFlowFaultNotice h s
  | .tick => Sys2Proof.Machine.execTick s
  | .regulatorRefresh => Sys2Proof.Machine.execRegulatorRefresh s
  | .regulatorWordDone => Sys2Proof.Machine.execRegulatorWordDone s
  | .gaugeWord w => Sys2Proof.Machine.execGaugeWord w s
  | .gaugeStale c => Sys2Proof.Machine.execGaugeStale c s
  | .dockDelivery p v => Sys2Proof.Machine.execDockDelivery p v s
  | .dockCommandHead p code seq => Sys2Proof.Machine.execDockCommandHead p code seq s
  | .dockCommandNone p seq => Sys2Proof.Machine.execDockCommandNone p seq s
  | .cycleNotice p h => Sys2Proof.Machine.execCycleNotice p h s
  | .idleTimerReload p => Sys2Proof.Machine.execIdleTimerReload p s
  | .idleExpiry p => Sys2Proof.Machine.execIdleExpiry p s
  | .orderOffer p o => Sys2Proof.Machine.execOrderOffer p o s
  | .burstStroke p l => Sys2Proof.Machine.execBurstStroke p l s
  | .owedStroke p l => Sys2Proof.Machine.execOwedStroke p l s
  | .flowPulse p l => Sys2Proof.Machine.execFlowPulse p l s
  | .flowWindowClose p l => Sys2Proof.Machine.execFlowWindowClose p l s
  | .stepEndNotice p h => Sys2Proof.Machine.execStepEndNotice p h s
  | .headSafeNotice p h => Sys2Proof.Machine.execHeadSafeNotice p h s
  | .estopNoticeDispense p => Sys2Proof.Machine.execEstopNoticeDispense p s
  | .supplyLowNotice p l => Sys2Proof.Machine.execSupplyLowNotice p l s
  | .lineGroupFailedNotice p => Sys2Proof.Machine.execLineGroupFailedNotice p s
  | .stopLineApply p l => Sys2Proof.Machine.execStopLineApply p l s
  | .conditionerCommandDelivery p v => Sys2Proof.Machine.execConditionerCommandDelivery p v s
  | .sweep p k seq => Sys2Proof.Machine.execSweep p k seq s
  | .park p seq => Sys2Proof.Machine.execPark p seq s
  | .clearFault p seq => Sys2Proof.Machine.execClearFault p seq s
  | .overloadAck p seq => Sys2Proof.Machine.execOverloadAck p seq s
  | .stepConditionerCommand p c => Sys2Proof.Machine.execStepConditionerCommand p c s
  | .parkRequest p => Sys2Proof.Machine.execParkRequest p s
  | .positionUpdate p fb => Sys2Proof.Machine.execPositionUpdate p fb s
  | .reachTimeout p => Sys2Proof.Machine.execReachTimeout p s
  | .dwellEnd p => Sys2Proof.Machine.execDwellEnd p s
  | .parkTimeout p => Sys2Proof.Machine.execParkTimeout p s
  | .condOverloadNotice p => Sys2Proof.Machine.execCondOverloadNotice p s
  | .estopNoticeConditioner p => Sys2Proof.Machine.execEstopNoticeConditioner p s
  | .programDirWriteApply n e => Sys2Proof.Machine.execProgramDirWriteApply n e s
  | .programDirEraseApply n => Sys2Proof.Machine.execProgramDirEraseApply n s
  | .stepWriteApply n r => Sys2Proof.Machine.execStepWriteApply n r s
  | .stepEraseApply n => Sys2Proof.Machine.execStepEraseApply n s
  | .zoneWriteApply c e => Sys2Proof.Machine.execZoneWriteApply c e s
  | .zoneEraseApply c => Sys2Proof.Machine.execZoneEraseApply c s
  | .lineWriteApply n e => Sys2Proof.Machine.execLineWriteApply n e s
  | .lineEraseApply n => Sys2Proof.Machine.execLineEraseApply n s
  | .profileWriteApply k e => Sys2Proof.Machine.execProfileWriteApply k e s
  | .profileEraseApply k => Sys2Proof.Machine.execProfileEraseApply k s
  | .segmentWriteApply n r => Sys2Proof.Machine.execSegmentWriteApply n r s
  | .segmentEraseApply n => Sys2Proof.Machine.execSegmentEraseApply n s
  | .cellmapWriteApply n e => Sys2Proof.Machine.execCellmapWriteApply n e s
  | .cellmapEraseApply n => Sys2Proof.Machine.execCellmapEraseApply n s
  | .inputWriteApply n e => Sys2Proof.Machine.execInputWriteApply n e s
  | .inputEraseApply n => Sys2Proof.Machine.execInputEraseApply n s
  | .writeNotice g => Sys2Proof.Machine.execWriteNotice g s
  | .verifyApply g w => Sys2Proof.Machine.execVerifyApply g w s
  | .scanComplete g => Sys2Proof.Machine.execScanComplete g s
  | .rescanComplete g => Sys2Proof.Machine.execRescanComplete g s
  | .setCadence period early late limit => Sys2Proof.Machine.execSetCadence period early late limit s
  | .setVerifyBeforeRun on => Sys2Proof.Machine.execSetVerifyBeforeRun on s
  | .setExpressA k => Sys2Proof.Machine.execSetExpressA k s
  | .setExpressB k => Sys2Proof.Machine.execSetExpressB k s
  | .setEventKind k level enable => Sys2Proof.Machine.execSetEventKind k level enable s
  | .setIdleInterval p v => Sys2Proof.Machine.execSetIdleInterval p v s
  | .setIdleLine p l => Sys2Proof.Machine.execSetIdleLine p l s
  | .setIdleCount p v => Sys2Proof.Machine.execSetIdleCount p v s
  | .setParkPosition p v => Sys2Proof.Machine.execSetParkPosition p v s
  | .setParkBand p v => Sys2Proof.Machine.execSetParkBand p v s
  | .setParkTimeout p v => Sys2Proof.Machine.execSetParkTimeout p v s
  | .resetApply scope => Sys2Proof.Machine.execResetApply scope s
  | .transparentPeriodEnd => Sys2Proof.Machine.execTransparentPeriodEnd s
  | .cycleFrameNotice us => Sys2Proof.Machine.execCycleFrameNotice us s
  | .cadenceLateExpiry => Sys2Proof.Machine.execCadenceLateExpiry s
  | .requiredEntryJudgement filled => Sys2Proof.Machine.execRequiredEntryJudgement filled s
  | .inputLevelChange n level => Sys2Proof.Machine.execInputLevelChange n level s
  | .inputFilterSettled n => Sys2Proof.Machine.execInputFilterSettled n s
  | .clearInputApply n => Sys2Proof.Machine.execClearInputApply n s
  | .eventRaise k src detail1 detail2 => Sys2Proof.Machine.execEventRaise k src detail1 detail2 s
  | .eventRelease frame => Sys2Proof.Machine.execEventRelease frame s
  | .eventReturn frame => Sys2Proof.Machine.execEventReturn frame s
  | .unknownRequestCode head payload => Sys2Proof.Machine.execUnknownRequestCode head payload s

end Sys2Proof.Machine
end

