-- ==== Sys2Proof/Machine/Step.lean ====
section
/-! DEFINITION. One step of the machine: the command at the front of the queue; with none waiting,
the oldest event that one block has handed to another; with neither, the block idles. -/

namespace Sys2Proof.Machine

open Sys2Proof

/-- One step (DESIGN CHOICE, log entry 2).  A command from outside is taken before the events
waiting between the blocks, so that a sender may also send those events itself, in any order. -/
def step (s : State) : Host.Outcome State Fault Refusal :=
  match s.pending with
  | c :: rest => exec c { s with pending := rest }
  | [] =>
    match s.handed with
    | c :: _ => exec c s
    | [] => .next s

/-- The state with the command that a word spells put at the front of the queue; the state itself
where the word spells none. -/
def State.withFetchWord (s : State) (nbits w : Nat) : State :=
  match decodeTableWord nbits w with
  | some c => { s with pending := c :: s.pending }
  | none => s

end Sys2Proof.Machine
end

