-- ==== Sys2Proof/WellFormed.lean ====
section
/-! DEFINITION. Well-formed commands: operands within the ranges the manual gives them.  The machine
is total on every command; these checks say which ones can arise at a 7420. -/

namespace Sys2Proof

open Sys2Proof.Machine

/-! ### Fields that fit their octets (Table 13-6) -/

/-- Every field of a step record fits the octets of its layout. -/
def StepRecord.fits (r : StepRecord) : Bool :=
  r.targets.entries.all (fun t => decide (t ≤ 65535)) && decide (r.ringRate ≤ 65535) &&
    decide (r.membraneRate ≤ 65535) && decide (r.trimLimit ≤ 65535) && decide (r.band ≤ 65535) &&
    decide (r.settleMask ≤ 255) && decide (r.endCount ≤ 65535) && decide (r.maxCycles ≤ 65535) &&
    decide (r.count ≤ 65535)

/-- Every field of a Zone Config entry fits the octets of its layout. -/
def ZoneConfig.fits (e : ZoneConfig) : Bool :=
  decide (e.floor ≤ 65535) && decide (e.ceiling ≤ 65535) && decide (e.safeValue ≤ 65535) &&
    decide (e.safeRate ≤ 65535) && decide (e.opLimit ≤ 65535) && decide (e.opDebounce ≤ 255) &&
    decide (e.diffLimit ≤ 65535) && decide (e.bandDebounce ≤ 255) &&
    decide (e.staleLimit ≤ 255) && decide (e.averaging ≤ 255)

/-- Every field of a Line Config entry fits the octets of its layout. -/
def LineConfig.fits (e : LineConfig) : Bool :=
  decide (e.strokePeriod ≤ 65535) && decide (e.flowWindow ≤ 65535) && decide (e.missLimit ≤ 255)

/-- Every field of a profile entry fits the octets of its layout. -/
def ProfileEntry.fits (e : ProfileEntry) : Bool :=
  decide (e.first ≤ 255) && decide (e.count ≤ 255) && decide (e.repeats ≤ 255) &&
    decide (e.reachBand ≤ 255) && decide (e.reachTimeout ≤ 65535)

/-- Every field of a segment record fits the octets of its layout. -/
def SegmentRecord.fits (r : SegmentRecord) : Bool :=
  decide (r.position ≤ 65535) && decide (r.downforce ≤ 65535) && decide (r.dwell ≤ 65535)

/-- Every field of a directory entry fits the octets of its layout. -/
def DirEntry.fits (e : DirEntry) : Bool := decide (e.first ≤ 255) && decide (e.count ≤ 255)

/-- The filter of an INPUT entry fits its octet. -/
def InputConfig.fits (e : InputConfig) : Bool := decide (e.filter ≤ 255)

/-! ### The checks of each operand -/

/-- The records a WRITE can carry: fields that fit and pass their table's checks (R2, R4, R44, R92,
R114, R130, R174). -/
def goodRecord : Instr → Bool
  | .programDirWriteApply _ e => DirEntry.fits e && DirEntry.inRange e
  | .stepWriteApply _ r => StepRecord.fits r && StepRecord.inRange r
  | .zoneWriteApply _ e => ZoneConfig.fits e && ZoneConfig.inRange e
  | .lineWriteApply _ e => LineConfig.fits e && LineConfig.inRange e
  | .profileWriteApply _ e => ProfileEntry.fits e && ProfileEntry.inRange e
  | .segmentWriteApply _ r => SegmentRecord.fits r && SegmentRecord.inRange r
  | .cellmapWriteApply _ e => MapEntry.inRange e
  | .inputWriteApply _ e => InputConfig.fits e && InputConfig.inRange e
  | _ => true

/-- A cell that may pass the ring (Table 13-1), of kind `k`. -/
def goodCell (k : Octet) (c : Cell) : Bool := c.kind == k && decide (c.payload.length ≤ 48)

/-- A request's payload after its code: at most 47 octets. -/
def goodBody (body : List Octet) : Bool := decide (body.length ≤ 47)

/-- A delivery's endpoint and trims in range (Table 8-2). -/
def goodDelivery (d : Delivery) : Bool :=
  (match d.endpoint with
    | some e => decide (e ≤ 65535)
    | none => true) &&
    d.trims.entries.all fun t =>
      match t with
      | some x => decide (-32768 ≤ x ∧ x ≤ 32767)
      | none => true

/-- An order's count in range (R97, R160). -/
def goodOffer (o : Offer) : Bool := decide (1 ≤ o.count ∧ o.count ≤ 1023)

/-- Settings in range (Table 10-4). -/
def goodSetting : Instr → Bool
  | .setCadence p e l v => cadenceInRange p e l v
  | .setIdleInterval _ v => decide (v ≤ 3600)
  | .setIdleCount _ v => decide (1 ≤ v ∧ v ≤ 1023)
  | .setParkPosition _ v => decide (v ≤ 4000)
  | .setParkBand _ v => decide (1 ≤ v ∧ v ≤ 200)
  | .setParkTimeout _ v => decide (100 ≤ v ∧ v ≤ 10000)
  | _ => true

/-- The payload of a request no code names: empty, or a code outside 1 to 10 (R157). -/
def goodUnknown (p : List Octet) : Bool :=
  decide (p.length ≤ 48) &&
    (p == [] || octAt p 0 == 0 || decide (10 < octAt p 0))

/-- Every check a command meets. -/
def wellFormed (i : Instr) : Bool :=
  goodRecord i && goodSetting i &&
    (match i with
      | .take c | .give c => goodCell kindData c
      | .slotFill c => goodCell kindSlot c
      | .read _ b | .write _ b | .erase _ b | .verify _ b | .set _ b | .status _ b
      | .dispense _ b | .stopLine _ b | .clearInput _ b | .reset _ b => goodBody b
      | .unknownRequestCode _ p => goodUnknown p
      | .cycleDelivery _ d => goodDelivery d
      | .orderOffer _ o => goodOffer o
      | .dockCommandHead _ x _ => x != 0xFF#8
      | .positionUpdate _ fb => decide (fb ≤ 4000)
      | _ => true)

/-- A well-formed command. -/
def WellFormed (i : Instr) : Prop := wellFormed i = true

end Sys2Proof
end

