-- ==== Sys2Proof/Safety.lean ====
section
/-! DEFINITION. What a sound state is: the laws the manual states of the 7420, as predicates of the
state that claims are made in. -/

namespace Sys2Proof.Machine

open Sys2Proof

/-- Law 2 (R56): every regulator code is its setpoint rounded by its range. -/
def codeLaw (s : State) : Prop :=
  ∀ c : ZoneCh,
    (s.zones.get c).code = regulatorCode (s.zoneConfig c).range (s.zones.get c).setpoint

/-- The part of Law 1 that holds in every state (R55): no setpoint lies above its zone's ceiling.
The safe value of each entry lies at or below the ceiling, as R44 checks it. -/
def ceilingLaw (s : State) : Prop :=
  ∀ c : ZoneCh,
    (s.zones.get c).setpoint ≤ (s.zoneConfig c).ceiling ∧
      (s.zoneConfig c).safeValue ≤ (s.zoneConfig c).ceiling

/-- The part of Law 1 that a head keeps outside IDLE and SAFE_HOLD (R55): the setpoints of a
RUNNING, PAUSED or DONE head lie at or above their floors. -/
def atFloors (h : Head) (s : State) : Prop :=
  (s.heads.get h).state = .running ∨ (s.heads.get h).state = .paused ∨
      (s.heads.get h).state = .done →
    ∀ z : Zone, (s.zoneConfig (zoneCh h z)).floor ≤ (s.zoneOf h z).setpoint

/-- The floor part of Law 1 (R55), for every head, and the order of the limits, as R44 checks it. -/
def floorLaw (s : State) : Prop :=
  (∀ c : ZoneCh, (s.zoneConfig c).floor ≤ (s.zoneConfig c).ceiling) ∧ ∀ h : Head, atFloors h s

/-- A Regulator Port that sends nothing has no mark pending (R59). -/
def portLaw (s : State) : Prop := s.reg.inHand = none → ∀ c : Chan, s.reg.pending.get c = false

/-- Law 5 and the Dock Table's own law (R79): a RUNNING or PAUSED head is docked, and no head stands
in two entries. -/
def dockLaw (s : State) : Prop :=
  (∀ h : Head, (s.heads.get h).isActive = true → ∃ p, (s.docks.get p).docked = some h) ∧
    ∀ (p q : Platen) (h : Head),
      (s.docks.get p).docked = some h → (s.docks.get q).docked = some h → p = q

/-- Law 7 (R95) of one platen's queue. -/
def queueGood (os : List Order) : Prop :=
  os.length ≤ 8 ∧ (∀ l : Line, os.countP (activeOn l) ≤ 1) ∧ ∀ o ∈ os, o.strokes ≤ o.count

/-- Law 7 (R95). -/
def queueLaw (s : State) : Prop := ∀ p : Platen, queueGood (s.queues.get p).orders

/-- Two records that are both QUEUED and of one kind and source. -/
def twins (a b : EventRecord) : Prop :=
  a.flight = none ∧ b.flight = none ∧ a.kind = b.kind ∧ a.source = b.source

/-- Law 8 (R180) of a list of records. -/
def recordsGood (rs : List EventRecord) : Prop :=
  rs.length ≤ 32 ∧ rs.Pairwise fun a b => ¬twins a b

/-- Law 8 (R180). -/
def eventLaw (s : State) : Prop := recordsGood s.events.records

/-- The part of Law 10 that the Cadence Monitor keeps (R172): the violation count never exceeds V.
It is below V in LOCKED, and 0 in UNARMED. -/
def cadenceGood (c : Cadence) : Prop :=
  1 ≤ c.limit ∧
    match c.state with
    | .unarmed => c.violations = 0
    | .locked => c.violations < c.limit
    | .lost => c.violations ≤ c.limit

/-- The part of Law 10 that the Cadence Monitor keeps (R172). -/
def cadenceLaw (s : State) : Prop := cadenceGood s.cadence

/-- The part of Law 10 about the heads (R172): while the cadence is LOST, a head that is RUNNING or
PAUSED has its cadence-lost notice waiting. -/
def lostLaw (s : State) : Prop :=
  s.cadence.state = .lost →
    ∀ h : Head, (s.heads.get h).isActive = true → .cadenceLostNotice h ∈ s.handed

/-- What Law 6 rests on (R7, R14): the claim of a RUNNING or PAUSED head is its program.  No release
of it is waiting, of any other head at most one, and none is ever staged (the waiting of a release:
DESIGN CHOICE, log entries 2 and 8). -/
def claimLaw (s : State) : Prop :=
  ∀ h : Head,
    .programRelease h ∉ s.ring.mgmtSlots ∧
      (if (s.heads.get h).isActive = true then
        (∃ p, (s.heads.get h).program = some p ∧ s.store.claims.get h = some p) ∧
          .programRelease h ∉ s.handed
      else s.handed.count (.programRelease h) ≤ 1)

/-- Staged and handed requests carry records and settings in their ranges. -/
def stagedLaw (s : State) : Prop :=
  ∀ i ∈ s.handed ++ s.ring.mgmtSlots, goodRecord i = true ∧ goodSetting i = true

/-- At most four staging slots are held (R154). -/
def slotsLaw (s : State) : Prop := s.ring.mgmtSlots.length ≤ 4

/-- Every command waiting is well-formed. -/
def commandsGood (s : State) : Prop := ∀ c ∈ s.pending, WellFormed c

/-! ### What claims speak of -/

/-- A tick at `s` ends no transparent period (R162): the transparent mark is clear, or the tick
comes before the fifth after it was set, or a hand-over of the RESET's frame has not been taken. -/
def tickGoesOn (s : State) : Prop :=
  s.ring.transparent = true →
    s.ring.resetTicks + 1 < 5 ∨
      ∃ x ∈ (s.takeUp .tick).awaiting, s.ring.resetFrame = some x.frame

/-- A new head command answered with outcome `o`, over the head record `r` it leaves: the sequence
is learned, sequence and outcome are recorded, and a refusal is raised (R19). -/
def headAnswered (h : Head) (code : Octet) (seq : Word16) (o : HeadOutcome) (r : HeadRecord)
    (s : State) : State :=
  let s :=
    { s with
      map := { s.map with learnedHead := s.map.learnedHead.upd h (some seq) }
      heads := s.heads.upd h { r with lastSeq := seq, lastOutcome := o } }
  if 4 ≤ headOutcomeCode o then
    s.raise .cmdRefused (.head h) (w16 code.toNat) (w16 (headOutcomeCode o))
  else s

/-- A new conditioner command answered with outcome `o`, over the conditioner `c` it leaves
(R120). -/
def condAnswered (p : Platen) (code : Octet) (seq : Word16) (o : CondOutcome) (c : Conditioner)
    (s : State) : State :=
  let s :=
    { s with
      map := { s.map with learnedCond := s.map.learnedCond.upd p (some seq) }
      conds := s.conds.upd p { c with lastSeq := seq, lastOutcome := o } }
  if 4 ≤ condOutcomeCode o then
    s.raise .cmdRefused (.conditioner p) (w16 code.toNat) (w16 (condOutcomeCode o))
  else s

/-- A new dock command answered with outcome `o`, under the dock entries `docks` it leaves (R80). -/
def dockAnswered (p : Platen) (code : Octet) (seq : Word16) (o : DockOutcome)
    (docks : Tab 3 DockEntry) (s : State) : State :=
  let s :=
    { s with
      map := { s.map with learnedDock := s.map.learnedDock.upd p (some seq) }
      docks := docks.upd p { docks.get p with lastSeq := seq, lastOutcome := o } }
  if 4 ≤ dockOutcomeCode o then
    s.raise .cmdRefused (.platen p) (w16 code.toNat) (w16 (dockOutcomeCode o))
  else s

/-- What the entry of head h to SAFE_HOLD from record `r` hands and raises, in order (R35). -/
def safeHoldEvents (h : Head) (cause : SafeCause) (r : HeadRecord) (platen : Option Platen) :
    List Instr :=
  (if r.state = .running ∨ r.state = .paused then [.programRelease h] else []) ++
    (match platen with
      | some p => [.headSafeNotice p h, .parkRequest p]
      | none => []) ++
    [.eventRaise .safeHoldEntered (.head h) (w16 (safeCauseCode cause))
      (w16 (headStateCode r.state))]

/-- A cell `c` that has passed and left as `out`: octets on port B, both CRCs, the octet count, the
cells parsed and the reception state (R148, R149). -/
def passed (c out : Cell) (s : State) : State :=
  let f := s.ring.frame
  { s with
    portB := s.portB ++ (Cell.octets out).map PortSymbol.octet
    ring :=
      { s.ring with
        frame :=
          { f with
            rxCrc := crc32Run f.rxCrc (Cell.octets c), txCrc := crc32Run f.txCrc (Cell.octets out),
            octets := f.octets + 5 + c.payload.length, cellsParsed := f.cellsParsed + 1, buf := [] }
        reception := if f.cellCount ≤ f.cellsParsed + 1 then .check else .cells } }

/-- A frame that has ended bad (R151): the slots are emptied, the count rises, the return and
FRAME_DISCARDED are handed, and `out` has left on port B after what had arrived of a cell, or after
the octets sent in place of what had arrived of the FCS (DESIGN CHOICE, log entry 15). -/
def discarded (why : BadEnd) (out : List PortSymbol) (st : Reception) (s : State) : State :=
  let r := s.ring
  { s with
    portB :=
      s.portB ++
        ((match r.reception with
          | .cells => r.frame.buf
          | .check => (fcsOctets (~~~fcsOf r.frame.txCrc)).take r.frame.buf.length
          | _ => []).map PortSymbol.octet) ++ out
    ring :=
      { r with
        takeSlots := Tab.all 128 none, mgmtSlots := [], badCount := r.badCount + 1,
        reception := st, frame := { r.frame with buf := [] } }
    handed :=
      s.handed ++
        [.eventReturn r.frame.ordinal,
          .eventRaise .frameDiscarded .ring (w16 (badEndCode why))
            (if r.reception = .header then 0 else r.frame.seq)] }

/-- A frame that has just begun (R146): the start symbol has left, both kinds of staging slot are
empty, the frame context is fresh, and the frame goes through untouched if the transparent mark is
set (R155). -/
def begun (s : State) : State :=
  { s with
    portB := s.portB ++ [.startSymbol]
    ring :=
      { s.ring with
        takeSlots := Tab.all 128 none, mgmtSlots := [], reception := .header,
        through := s.ring.transparent
        frame :=
          { kind := .cycle, cellCount := 0, seq := 0, cellsParsed := 0, octets := 0,
            rxCrc := crc32Init, txCrc := crc32Init, buf := [], fcsOk := false,
            ordinal := s.ring.frame.ordinal + 1 } } }

/-- Octets of a frame that goes through untouched, and the symbol after them if one has come, have
left as they arrived (R155).  The octets are counted up to 1536 and the symbol ends the frame; that
they are neither parsed nor recorded is DESIGN CHOICE, log entry 17's. -/
def forwarded (octets : List Octet) (last : Option PortSymbol) (s : State) : State :=
  { s with
    portB := s.portB ++ octets.map PortSymbol.octet ++ last.toList
    ring :=
      { s.ring with
        reception := if last = none then s.ring.reception else .between
        through := if last = none then s.ring.through else false
        frame :=
          { s.ring.frame with octets := min (s.ring.frame.octets + octets.length) 1536 } } }

/-- What arrives outside a frame leaves as idle symbols (R145). -/
def ignored (n : Nat) (s : State) : State :=
  { s with portB := s.portB ++ List.replicate n .idleSymbol }

/-- What input `i` becoming `u` raises and hands: INPUT_CHANGE where its active state changes (with
DESIGN CHOICE, log entry 42's codes), and the rising notices of a function that becomes
function-active (R175, R176). -/
def inputChanges (i : Fin 16) (u : InputUnit) (s : State) : List Instr :=
  if InputUnit.isActive u = InputUnit.isActive (s.inputs.get i) then []
  else
    .eventRaise .inputChange (.input i) (inputDetail u.config)
        (detail (boolCode (InputUnit.isActive u)) (boolCode (u.filtered == u.config.polarity))) ::
      (match InputConfig.function u.config with
      | some f =>
        if InputUnit.isActive u = true ∧ s.functionActive f = false then
          (match f with
          | .estop =>
            (List.finRange 4).map Instr.estopNoticeHead ++
              (List.finRange 3).map Instr.estopNoticeDispense ++
              (List.finRange 3).map Instr.estopNoticeConditioner
          | .airLow => []
          | .supplyLow p l => [.supplyLowNotice p l]
          | .condOverload p => [.condOverloadNotice p])
        else []
      | none => [])

/-- The lines of platen `p` have taken their turns (R99), from `s` with the orders `os` to `t`.  A
line with an ACTIVE order keeps its orders.  On any other the waiting orders end LINE_OFF if the
line is disabled, SUPPLY_LOW if its supply is low, and LINE_OFF if the LINE group is not VERIFIED
under verify-before-run (a waiting write to this line counts so, DEDUCED, log entry 29).  Else the
oldest becomes ACTIVE, and a BURST order makes its first stroke at once if the line is ready; where
that is its last the next order has its turn. -/
def turnsTaken (p : Platen) (os : List Order) (s t : State) : Prop :=
  ∀ l : Line,
    let x := s.lineOf p l
    let i := lineIx p l
    let waiting := os.filter (queuedOn l)
    let left := (t.queues.get p).orders.filter fun o => o.line == l
    let raised (o : Order) (st : EndStatus) (strokes : Nat) : Prop :=
      .eventRaise .orderEnded (.line i) (detail o.ordinal.toNat (endStatusCode st)) (w16 strokes) ∈
        t.handed
    let ended (st : EndStatus) : Prop := left = [] ∧ ∀ o ∈ waiting, raised o st o.strokes
    let enabled : Prop := x.config.valid = true ∧ x.config.enabled = true
    let low : Prop := s.functionActive (.supplyLow p l) = true
    let gate : Prop :=
      s.verifier.vbr = true → s.verifier.line.state = .verified ∧ .line i ∉ s.written
    (os.any (activeOn l) = true → left = os.filter fun o => o.line == l) ∧
      (os.any (activeOn l) = false →
        (waiting = [] → left = []) ∧ (¬enabled → ended .lineOff) ∧
          (enabled → low → ended .supplyLow) ∧ (enabled → ¬low → ¬gate → ended .lineOff) ∧
          (enabled → ¬low → gate → ∀ o rest, waiting = o :: rest →
            (o.mode = .single ∨ x.elapsed < x.config.strokePeriod →
                left = { o with active := true } :: rest) ∧
              (o.mode = .burst → x.config.strokePeriod ≤ x.elapsed → o.strokes < o.count →
                (∃ a b, t.pumpOut = s.pumpOut ++ a ++ i :: b) ∧
                  (x.window = none → o.strokes + 1 < o.count →
                    left = { o with active := true, strokes := o.strokes + 1 } :: rest) ∧
                  (x.window = none → o.strokes + 1 = o.count → 0 < x.config.strokePeriod →
                    raised o .done o.count ∧
                      left =
                        (match rest with
                        | [] => []
                        | next :: later => { next with active := true } :: later)))))

/-- The ten requests with their codes, over one header and one payload after the code (Table
13-4). -/
def requestCommands (h : MgmtHead) (body : List Octet) : List (Instr × Nat) :=
  [(.read h body, 1), (.write h body, 2), (.erase h body, 3), (.verify h body, 4),
    (.set h body, 5), (.status h body, 6), (.dispense h body, 7), (.stopLine h body, 8),
    (.clearInput h body, 9), (.reset h body, 10)]

end Sys2Proof.Machine
end

