-- ==== Sys2Proof/Certificates/Slice0/Obligations.lean ====
section
/-! DEFINITION. The statements for the provers.  What they say of a hand-over they say of it in
every state, a transparent period too: that one of the RESET's own frame acts there as at any time
is log entry 48's choice, but for the START, of which R161 says so. -/

open Sys2Proof Sys2Proof.Machine

/-! ### Steps -/

/-- A step with a command waiting runs that command on the state with the queue's rest.  With none
waiting it takes the oldest event handed between blocks, and with none of those either it idles,
which is the model's choice (log entry 2). -/
def Obligations.StepRunsFrontCommand : Prop :=
  (∀ (c : Instr) (rest : List Instr) (s : State),
      s.pending = c :: rest → step s = exec c { s with pending := rest }) ∧
    (∀ (c : Instr) (rest : List Instr) (s : State),
      s.pending = [] → s.handed = c :: rest → step s = exec c s) ∧
    ∀ s : State, s.pending = [] → s.handed = [] → step s = .next s

/-! ### Resets -/

/-- Power-on reset gives every block its reset values, latches the straps, ends a frame in passage
with an abort and keeps only what lies outside the part: the commands waiting, the levels on the
input pins and what has left.  What had been handed between blocks is lost (log entry 9), and so are
octets received and not yet sent (log entry 15) and a regulator word in hand (log entry 31).  The
values that the manual leaves open are log entry 24's.  Every unconfigured input's filtered level
comes to its pin's level at once, as its filter is 0 (R178), and the Regulator Port sends the code 0
of channel 0 at once (R60; that this is within the reset event is log entry 39's reading).  That an
input made inactive raises nothing is log entry 44's. -/
def Obligations.PowerOnResetGivesResetState : Prop :=
  ∀ (straps : BitVec 5) (s : State),
    exec (.powerOnReset straps) s =
      .next
        { State.reset with
          pending := s.pending
          ring := { State.reset.ring with node := straps }
          inputs :=
            Tab.ofFn fun i => ⟨.erased, (s.inputs.get i).raw, (s.inputs.get i).raw, 0, false⟩
          free := s.free
          portB := if s.ring.reception.inFrame then s.portB ++ [.abortSymbol] else s.portB
          regulatorOut := s.regulatorOut ++ [regulatorWord 0 0]
          pumpOut := s.pumpOut }

/-- The end of the transparent period, which waits while a hand-over of the frame that carried the
RESET has not been taken.  Every block takes its reset values.  Tables, settings, group states and
docked heads are kept by scope STATE alone; node, link, reception state, time, the input pins and
the regulator codes last sent are kept by both.  A free Regulator Port sends the code 0 of channel 0
at once, and a word in hand goes on (log entries 39 and 31).  (The frame in passage and its
`through` mark are the model's, log entry 18, and so is the loss of what had been handed, log entry
9; that an input made inactive raises nothing is log entry 44's.) -/
def Obligations.ManagementResetValues : Prop :=
  ∀ s : State, s.ring.transparent = true →
    let t0 := s.takeUp .transparentPeriodEnd
    let waits : Prop := ∃ x ∈ t0.awaiting, s.ring.resetFrame = some x.frame
    let kept : Bool := s.ring.scope = .state
    (waits → exec .transparentPeriodEnd s = .next t0) ∧
      (¬waits →
        ∃ t : State,
          exec .transparentPeriodEnd s = .next t ∧
            t.ring =
              { s.ring with
                transparent := false, scope := .state, resetTicks := 0, resetFrame := none,
                lastGood := 0, goodCount := 0, badCount := 0, takeSlots := Tab.all 128 none,
                mgmtSlots := [] } ∧
            t.heads = Tab.all 4 .afterReset ∧ t.filters = Tab.all 34 .afterReset ∧
            t.queues = Tab.all 3 ⟨[], 0⟩ ∧ t.store.claims = Tab.all 4 none ∧
            t.map.learnedHead = Tab.all 4 none ∧ t.map.learnedDock = Tab.all 3 none ∧
            t.map.learnedCond = Tab.all 3 none ∧ t.map.seen = Tab.all 128 false ∧
            t.map.entries = (if kept then s.map.entries else Tab.all 128 .erased) ∧
            t.store.dir = (if kept then s.store.dir else Tab.all 16 .erased) ∧
            t.store.steps = (if kept then s.store.steps else Tab.all 96 .erased) ∧
            t.profiles = (if kept then s.profiles else Tab.all 8 .erased) ∧
            t.segments = (if kept then s.segments else Tab.all 96 .erased) ∧
            (∀ c : ZoneCh,
              t.zones.get c =
                ⟨if kept then (s.zones.get c).config else .erased, 0, 0, false, 0, false, false, 0,
                  false, false, 0, false⟩) ∧
            (∀ i : LineIx,
              t.lines.get i =
                ⟨if kept then (s.lines.get i).config else .erased, 2000, false, none, 0, 0⟩) ∧
            (∀ p : Platen,
              (let c := s.conds.get p
              let position := if kept then c.parkPosition else 0
              let band := if kept then c.parkBand else 20
              let timeout := if kept then c.parkTimeout else 5000
              t.conds.get p =
                ⟨.parking, .none, false, .none, none, 0, 0, none, position, timeout, position, 0, 0,
                  .none, position, band, timeout⟩) ∧
              t.docks.get p = ⟨if kept then (s.docks.get p).docked else none, 0, .none⟩ ∧
              t.idle.get p =
                if kept then
                  { s.idle.get p with seconds := (s.idle.get p).interval, millis := 0 }
                else ⟨0, 0, 0, 0, 20⟩) ∧
            t.cadence =
              (if kept then
                { s.cadence with
                  state := .unarmed, violations := 0, regain := 0, lastEnd := none, timer := none,
                  expired := false }
              else ⟨.unarmed, 0, 0, none, none, false, 1000, 700, 1500, 3⟩) ∧
            (∀ i : Fin 16,
              let u := s.inputs.get i
              let e := if kept then u.config else .erased
              t.inputs.get i =
                ⟨e, u.raw, if e.filter = 0 then u.raw else !e.polarity, 0,
                  e.filter == 0 && u.raw == e.polarity && e.mode == .latched⟩) ∧
            (∀ g : Group,
              t.verifier.group g =
                if kept then
                  { s.verifier.group g with position := 0, crc := 0xFFFF#16, ticks := 0 }
                else ⟨.unverified, 0, 0, 0xFFFF#16, 0⟩) ∧
            t.verifier.vbr = (if kept then s.verifier.vbr else true) ∧
            (∀ k : Fin 25,
              t.events.kinds.get k =
                if kept then s.events.kinds.get k else ⟨defaultLevel k.val, true⟩) ∧
            t.events.expressA = (if kept then s.events.expressA else none) ∧
            t.events.expressB = (if kept then s.events.expressB else none) ∧
            t.events.lost = 0 ∧
            t.events.records =
              (if kept then
                if (s.events.kinds.get (kindCode .resetDone)).enable then
                  [⟨.resetDone, rankOf s.events .resetDone, .device, 1, 0, 0, 0, 0, none⟩]
                else []
              else [⟨.resetDone, 0, .device, 2, 0, 0, 0, 0, none⟩]) ∧
            t.reg =
              (match s.reg.inHand with
              | some c => ⟨s.reg.last, Tab.all 34 true, 0, some c⟩
              | none => ⟨s.reg.last.upd 0 0, (Tab.all 34 true).upd 0 false, 0, some 0⟩) ∧
            t.regulatorOut =
              s.regulatorOut ++ (if s.reg.inHand = none then [regulatorWord 0 0] else []) ∧
            t.us = s.us ∧ t.phase = s.phase ∧ t.pending = s.pending ∧ t.free = s.free ∧
            t.portB = s.portB ∧ t.pumpOut = s.pumpOut ∧ t.awaiting = [] ∧ t.written = [] ∧
            (s.ring.scope = .all → t.handed = []))

/-- A RESET at the Ring Interface: dropped while a head is RUNNING or PAUSED; merged into the period
that a RESET of the same frame has begun; else the transparent mark is set and a period begins with
the RESET's own scope, under the frame whose hand-over the RESET is, and a frame in passage goes
through untouched: what had arrived of a cell or of its FCS leaves as it arrived.  (Which frame a
RESET_APPLY is of, and that one of another frame begins the period anew, is log entry 30's choice,
and how a frame goes through is log entry 17's.) -/
def Obligations.ResetAppliedOrDropped : Prop :=
  ∀ (scope : Scope) (s : State),
    let t := s.takeUp (.resetApply scope)
    let through := s.ring.acting
    let frame := (s.awaiting.find? fun x => x.event == .resetApply scope).map HandOver.frame
    exec (.resetApply scope) s =
      .next
        (if s.anyHeadActive then
          t.raise .writeDropped .device 0xFF0A#16 (w16 (scopeCode scope))
        else if s.ring.transparent = true ∧ s.ring.resetFrame = frame then
          t.setRing
            { s.ring with
              scope := if scope = .all ∨ s.ring.scope = .all then .all else .state }
        else
          { t with
            portB :=
              if through = true ∧ (s.ring.reception = .cells ∨ s.ring.reception = .check) then
                s.portB ++ s.ring.frame.buf.map PortSymbol.octet
              else s.portB
            ring :=
              { s.ring with
                transparent := true, scope := scope, resetTicks := 0, resetFrame := frame,
                through := through || s.ring.through,
                frame :=
                  if through then { s.ring.frame with buf := [] } else s.ring.frame } })

/-! ### Link and frames -/

/-- SYMBOL_LOCK_GAINED takes the link from DOWN to SYNC and no other state anywhere; LOSS_OF_SIGNAL
takes it DOWN, the reception state BETWEEN, and ends a frame in passage bad with reason LINK and an
abort (a frame that goes through untouched with the abort alone).  (That IGNORING becomes BETWEEN
too is log entry 23's reading, and what leaves of a cell or FCS before the abort is log entry 15's
choice.) -/
def Obligations.LinkFollowsSignal : Prop :=
  ∀ s : State,
    exec .symbolLockGained s =
        .next
          (if s.ring.link = .down then
            (s.takeUp .symbolLockGained).setRing { s.ring with link := .sync }
          else s.takeUp .symbolLockGained) ∧
      exec .lossOfSignal s =
        .next
          (let t := s.takeUp .lossOfSignal
          let u :=
            if s.ring.acting then discarded .link [.abortSymbol] .between t
            else if s.ring.reception.inFrame then
              { t with portB := s.portB ++ [.abortSymbol] }
            else t
          u.setRing { u.ring with link := .down, reception := .between, through := false })

/-- A start symbol between frames, on a link that is not DOWN: slots emptied, counts and CRCs
started, the symbol forwarded; then the header octets are recorded and forwarded as they arrive.
While the transparent mark is set a frame begins in the same way, and its octets leave as they
arrive.  (That these are counted and not parsed is log entry 17's choice.) -/
def Obligations.FrameStartRecordsHeader : Prop :=
  (∀ (k n hi lo : Octet) (s : State),
    s.ring.link ≠ .down → s.ring.transparent = false → s.ring.acting = false →
    k = 0x01#8 ∨ k = 0x02#8 →
      ∃ t : State,
        exec (.frameStart [k, n, hi, lo]) s = .next t ∧
          t =
            { s.takeUp (.frameStart [k, n, hi, lo]) with
              portB :=
                s.portB ++ PortSymbol.startSymbol :: [k, n, hi, lo].map PortSymbol.octet
              ring :=
                { s.ring with
                  takeSlots := Tab.all 128 none, mgmtSlots := [], through := false,
                  reception := if n = 0 then .check else .cells,
                  frame :=
                    { kind := if k = 0x01#8 then .cycle else .async
                      cellCount := n.toNat
                      seq := hi ++ lo
                      cellsParsed := 0
                      octets := 4
                      rxCrc := crc32Run crc32Init [k, n, hi, lo]
                      txCrc := crc32Run crc32Init [k, n, hi, lo]
                      buf := []
                      fcsOk := false
                      ordinal := s.ring.frame.ordinal + 1 } } }) ∧
  ∀ (octets : List Octet) (s : State), s.ring.link ≠ .down → s.ring.transparent = true →
    exec (.frameStart octets) s =
      .next (forwarded octets none (begun (s.takeUp (.frameStart octets))))

/-- A frame whose four FCS octets spell the received CRC ends good at its end symbol: the sent CRC
leaves in their place, the frame's sequence becomes the last good one, the frame is counted, SYNC
becomes UP, and the frame's work is handed over, with the count at the end in the cycle-frame
notice, and the slots emptied.  The time base first moves on to the end's moment where that is not
behind it: late expiries that come before it are taken on the way, in time order.  (The command
carries its tick phase, and time moves so, log entry 11; the four octets leave together, log entry
15; the note of the frame each hand-over is of is log entry 30's.) -/
def Obligations.GoodEndCommitsFrame : Prop :=
  (∀ (octets : List Octet) (phase : Fin 1000) (s : State),
    s.ring.acting = true → s.ring.reception = .check → s.ring.frame.buf = [] →
    octets.length = 4 → s.ring.frame.octets ≤ 1532 →
    fcsValue octets = fcsOf s.ring.frame.rxCrc →
      exec (.frameGoodEnd octets phase) s =
        .next
          (let t := advanceToPhase phase.val (s.takeUp (.frameGoodEnd octets phase))
          { t with
            handed := t.handed ++ handOvers s.ring t.us
            awaiting :=
              t.awaiting ++ (handOvers s.ring t.us).map fun c => ⟨s.ring.frame.ordinal, c⟩
            portB :=
              s.portB ++ (fcsOctets (fcsOf s.ring.frame.txCrc)).map PortSymbol.octet ++
                [.endSymbol]
            ring :=
              { s.ring with
                takeSlots := Tab.all 128 none, mgmtSlots := [], lastGood := s.ring.frame.seq,
                goodCount := s.ring.goodCount + 1,
                link := if s.ring.link = .sync then .up else s.ring.link,
                reception := .between,
                frame :=
                  { s.ring.frame with
                    octets := s.ring.frame.octets + 4, buf := [], fcsOk := true } } })) ∧
    ∀ (n : Nat) (s : State),
      let span := n - s.phase
      (n ≤ s.phase → advanceToPhase n s = s) ∧
        (s.phase < n → (∀ e, s.cadence.timer = some e → span ≤ (e - s.us).toNat) →
          advanceToPhase n s = { s with us := s.us + BitVec.ofNat 32 span, phase := n }) ∧
        ∀ (e : BitVec 32) (t : State),
          s.phase < n → n < 1000 → s.cadence.timer = some e → (e - s.us).toNat < span →
          BitVec.ofNat 32 s.cadence.late ≠ 0 → .cadenceLateExpiry ∉ s.handed →
          exec .cadenceLateExpiry s = .next t → advanceToPhase n s = advanceToPhase n t

/-- A frame whose FCS octets differ from the received CRC leaves with the complement of the sent
CRC, which is not the sent CRC, and ends bad with reason FCS at its end symbol.  An abort symbol, an
idle, and an end symbol before END_WAIT end a frame bad with an abort on port B: reasons ABORT,
STRUCTURE and STRUCTURE, into BETWEEN, IGNORING and BETWEEN.  A frame cut within its FCS leaves with
as many octets of the complement of the sent CRC as had arrived of its FCS, before the abort.  (What
leaves of a cut cell or a cut FCS is log entry 15's choice.)  An octet ends a frame bad with an
abort at once, into IGNORING: the 1537th with reason OVERSIZE (before any other, log entry 16), and
with reason STRUCTURE an unknown frame kind, an unknown cell kind, a cell length above 48, and an
octet in END_WAIT.  A start symbol within a frame ends it with reason STRUCTURE and an abort, and
begins a new one.  Outside a frame each octet and symbol is ignored and an idle symbol leaves in its
place, as it does for a start symbol while the link is DOWN. -/
def Obligations.FramesEndBad : Prop :=
  (∀ (octets : List Octet) (s : State),
    s.ring.acting = true → s.ring.reception = .check → s.ring.frame.buf = [] →
    octets.length = 4 → s.ring.frame.octets ≤ 1532 →
    fcsValue octets ≠ fcsOf s.ring.frame.rxCrc →
      fcsValue (fcsOctets (~~~fcsOf s.ring.frame.txCrc)) ≠ fcsOf s.ring.frame.txCrc ∧
        exec (.frameBadEnd octets .endSymbol) s =
          .next
            (let t := s.takeUp (.frameBadEnd octets .endSymbol)
            discarded .fcs
              ((fcsOctets (~~~fcsOf s.ring.frame.txCrc)).map PortSymbol.octet ++ [.endSymbol])
              .between
              { t with
                ring :=
                  { s.ring with
                    frame :=
                      { s.ring.frame with
                        octets := s.ring.frame.octets + 4, fcsOk := false } } })) ∧
  (∀ s : State, s.ring.acting = true →
    exec (.frameBadEnd [] .abortSymbol) s =
        .next (discarded .abort [.abortSymbol] .between (s.takeUp (.frameBadEnd [] .abortSymbol))) ∧
      exec (.frameBadEnd [] .idleSymbol) s =
        .next
          (discarded .structural [.abortSymbol] .ignoring
            (s.takeUp (.frameBadEnd [] .idleSymbol))) ∧
      (s.ring.reception ≠ .endWait →
        exec (.frameBadEnd [] .endSymbol) s =
          .next
            (discarded .structural [.abortSymbol] .between
              (s.takeUp (.frameBadEnd [] .endSymbol))))) ∧
  (∀ (octets : List Octet) (s : State),
    s.ring.acting = true → s.ring.reception = .check → s.ring.frame.buf = [] →
    octets.length < 4 → s.ring.frame.octets ≤ 1532 →
      ∃ t : State,
        exec (.frameBadEnd octets .abortSymbol) s = .next t ∧
          t.portB =
            s.portB ++
              ((fcsOctets (~~~fcsOf s.ring.frame.txCrc)).take octets.length).map
                PortSymbol.octet ++ [.abortSymbol] ∧
          t.ring.reception = .between ∧ t.ring.badCount = s.ring.badCount + 1) ∧
  (∀ (o : Octet) (rest : List Octet) (s : State), s.ring.acting = true →
    let f := s.ring.frame
    let bad (why : BadEnd) : Prop :=
      exec (.frameBadEnd (o :: rest) .nothing) s =
        .next
          (ignored rest.length
            (discarded why [.abortSymbol] .ignoring
              (s.takeUp (.frameBadEnd (o :: rest) .nothing))))
    (1536 ≤ f.octets → bad .oversize) ∧
      (f.octets < 1536 →
        (s.ring.reception = .header → f.buf = [] → o ≠ 0x01#8 → o ≠ 0x02#8 → bad .structural) ∧
          (s.ring.reception = .cells → f.buf = [] →
            o ∉ [kindData, kindMgmt, kindReply, kindSlot, kindEvent] → bad .structural) ∧
          (s.ring.reception = .cells → f.buf.length = 4 → 48 < o.toNat → bad .structural) ∧
          (s.ring.reception = .endWait → bad .structural))) ∧
  (∀ (octets : List Octet) (s : State),
    s.ring.acting = true → s.ring.transparent = false → s.ring.link ≠ .down →
      exec (.frameStart octets) s =
        .next
          (rxOctets octets
            (begun
              (discarded .structural [.abortSymbol] .between (s.takeUp (.frameStart octets)))))) ∧
  ∀ (octets : List Octet) (s : State),
    s.ring.reception = .between ∨ s.ring.reception = .ignoring →
      (∀ tail ∈ [FrameTail.endSymbol, .abortSymbol, .idleSymbol],
        let t := s.takeUp (.frameBadEnd octets tail)
        exec (.frameBadEnd octets tail) s =
          .next
            { t with portB := s.portB ++ List.replicate (octets.length + 1) .idleSymbol }) ∧
        (s.ring.link = .down →
          let t := s.takeUp (.frameStart octets)
          exec (.frameStart octets) s =
            .next
              { t with portB := s.portB ++ List.replicate (octets.length + 1) .idleSymbol })

/-- The hand-overs of a good end: a CYCLE frame makes a cycle delivery to every head, a cycle-frame
notice and the judgement of the filled slots; a frame of either kind hands its staged requests in
cell order and the release of its in-flight records, and an ASYNC frame nothing else.  Each delivery
carries the values taken for its head's objects, and a dock or a conditioner command delivery is
made for each platen whose object was taken.  (Of two slots that hold one object the lower entry's
counts, log entry 34; the order of the list is the model's, log entry 2.) -/
def Obligations.HandOversOfAFrame : Prop :=
  (∀ (r : Ring) (us : BitVec 32),
    (r.frame.kind = .async → handOvers r us = r.mgmtSlots ++ [.eventRelease r.frame.ordinal]) ∧
      (r.frame.kind = .cycle →
        (∀ h : Head, .cycleDelivery h (deliveryFor r.takeSlots h) ∈ handOvers r us) ∧
          .cycleFrameNotice us ∈ handOvers r us ∧
          .requiredEntryJudgement
              ((List.finRange 128).filter fun e => (r.takeSlots.get e).isSome) ∈ handOvers r us ∧
          (r.mgmtSlots ++ [.eventRelease r.frame.ordinal]) <:+ handOvers r us)) ∧
  ∀ (r : Ring) (us : BitVec 32) (command endpoint : Head → Option (List Octet))
    (trim : ZoneCh → Option (List Octet)) (dock cond : Platen → Option (List Octet)),
    let holds (x : Option Taken) (cls : ObjClass) (inst : Nat) : Prop :=
      ∃ y, x = some y ∧ y.cls = cls ∧ y.inst.toNat = inst
    let taken (cls : ObjClass) (inst : Nat) (value : Option (List Octet)) : Prop :=
      (value = none ∧ ∀ e, ¬holds (r.takeSlots.get e) cls inst) ∨
        ∃ e y, r.takeSlots.get e = some y ∧ y.cls = cls ∧ y.inst.toNat = inst ∧
          value = some y.payload ∧ ∀ e' < e, ¬holds (r.takeSlots.get e') cls inst
    r.frame.kind = .cycle → (∀ h, taken .headCommand h.val (command h)) →
    (∀ h, taken .headEndpoint h.val (endpoint h)) → (∀ c, taken .zoneTrim c.val (trim c)) →
    (∀ p, taken .dockCommand p.val (dock p)) →
    (∀ p, taken .conditionerCommand p.val (cond p)) →
      handOvers r us =
        ((List.finRange 4).map fun h =>
            Instr.cycleDelivery h
              { command :=
                  (command h).map fun l => ⟨l.getD 0 0, l.getD 1 0, w16 (octAt16 l 2)⟩
                endpoint := (endpoint h).map fun l => octAt16 l 0
                trims :=
                  Tab.ofFn fun z =>
                    (trim (zoneCh h z)).map fun l => (w16 (octAt16 l 0)).toInt }) ++
          ((List.finRange 3).filterMap fun p =>
            (dock p).map fun l =>
              .dockDelivery p ⟨l.getD 0 0, l.getD 1 0, w16 (octAt16 l 2)⟩) ++
          ((List.finRange 3).filterMap fun p =>
            (cond p).map fun l =>
              .conditionerCommandDelivery p ⟨l.getD 0 0, l.getD 1 0, w16 (octAt16 l 2)⟩) ++
          [.cycleFrameNotice us,
            .requiredEntryJudgement
              ((List.finRange 128).filter fun e => (r.takeSlots.get e).isSome)] ++
          r.mgmtSlots ++ [.eventRelease r.frame.ordinal]

/-- A cell arrives as its octets do: taking it whole is taking its octets one by one through the
reception states, whatever state the Ring Interface is in.  In a frame that goes through untouched
every octet leaves as it arrived: no cell is taken, given, replied to or filled, no end is judged,
no counter changes and nothing is handed over, and an end, abort or idle symbol is forwarded and
ends the passage.  (That its octets are counted and not parsed, and the state after it, is log entry
17's choice; that the command moves the time is log entry 11's.) -/
def Obligations.CellsArriveOctetByOctet : Prop :=
  (∀ (c : Cell) (h : MgmtHead) (body : List Octet) (s : State),
    exec (.take c) s = .next (rxOctets (Cell.octets c) (s.takeUp (.take c))) ∧
      exec (.give c) s = .next (rxOctets (Cell.octets c) (s.takeUp (.give c))) ∧
      exec (.slotFill c) s = .next (rxOctets (Cell.octets c) (s.takeUp (.slotFill c))) ∧
      (∀ x ∈ requestCommands h body,
        exec x.1 s =
          .next (rxOctets (Cell.octets (mgmtCell h (oct x.2 :: body))) (s.takeUp x.1))) ∧
      exec (.unknownRequestCode h body) s =
        .next (rxOctets (Cell.octets (mgmtCell h body)) (s.takeUp (.unknownRequestCode h body)))) ∧
  ∀ s : State, s.ring.reception.inFrame = true → s.ring.through = true →
    s.ring.frame.octets ≤ 1536 →
      (∀ c : Cell, ∀ x ∈ [Instr.take c, .give c, .slotFill c],
        exec x s = .next (forwarded (Cell.octets c) none (s.takeUp x))) ∧
      (∀ (h : MgmtHead) (body : List Octet),
        (∀ x ∈ requestCommands h body,
          exec x.1 s =
            .next (forwarded (Cell.octets (mgmtCell h (oct x.2 :: body))) none (s.takeUp x.1))) ∧
        exec (.unknownRequestCode h body) s =
          .next
            (forwarded (Cell.octets (mgmtCell h body)) none
              (s.takeUp (.unknownRequestCode h body)))) ∧
      (∀ (octets : List Octet) (phase : Fin 1000),
        exec (.frameGoodEnd octets phase) s =
          .next
            (forwarded octets (some .endSymbol)
              (advanceToPhase phase.val (s.takeUp (.frameGoodEnd octets phase))))) ∧
      ∀ (octets : List Octet),
        ∀ x ∈ [(FrameTail.endSymbol, some PortSymbol.endSymbol), (.abortSymbol, some .abortSymbol),
          (.idleSymbol, some .idleSymbol), (.nothing, none)],
          exec (.frameBadEnd octets x.1) s =
            .next (forwarded octets x.2 (s.takeUp (.frameBadEnd octets x.1)))

/-! ### Cells -/

/-- A DATA cell held by a TAKE entry: untouched in an ASYNC frame; FAULT and CELL_FAULT on a length
other than the class width; else its payload is staged under the entry's instance and TAKEN set.  A
DATA cell whose tag no valid entry holds passes untouched, and so does every REPLY and EVENT cell.
(That each of the rows TAKE, GIVE and SLOT_FILL passes its cell by the cell's own kind and tag is
log entry 25's choice, and that a cell leaves when it is complete log entry 15's.) -/
def Obligations.TakeStagesValue : Prop :=
  (∀ (c : Cell) (e : Fin 128) (s : State),
    takesWhole c s.ring = true → c.kind = kindData → s.map.find c.tag = some e →
    (s.map.entries.get e).dir = .take →
      exec (.take c) s =
        .next
          (let t := s.takeUp (.take c)
          let m := s.map.entries.get e
          match s.ring.frame.kind with
          | .async => passed c c t
          | .cycle =>
            if c.payload.length = classWidth m.cls then
              passed c { c with flags := c.flags ||| 0x01#8 }
                { t with
                  ring :=
                    { s.ring with
                      takeSlots :=
                        s.ring.takeSlots.upd e (some ⟨m.cls, m.inst, c.payload⟩) } }
            else
              passed c { c with flags := c.flags ||| 0x08#8 }
                (t.raise .cellFault (.mapEntry e) 0 (w16 c.payload.length)))) ∧
  ∀ (c : Cell) (s : State), takesWhole c s.ring = true →
    (c.kind = kindData ∧
        ∀ e, (s.map.entries.get e).valid = true → (s.map.entries.get e).tag ≠ c.tag) ∨
      c.kind = kindReply ∨ c.kind = kindEvent →
      ∀ x ∈ [Instr.take c, .give c, .slotFill c], exec x s = .next (passed c c (s.takeUp x))

/-- A DATA cell held by a GIVE entry: untouched with CELL_FAULT COLLISION if it arrives GIVEN; FAULT
and CELL_FAULT WIDTH on a wrong length; else the object's value, GIVEN, and STALE as the value is
held or not.  The value of each object is the octets of its layout (Table 13-3; bits without a field
inside an octet that carries others are 0, log entry 49's choice). -/
def Obligations.GiveWritesValue : Prop :=
  (∀ (c : Cell) (e : Fin 128) (s : State),
    takesWhole c s.ring = true → c.kind = kindData → s.map.find c.tag = some e →
    (s.map.entries.get e).dir = .give →
      exec (.give c) s =
        .next
          (let t := s.takeUp (.give c)
          let m := s.map.entries.get e
          if c.flags &&& 0x02#8 ≠ 0#8 then
            passed c c (t.raise .cellFault (.mapEntry e) 1 (w16 c.payload.length))
          else if c.payload.length ≠ classWidth m.cls then
            passed c { c with flags := c.flags ||| 0x08#8 }
              (t.raise .cellFault (.mapEntry e) 0 (w16 c.payload.length))
          else
            passed c
              { c with
                payload := padTo c.payload.length (giveValue m.cls m.inst t).1
                flags :=
                  if (giveValue m.cls m.inst t).2 then c.flags ||| 0x02#8 ||| 0x04#8
                  else (c.flags ||| 0x02#8) &&& 0xFB#8 }
              t)) ∧
  ∀ s : State,
    let two (n : Nat) : List Octet := [oct (n / 256), oct n]
    let four (n : Nat) : List Octet :=
      [oct (n / 16777216), oct (n / 65536), oct (n / 256), oct n]
    let group (g : Group) : Nat := groupStateCode (s.verifier.group g).state
    (∀ h : Head,
        let r := s.heads.get h
        ∃ masked limited : Octet,
          giveValue .headStatus (oct h.val) s =
              ([oct (headStateCode r.state), oct (headSubstateCode r.substate),
                    oct (match r.program with
                      | some p => p.val
                      | none => 255),
                    oct r.stepIndex] ++
                  two r.cycleCount ++ two r.lastSeq.toNat ++
                  [oct (headOutcomeCode r.lastOutcome), oct (safeCauseCode r.cause), masked,
                    limited],
                false) ∧
            masked.getLsbD 7 = r.skip ∧ limited.getLsbD 7 = decide (r.latch = none) ∧
            ∀ z : Zone,
              masked.getLsbD z.val =
                  ((s.zoneOf h z).ramping || decide (0 < (s.zoneOf h z).settle)) ∧
                limited.getLsbD z.val = (s.zoneOf h z).diffLimited) ∧
      (∀ c : ZoneCh,
        giveValue .zoneSetpoint (oct c.val) s = (two (s.zones.get c).setpoint, false) ∧
          giveValue .zoneFeedback (oct c.val) s =
            (two (s.filters.get (chanOfZone c)).feedback,
              (s.filters.get (chanOfZone c)).stale)) ∧
      (∀ i : LineIx,
        giveValue .lineDelivered (oct i.val) s =
          (four (s.lines.get i).delivered.toNat, false)) ∧
      (∀ p : Platen,
        let d := s.docks.get p
        let c := s.conds.get p
        let position := s.filters.get (positionChan p)
        let force := s.filters.get (forceChan p)
        let orders := (s.queues.get p).orders
        ∃ active : Nat,
          giveValue .platenStatus (oct p.val) s =
              ([oct (match d.docked with
                    | some h => h.val
                    | none => 255)] ++
                  two d.lastSeq.toNat ++
                  [oct (16 * dockOutcomeCode d.lastOutcome + condOutcomeCode c.lastOutcome),
                    oct
                      (64 * condStateCode c.state + 16 * condSubstateCode c.substate +
                        8 * boolCode c.override + 2 * condFaultCode c.cause),
                    oct
                      (16 *
                          (match c.profile with
                            | some k => k.val
                            | none => 15) +
                        c.segment)] ++
                  two position.feedback ++ two force.feedback ++ two c.lastSeq.toNat ++
                  [oct (16 * orders.length + active)] ++ two (s.idle.get p).seconds ++ [0],
                position.stale || force.stale) ∧
            active < 16 ∧
            ∀ l : Line,
              active.testBit l.val = orders.any fun o => o.active && o.line == l) ∧
      (∃ levels active : Nat,
        giveValue .inputs 0 s = (two levels ++ two active, false) ∧
          levels < 65536 ∧ active < 65536 ∧
          ∀ i : Fin 16,
            levels.testBit i.val = (s.inputs.get i).filtered ∧
              active.testBit i.val = InputUnit.isActive (s.inputs.get i)) ∧
      giveValue .deviceStatus 0 s =
        ([oct (linkCode s.ring.link),
            oct (16 * cadenceStateCode s.cadence.state + s.cadence.violations),
            oct (16 * group .cellmap + group .program), oct (16 * group .zone + group .line),
            oct (16 * group .sweep), oct s.events.records.length, oct s.events.lost, 0],
          false)

/-- A SLOT cell: of length 12 with a record QUEUED it becomes an EVENT cell of this node carrying
the record; otherwise it passes untouched.  Which record it is, and that there is one whenever one
is QUEUED, is stated with the record a slot takes. -/
def Obligations.SlotCarriesRecord : Prop :=
  ∀ (c : Cell) (s : State), takesWhole c s.ring = true → c.kind = kindSlot →
    (exec (.slotFill c) s =
      .next
        (let t := s.takeUp (.slotFill c)
        if c.payload.length ≠ 12 then passed c c t
        else
          match fillSlot s.events s.ring.frame.ordinal with
          | none => passed c c t
          | some (r, q) =>
            passed c ⟨kindEvent, c.flags, withNode c.tag s.ring.node, encodeEvent r⟩
              { t with events := q })) ∧
      (c.payload.length = 12 → (∃ x ∈ s.events.records, x.flight = none) →
        ∃ (r : EventRecord) (q : EventQueue),
          fillSlot s.events s.ring.frame.ordinal = some (r, q))

/-- A slot takes a record whenever one is QUEUED.  The record it takes has the highest rank among
the QUEUED ones, is the oldest of that rank, carries the queue's lost count and goes in flight;
every other record stays as it was. -/
def Obligations.SlotTakesBestRecord : Prop :=
  (∀ (q : EventQueue) (frame : Nat),
    fillSlot q frame = none ↔ ∀ x ∈ q.records, x.flight ≠ none) ∧
  ∀ (q q' : EventQueue) (frame : Nat) (r : EventRecord), fillSlot q frame = some (r, q') →
    ∃ (older younger : List EventRecord) (x : EventRecord),
      q.records = older ++ x :: younger ∧ x.flight = none ∧
        r = { x with lost := min (x.lost + q.lost) 255, flight := some frame } ∧
        q' = { q with records := older ++ r :: younger, lost := 0 } ∧
        (∀ y ∈ older, y.flight = none → y.rank < x.rank) ∧
        ∀ y ∈ younger, y.flight = none → y.rank ≤ x.rank

/-! ### Management requests -/

/-- A MGMT cell of this node leaves as a REPLY with its flags, tag and length, the status in octet
0, the data after it and zeros after those; an accepted request takes the next staging slot. -/
def Obligations.RequestsAreAnswered : Prop :=
  ∀ (h : MgmtHead) (body : List Octet) (s : State), lowTag h.tag = s.ring.node.toNat →
    ∀ x ∈ requestCommands h body,
      takesWhole (mgmtCell h (oct x.2 :: body)) s.ring = true →
        exec x.1 s =
          .next
            (let t := s.takeUp x.1
            let j := judgeStaging (judgeRequest (oct x.2 :: body) t) t
            passed (mgmtCell h (oct x.2 :: body))
              ⟨kindReply, h.flags, h.tag,
                padTo (body.length + 1) (oct (statusCode j.status) :: j.data)⟩
              { t with
                ring := { s.ring with mgmtSlots := s.ring.mgmtSlots ++ j.staged.toList } })

/-- A request cell of another node passes untouched.  One of this node with an unknown request code
is answered BAD_REQUEST, and one of length 0 leaves as a REPLY with no payload; neither is
staged. -/
def Obligations.RequestsNotActedOn : Prop :=
  (∀ (h : MgmtHead) (body : List Octet) (s : State), lowTag h.tag ≠ s.ring.node.toNat →
    (∀ x ∈ requestCommands h body,
        takesWhole (mgmtCell h (oct x.2 :: body)) s.ring = true →
          exec x.1 s =
            .next
              (passed (mgmtCell h (oct x.2 :: body)) (mgmtCell h (oct x.2 :: body))
                (s.takeUp x.1))) ∧
      (takesWhole (mgmtCell h body) s.ring = true →
        exec (.unknownRequestCode h body) s =
          .next
            (passed (mgmtCell h body) (mgmtCell h body)
              (s.takeUp (.unknownRequestCode h body))))) ∧
  ∀ (h : MgmtHead) (payload : List Octet) (s : State), lowTag h.tag = s.ring.node.toNat →
    takesWhole (mgmtCell h payload) s.ring = true →
    payload = [] ∨ octAt payload 0 = 0 ∨ 10 < octAt payload 0 →
      exec (.unknownRequestCode h payload) s =
        .next
          (passed (mgmtCell h payload)
            ⟨kindReply, h.flags, h.tag, padTo payload.length [0x02#8]⟩
            (s.takeUp (.unknownRequestCode h payload)))

/-- The checks of a request in their order: the table before the length, the length before the
request's own checks, and a free staging slot last.  A WRITE and an ERASE check the index, the
enumerated codes and ranges of the record, and last the claim, use or tag; what they stage carries
the record.  VERIFY, STOP_LINE, CLEAR_INPUT and RESET check their own fields.  (That a tag is held
until an ERASE staged earlier in the frame is applied is log entry 50's choice.) -/
def Obligations.RequestChecksInOrder : Prop :=
  (∀ (p : List Octet) (s : State),
    (octAt p 0 = 1 ∨ octAt p 0 = 2 ∨ octAt p 0 = 3 →
      (7 < octAt p 1 → judgeRequest p s = refuse .badTable) ∧
        (∀ t, tableOf (octAt p 1) = some t → 2 ≤ p.length →
          p.length ≠ (if octAt p 0 = 3 then 3 else 4 + recordLength t) →
            judgeRequest p s = refuse .badRequest) ∧
        ∀ t, tableOf (octAt p 1) = some t → tableSize t ≤ octAt p 2 →
          p.length = (if octAt p 0 = 3 then 3 else 4 + recordLength t) →
            judgeRequest p s = refuse .badIndex) ∧
      (∀ x ∈ [(4, 4), (5, 10), (6, 17), (7, 6), (8, 3), (9, 2), (10, 2)],
        octAt p 0 = x.1 → p.length ≠ x.2 → judgeRequest p s = refuse .badRequest) ∧
      (octAt p 0 = 10 → p.length = 2 →
        judgeRequest p s =
          if 1 < octAt p 1 then refuse .badValue
          else if s.anyHeadActive then refuse .busy
          else accept (.resetApply (if octAt p 1 = 0 then .state else .all))) ∧
      (octAt p 0 = 4 → p.length = 4 →
        (4 < octAt p 1 → judgeRequest p s = refuse .badValue) ∧
          ∀ g : Group, octAt p 1 = groupCode g →
            judgeRequest p s = accept (.verifyApply g (w16 (octAt16 p 2)))) ∧
      (octAt p 0 = 8 → p.length = 3 →
        (2 < octAt p 1 ∨ 3 < octAt p 2 → judgeRequest p s = refuse .badIndex) ∧
          ∀ (d : Platen) (l : Line), octAt p 1 = d.val → octAt p 2 = l.val →
            judgeRequest p s = accept (.stopLineApply d l)) ∧
      (octAt p 0 = 9 → p.length = 2 →
        (15 < octAt p 1 → judgeRequest p s = refuse .badIndex) ∧
          ∀ i : Fin 16, octAt p 1 = i.val →
            judgeRequest p s =
              if (s.inputs.get i).filtered = (s.inputs.get i).config.polarity then
                refuse .stillAsserted
              else accept (.clearInputApply i)) ∧
      (∀ x ∈
          [(0, 128, 6, 2, 2), (0, 128, 6, 3, 12), (0, 128, 6, 5, 2), (2, 96, 36, 23, 3),
            (2, 96, 36, 29, 2), (2, 96, 36, 34, 3), (3, 28, 18, 0, 2), (3, 28, 18, 14, 3),
            (4, 12, 7, 0, 2), (4, 12, 7, 6, 2), (7, 16, 6, 0, 5), (7, 16, 6, 3, 2),
            (7, 16, 6, 4, 2)],
        octAt p 0 = 2 → octAt p 1 = x.1 → octAt p 2 < x.2.1 → p.length = 4 + x.2.2.1 →
        x.2.2.2.2 ≤ octAt p (4 + x.2.2.2.1) → judgeRequest p s = refuse .badValue) ∧
      ∀ j : Judged,
        judgeStaging j s =
          if j.staged ≠ none ∧ 4 ≤ s.ring.mgmtSlots.length then ⟨.busy, [], none⟩ else j) ∧
  ∀ (v : Octet) (s : State),
    let write (table i : Nat) (record : List Octet) : Judged :=
      judgeRequest ([2, oct table, oct i, v] ++ record) s
    let erase (table i : Nat) : Judged := judgeRequest [3, oct table, oct i] s
    let judged (j : Judged) (ranges : Prop) (st : Status) (held : Prop) (i : Instr) : Prop :=
      (¬ranges → j = refuse .badValue) ∧ (ranges → held → j = refuse st) ∧
        (ranges → ¬held → j = accept i)
    let claimed (i : Fin 16) : Prop := ∃ h : Head, s.store.claims.get h = some i
    let claimedStep (i : Fin 96) : Prop :=
      ∃ p, claimed p ∧ (s.store.dir.get p).first ≤ i.val ∧
        i.val < (s.store.dir.get p).first + (s.store.dir.get p).count
    let swept (k : Fin 8) : Prop :=
      ∃ p : Platen,
        ((s.conds.get p).state = .sweeping ∧ (s.conds.get p).profile = some k) ∨
          (s.conds.get p).pendingProfile = some k
    let sweptSegment (i : Fin 96) : Prop :=
      ∃ k, swept k ∧ (s.profiles.get k).first ≤ i.val ∧
        i.val < (s.profiles.get k).first + (s.profiles.get k).count
    let headBusy (c : ZoneCh) : Prop :=
      (s.heads.get (headOfZone c)).state = .running ∨ (s.heads.get (headOfZone c)).state = .paused
    let ordered (i : LineIx) : Prop :=
      ∃ o ∈ (s.queues.get (platenOfLine i)).orders, o.line = lineOfLine i
    let active (i : Fin 16) : Prop := InputUnit.isActive (s.inputs.get i) = true
    (∀ (i : Fin 128) (e : MapEntry),
      judged (write 0 i.val (encodeMapEntry e))
          (e.tag ≠ 0 ∧ e.dir = classDir e.cls ∧ e.inst.toNat < classInstances e.cls ∧
            (e.required = true → e.dir = .take))
          .duplicate
          (∃ j, j ≠ i ∧ (s.map.entries.get j).valid = true ∧
            ((s.map.entries.get j).tag = e.tag ∨
              (e.dir = .take ∧ (s.map.entries.get j).dir = .take ∧
                (s.map.entries.get j).cls = e.cls ∧ (s.map.entries.get j).inst = e.inst)))
          (.cellmapWriteApply i { e with valid := true }) ∧
        erase 0 i.val = accept (.cellmapEraseApply i)) ∧
      (∀ (i : Fin 16) (e : DirEntry), DirEntry.fits e = true →
        judged (write 1 i.val (encodeDirEntry e))
            (1 ≤ e.count ∧ e.count ≤ 24 ∧ e.first ≤ 95 ∧ e.first + e.count ≤ 96) .inUse (claimed i)
            (.programDirWriteApply i { e with valid := true }) ∧
          judged (erase 1 i.val) True .inUse (claimed i) (.programDirEraseApply i)) ∧
      (∀ (i : Fin 96) (r : StepRecord), StepRecord.fits r = true →
        judged (write 2 i.val (encodeStep r))
            (r.ringRate ≤ 4095 ∧ r.membraneRate ≤ 4095 ∧ r.trimLimit ≤ 4095 ∧
              (r.endKind = .duration → 1 ≤ r.endCount) ∧
              (r.endKind = .settled → 1 ≤ r.endCount ∧ r.endCount ≤ 255 ∧ r.band ≠ 0) ∧
              (r.endKind ≠ .duration → 1 ≤ r.maxCycles ∧ r.timeoutAction.toNat ≤ 1) ∧
              (r.dispense = true →
                r.line.toNat ≤ 3 ∧ 1 ≤ r.count ∧ r.count ≤ 1023 ∧ r.mode.toNat ≤ 1) ∧
              (r.conditioner = .sweep → r.profile.toNat ≤ 7))
            .inUse (claimedStep i) (.stepWriteApply i { r with valid := true }) ∧
          judged (erase 2 i.val) True .inUse (claimedStep i) (.stepEraseApply i)) ∧
      (∀ (i : ZoneCh) (e : ZoneConfig), ZoneConfig.fits e = true →
        judged (write 3 i.val (encodeZone e))
            (e.safeRate ≤ 4095 ∧ e.opDebounce ≤ 7 ∧ e.bandDebounce ≤ 7 ∧ 1 ≤ e.staleLimit ∧
              e.staleLimit ≤ 255 ∧ e.averaging ∈ [1, 2, 4, 8] ∧ e.floor ≤ e.ceiling ∧
              (e.range = .fine → e.ceiling ≤ 40950) ∧ e.safeValue ≤ e.ceiling ∧
              e.ceiling ≤ e.opLimit)
            .inUse (headBusy i) (.zoneWriteApply i { e with valid := true }) ∧
          judged (erase 3 i.val) True .inUse (headBusy i) (.zoneEraseApply i)) ∧
      (∀ (i : LineIx) (e : LineConfig), LineConfig.fits e = true →
        judged (write 4 i.val (encodeLine e))
            (5 ≤ e.strokePeriod ∧ e.strokePeriod ≤ 2000 ∧ 1 ≤ e.flowWindow ∧
              e.flowWindow ≤ 1000 ∧ 1 ≤ e.missLimit ∧ e.missLimit ≤ 15)
            .inUse (ordered i) (.lineWriteApply i { e with valid := true }) ∧
          judged (erase 4 i.val) True .inUse (ordered i) (.lineEraseApply i)) ∧
      (∀ (k : Fin 8) (e : ProfileEntry), ProfileEntry.fits e = true →
        judged (write 5 k.val (encodeProfile e))
            (1 ≤ e.count ∧ e.count ≤ 12 ∧ e.first ≤ 95 ∧ e.first + e.count ≤ 96 ∧
              1 ≤ e.reachBand ∧ e.reachBand ≤ 200 ∧ 100 ≤ e.reachTimeout ∧
              e.reachTimeout ≤ 10000)
            .inUse (swept k) (.profileWriteApply k { e with valid := true }) ∧
          judged (erase 5 k.val) True .inUse (swept k) (.profileEraseApply k)) ∧
      (∀ (i : Fin 96) (r : SegmentRecord), SegmentRecord.fits r = true →
        judged (write 6 i.val (encodeSegment r))
            (r.position ≤ 4000 ∧ r.downforce ≤ 1000 ∧ r.dwell ≤ 5000) .inUse (sweptSegment i)
            (.segmentWriteApply i { r with valid := true }) ∧
          judged (erase 6 i.val) True .inUse (sweptSegment i) (.segmentEraseApply i)) ∧
      ∀ (i : Fin 16) (e : InputConfig), InputConfig.fits e = true →
        judged (write 7 i.val (encodeInput e))
            ((e.fn = .supplyLow → e.platen.toNat ≤ 2 ∧ e.line.toNat ≤ 3) ∧
              (e.fn = .condOverload → e.platen.toNat ≤ 2) ∧ e.filter ≤ 15)
            .inUse (active i) (.inputWriteApply i { e with valid := true }) ∧
          judged (erase 7 i.val) True .inUse (active i) (.inputEraseApply i)

/-- READ answers BAD_INDEX past the table's size, else the entry as the table stands: its valid
octet and the octets of its record (Table 13-6), and for PROGRAM_DIR the use count after them (in
one octet, log entry 41).  STATUS answers the eight octets of DEVICE_STATUS and the two frame
counts. -/
def Obligations.ReadAndStatusAnswer : Prop :=
  ∀ (p : List Octet) (s : State),
    let two (n : Nat) : List Octet := [oct (n / 256), oct n]
    let bit (b : Bool) : Octet := if b then 1 else 0
    (octAt p 0 = 1 → ∀ t, tableOf (octAt p 1) = some t → p.length = 4 + recordLength t →
      (tableSize t ≤ octAt p 2 → judgeRequest p s = refuse .badIndex) ∧
        (∀ i : Fin 128, t = .cellmap → octAt p 2 = i.val →
          let e := s.map.entries.get i
          judgeRequest p s =
            answer
              (bit e.valid :: two e.tag.toNat ++
                [oct (dirCode e.dir), oct (classCode e.cls), e.inst, bit e.required])) ∧
        (∀ i : Fin 16, t = .programDir → octAt p 2 = i.val →
          let e := s.store.dir.get i
          judgeRequest p s =
            answer
              [bit e.valid, oct e.first, oct e.count,
                oct (s.store.claims.entries.countP fun c => c == some i)]) ∧
        (∀ i : Fin 96, t = .step → octAt p 2 = i.val →
          let r := s.store.steps.get i
          judgeRequest p s =
            answer
              (bit r.valid :: (List.finRange 7).flatMap (fun z => two (r.targets.get z)) ++
                two r.ringRate ++ two r.membraneRate ++ two r.trimLimit ++ two r.band ++
                [oct r.settleMask, oct (endKindCode r.endKind)] ++ two r.endCount ++
                two r.maxCycles ++ [r.timeoutAction, bit r.dispense, r.line] ++ two r.count ++
                [r.mode, oct (stepCondCode r.conditioner), r.profile])) ∧
        (∀ c : ZoneCh, t = .zone → octAt p 2 = c.val →
          let e := (s.zones.get c).config
          judgeRequest p s =
            answer
              (bit e.valid :: oct (rangeCode e.range) :: two e.floor ++ two e.ceiling ++
                two e.safeValue ++ two e.safeRate ++ two e.opLimit ++ [oct e.opDebounce] ++
                two e.diffLimit ++
                [oct (bandActionCode e.bandAction), oct e.bandDebounce, oct e.staleLimit,
                  oct e.averaging])) ∧
        (∀ i : LineIx, t = .line → octAt p 2 = i.val →
          let e := (s.lines.get i).config
          judgeRequest p s =
            answer
              (bit e.valid :: bit e.enabled :: two e.strokePeriod ++ two e.flowWindow ++
                [oct e.missLimit, oct (flowActionCode e.flowAction)])) ∧
        (∀ k : Fin 8, t = .profile → octAt p 2 = k.val →
          let e := s.profiles.get k
          judgeRequest p s =
            answer
              (bit e.valid :: [oct e.first, oct e.count, oct e.repeats, oct e.reachBand] ++
                two e.reachTimeout)) ∧
        (∀ i : Fin 96, t = .segment → octAt p 2 = i.val →
          let r := s.segments.get i
          judgeRequest p s =
            answer (bit r.valid :: two r.position ++ two r.downforce ++ two r.dwell)) ∧
        ∀ i : Fin 16, t = .input → octAt p 2 = i.val →
          let e := (s.inputs.get i).config
          judgeRequest p s =
            answer
              [bit e.valid, oct (inputFnCode e.fn), e.platen, e.line, bit e.polarity,
                oct (inputModeCode e.mode), oct e.filter]) ∧
      (octAt p 0 = 6 → p.length = 17 →
        judgeRequest p s =
          answer
            (deviceStatus s ++ be32 s.ring.goodCount.toNat ++ be32 s.ring.badCount.toNat))

/-- DISPENSE: platen and line, mode and count, then the engine's own checks in their order, and an
accepted request is the offer of a DIRECT order.  (That check 4 reads the verifier's state alone,
also while a LINE write's notice is waiting, is log entry 29's.) -/
def Obligations.DispenseChecksInOrder : Prop :=
  ∀ (p : List Octet) (s : State), octAt p 0 = 7 → p.length = 6 →
    (3 ≤ octAt p 1 ∨ 4 ≤ octAt p 2 → judgeRequest p s = refuse .badIndex) ∧
      ∀ (d : Platen) (l : Line), octAt p 1 = d.val → octAt p 2 = l.val →
        (1 < octAt p 5 ∨ octAt16 p 3 = 0 ∨ 1023 < octAt16 p 3 →
          judgeRequest p s = refuse .badValue) ∧
          (octAt p 5 ≤ 1 → 1 ≤ octAt16 p 3 → octAt16 p 3 ≤ 1023 →
            judgeRequest p s =
              let line := (s.lines.get (lineIx d l)).config
              if ¬(line.valid = true ∧ line.enabled = true) then refuse .lineOff
              else if s.functionActive .estop then refuse .estop
              else if s.functionActive (.supplyLow d l) then refuse .supplyLow
              else if s.verifier.vbr = true ∧ s.verifier.line.state ≠ .verified then
                refuse .gated
              else if 8 ≤ (s.queues.get d).orders.length then refuse .full
              else
                accept
                  (.orderOffer d
                    ⟨.direct, l, octAt16 p 3, if octAt p 5 = 0 then .single else .burst⟩))

/-- Every table record reads back from its octets: what a WRITE carries is the record its octets
spell, and an encoded record has the length its table gives. -/
def Obligations.TableRecordsReadBack : Prop :=
  (∀ e : MapEntry,
      decodeMapEntry (encodeMapEntry e) = some { e with valid := true } ∧
        (encodeMapEntry e).length = recordLength .cellmap) ∧
    (∀ e : DirEntry, DirEntry.fits e = true →
      decodeDirEntry (encodeDirEntry e) = some { e with valid := true } ∧
        (encodeDirEntry e).length = recordLength .programDir) ∧
    (∀ r : StepRecord, StepRecord.fits r = true →
      decodeStep (encodeStep r) = some { r with valid := true } ∧
        (encodeStep r).length = recordLength .step) ∧
    (∀ e : ZoneConfig, ZoneConfig.fits e = true →
      decodeZone (encodeZone e) = some { e with valid := true } ∧
        (encodeZone e).length = recordLength .zone) ∧
    (∀ e : LineConfig, LineConfig.fits e = true →
      decodeLine (encodeLine e) = some { e with valid := true } ∧
        (encodeLine e).length = recordLength .line) ∧
    (∀ e : ProfileEntry, ProfileEntry.fits e = true →
      decodeProfile (encodeProfile e) = some { e with valid := true } ∧
        (encodeProfile e).length = recordLength .profile) ∧
    (∀ r : SegmentRecord, SegmentRecord.fits r = true →
      decodeSegment (encodeSegment r) = some { r with valid := true } ∧
        (encodeSegment r).length = recordLength .segment) ∧
    ∀ e : InputConfig, InputConfig.fits e = true →
      decodeInput (encodeInput e) = some { e with valid := true } ∧
        (encodeInput e).length = recordLength .input

/-! ### Heads -/

/-- PAUSE, RESUME, SKIP and NOP in every head state: the outcome recorded and the one field of the
head that changes. -/
def Obligations.PauseResumeSkipNop : Prop :=
  ∀ (h : Head) (seq : Word16) (s : State),
    let r := s.heads.get h
    exec (.pause h seq) s =
        .next
          (headAnswered h 2 seq
            (match r.state with
              | .running => .accepted
              | .paused => .same
              | _ => .notRunning)
            (if r.state = .running then { r with state := .paused } else r)
            (s.takeUp (.pause h seq))) ∧
      exec (.resume h seq) s =
        .next
          (headAnswered h 3 seq
            (match r.state with
              | .paused => .accepted
              | .running => .same
              | _ => .notPaused)
            (if r.state = .paused then { r with state := .running } else r)
            (s.takeUp (.resume h seq))) ∧
      exec (.skip h seq) s =
        .next
          (headAnswered h 4 seq (if r.state = .running then .accepted else .notRunning)
            (if r.state = .running then { r with skip := true } else r)
            (s.takeUp (.skip h seq))) ∧
      exec (.nop h seq) s = .next (headAnswered h 0 seq .same r (s.takeUp (.nop h seq)))

/-- START: refused out of IDLE, then by the gates in their order; accepted, it claims the program,
starts its first step, masks the head's zones and hands the docked platen the step-start actions: a
STEP order with the record's line, count and mode if it has a dispense part, then its SWEEP or PARK
if it has one.  (A line or mode out of range is log entry 27's.)  A release of this head that is
waiting is taken first (log entry 8).  (That a write to a zone of this head counts as UNVERIFIED
while its notice is waiting, and no other write does, is log entry 29's.) -/
def Obligations.StartJudgedByGates : Prop :=
  ∀ (h : Head) (p : Octet) (seq : Word16) (s : State),
    exec (.start h p seq) s =
      .next
        (let t := s.takeUp (.start h p seq)
        let u := t.takeRelease h
        let r := s.heads.get h
        let refused := fun (o : HeadOutcome) (x : State) => headAnswered h 1 seq o r x
        let actions (q : Platen) (x : StepRecord) : List Instr :=
          (if x.dispense = true then
            [.orderOffer q
              ⟨.step h, ⟨x.line.toNat % 4, by omega⟩, x.count,
                if x.mode.toNat = 1 then .burst else .single⟩]
          else []) ++
            (match x.conditioner with
            | .none => []
            | .sweep => [.stepConditionerCommand q (.sweep x.profile)]
            | .park => [.stepConditionerCommand q .park])
        if r.state ≠ .idle then refused .notIdle t
        else
          match s.platenOf h with
          | none => refused .notDocked t
          | some d =>
            match s.validProgram p with
            | none => refused .badProgram u
            | some i =>
              if s.verifier.vbr = true ∧
                  ¬(s.verifier.cellmap.state = .verified ∧ s.verifier.program.state = .verified ∧
                      s.verifier.zone.state = .verified ∧
                      ∀ c, headOfZone c = h → .zone c ∉ s.written) then
                refused .gated u
              else if s.cadence.state ≠ .locked then refused .cadence u
              else if s.functionActive .estop then refused .estop u
              else if s.functionActive .airLow then refused .airLow u
              else
                let first := s.stepRecordOf i 0
                headAnswered h 1 seq .accepted
                  { r with
                    state := .running, program := some i, stepIndex := 0, context := some first,
                    cycleCount := 0, settledRun := 0, skip := false, latch := r.endpoint }
                  { u with
                    store := { u.store with claims := u.store.claims.upd h (some i) }
                    zones :=
                      Tab.ofFn fun c =>
                        if headOfZone c = h then
                          { s.zones.get c with ramping := true, settle := 0 }
                        else s.zones.get c
                    handed := u.handed ++ actions d first })

/-- Table 2-5 for the causes that arrive as notices and for ABORT: in a marked state the head enters
SAFE_HOLD with the cause, its setpoints unchanged, its claim released and its platen told; in any
other state a notice changes nothing at the head. -/
def Obligations.CausesEnterSafeHold : Prop :=
  ∀ (h : Head) (s : State),
    let r := s.heads.get h
    let held := fun (cause : SafeCause) (t : State) =>
      { t with
        heads :=
          s.heads.upd h
            { r with
              state := .safeHold, cause := cause, skip := false
              substate :=
                if ∀ z : Zone,
                    (s.zoneOf h z).setpoint = (s.zoneConfig (zoneCh h z)).safeValue then .settled
                else .settling }
        handed := t.handed ++ safeHoldEvents h cause r (s.platenOf h) }
    (∀ x ∈
          [(Instr.overpressureNotice h, SafeCause.overpressure, true),
            (.cadenceLostNotice h, .cadenceLost, false), (.estopNoticeHead h, .estop, true),
            (.tableFailedNotice h, .tableFailed, false), (.flowFaultNotice h, .flowFault, true)],
        exec x.1 s =
          .next
            (if r.state = .running ∨ r.state = .paused ∨ (r.state = .done ∧ x.2.2 = true) then
              held x.2.1 (s.takeUp x.1)
            else s.takeUp x.1)) ∧
      ∀ seq : Word16,
        let t := s.takeUp (.abort h seq)
        exec (.abort h seq) s =
          .next
            (if r.state = .idle ∨ r.state = .safeHold then headAnswered h 5 seq .same r t
            else
              let u := held .aborted t
              headAnswered h 5 seq .accepted (u.heads.get h) u)

/-- CLEAR: refused BUSY while a program runs and NOT_SETTLED while the head settles, SAME in IDLE;
accepted, the head is IDLE, its seven zones vent to 0, and each output channel whose code changes to
a value other than the one last sent is marked.  The Regulator Port then sends if it is free. -/
def Obligations.ClearVentsZones : Prop :=
  ∀ (h : Head) (seq : Word16) (s : State),
    exec (.clear h seq) s =
      .next
        (State.kickPort
          (let t := s.takeUp (.clear h seq)
          let r := s.heads.get h
          match r.state with
          | .idle => headAnswered h 6 seq .same r t
          | .running | .paused => headAnswered h 6 seq .busy r t
          | .done | .safeHold =>
            if r.state = .safeHold ∧ r.substate ≠ .settled then
              headAnswered h 6 seq .notSettled r t
            else
              headAnswered h 6 seq .accepted
                { r with
                  state := .idle, substate := .none, cause := .none, skip := false,
                  latch := none }
                { t with
                  zones :=
                    Tab.ofFn fun c =>
                      if headOfZone c = h then
                        { s.zones.get c with
                          setpoint := 0, code := 0, ramping := false, settle := 0,
                          diffLimited := false, saturated := false, debounce := 0,
                          excursion := false, monitorStale := false }
                      else s.zones.get c
                  reg :=
                    { s.reg with
                      pending :=
                        Tab.ofFn fun c =>
                          if hc : c.val < 28 then
                            if headOfZone ⟨c.val, hc⟩ = h ∧ (s.zones.get ⟨c.val, hc⟩).code ≠ 0 ∧
                                s.reg.last.get c ≠ 0 then true
                            else s.reg.pending.get c
                          else s.reg.pending.get c } }))

/-- Law 9: a head leaves SAFE_HOLD only for IDLE, by a CLEAR applied while its substate is SETTLED
or by a reset. -/
def Obligations.SafeHoldLeftOnlyByClear : Prop :=
  ∀ (c : Instr) (h : Head) (s t : State), exec c s = .next t →
    (s.heads.get h).state = .safeHold → (t.heads.get h).state ≠ .safeHold →
      (t.heads.get h).state = .idle ∧
        (((s.heads.get h).substate = .settled ∧
            ((∃ seq, c = .clear h seq) ∨
              ∃ d v, c = .cycleDelivery h d ∧ d.command = some v ∧ v.code = 6)) ∨
          (∃ straps, c = .powerOnReset straps) ∨
          (s.ring.transparent = true ∧ (c = .transparentPeriodEnd ∨ c = .tick)))

/-- A head leaves IDLE only by a START, in which all six gates pass: the head is docked; the program
number names a valid directory entry whose records are all valid; with verify-before-run on the
groups CELLMAP, PROGRAM and ZONE are VERIFIED; the cadence is LOCKED; and neither ESTOP nor AIR_LOW
is function-active.  (That a write to a zone of this head counts as UNVERIFIED while its notice is
waiting, and no other write does, is log entry 29's.) -/
def Obligations.IdleLeftOnlyByStart : Prop :=
  ∀ (c : Instr) (h : Head) (s t : State), exec c s = .next t →
    (s.heads.get h).state = .idle → (t.heads.get h).state ≠ .idle →
      ∃ (number : Octet) (p : Fin 16),
        ((∃ seq, c = .start h number seq) ∨
            ∃ d v, c = .cycleDelivery h d ∧ d.command = some v ∧ v.code = 1 ∧ v.arg = number) ∧
          (∃ d, (s.docks.get d).docked = some h) ∧
          (number.toNat = p.val ∧ (s.store.dir.get p).valid = true ∧
            ∀ j < (s.store.dir.get p).count,
              ∃ i : Fin 96, i.val = (s.store.dir.get p).first + j ∧
                (s.store.steps.get i).valid = true) ∧
          (s.verifier.vbr = true →
            s.verifier.cellmap.state = .verified ∧ s.verifier.program.state = .verified ∧
              s.verifier.zone.state = .verified ∧
              ∀ c, headOfZone c = h → .zone c ∉ s.written) ∧
          s.cadence.state = .locked ∧ s.functionActive .estop = false ∧
          s.functionActive .airLow = false

/-- A cycle delivery to a head in IDLE or SAFE_HOLD stores its endpoint and trims and does nothing
more, where it carries no command or one already seen.  In every state a command already seen leaves
the delivery as one without a command; the first after a reset is learned and not applied; and any
other is applied first, as its own row is, and the delivery goes on as one without a command from
the state that leaves (an accepted START latches the endpoint as this delivery carries it).  (A SKIP
at a RUNNING head, which ends no step at its own delivery, is stated with the step ends.) -/
def Obligations.DeliveryToAHeadNotRunning : Prop :=
  ∀ (h : Head) (d : Delivery) (s : State),
    let t := s.takeUp (.cycleDelivery h d)
    let r := s.heads.get h
    let rest : Instr := .cycleDelivery h { d with command := none }
    let goesOn (u : State) : Prop :=
      rest ∉ u.handed → exec (.cycleDelivery h d) s = exec rest u
    ((r.state = .idle ∨ r.state = .safeHold) →
      (d.command = none ∨ ∃ v, d.command = some v ∧ s.map.learnedHead.get h = some v.seq) →
        exec (.cycleDelivery h d) s =
          .next
            (State.kickPort
              { t with
                heads :=
                  s.heads.upd h
                    { r with
                      endpoint := d.endpoint <|> r.endpoint
                      trims := Tab.ofFn fun z => (d.trims.get z).getD (r.trims.get z) } })) ∧
      (∀ v, d.command = some v → s.map.learnedHead.get h = some v.seq → goesOn t) ∧
      (∀ v, d.command = some v → s.map.learnedHead.get h = none →
        goesOn
          { t with
            heads := s.heads.upd h { r with lastSeq := v.seq, lastOutcome := .learned }
            map := { s.map with learnedHead := s.map.learnedHead.upd h (some v.seq) } }) ∧
      ∀ v q, d.command = some v → s.map.learnedHead.get h = some q → q ≠ v.seq →
        (6 < v.code.toNat → goesOn (headAnswered h v.code v.seq .badCommand r t)) ∧
          (v.code = 6 → r.state = .running ∨ r.state = .paused →
            goesOn (headAnswered h v.code v.seq .busy r t)) ∧
          ∀ x ∈
              [(0, Instr.nop h v.seq), (1, .start h v.arg v.seq), (2, .pause h v.seq),
                (3, .resume h v.seq), (4, .skip h v.seq), (5, .abort h v.seq),
                (6, .clear h v.seq)],
            v.code.toNat = x.1 → x.2 ∉ t.handed → ¬(x.1 = 4 ∧ r.state = .running) →
            ¬(x.1 = 6 ∧ (r.state = .running ∨ r.state = .paused)) →
              ∃ u : State,
                exec x.2 t = .next u ∧
                  goesOn
                    (if r.state = .idle ∧ (u.heads.get h).state = .running then
                      { u with
                        heads :=
                          u.heads.upd h
                            { u.heads.get h with latch := d.endpoint <|> r.endpoint } }
                    else u)

/-- A cycle delivery without a command to a RUNNING, PAUSED or DONE head.  Every zone's band monitor
is judged first, on the setpoint in force: an episode begins at the debounced length of deviations,
or with a stale gauge, and then alone raises BAND_EXCURSION; a SAFE zone takes the head to SAFE_HOLD
with cause EXCURSION, between its own raise and the next zone's, else a HOLD zone pauses a RUNNING
head.  A head that stays RUNNING derives every zone's setpoint: target and clamped trim within floor
and ceiling, the ramp, the differential limit against the zone inside, floor and ceiling again, and
the code by its range.  A zone that has not come to its target is ramping, one that has just come to
it loads its settle counter with the step's mask, and any other counts down; where the delivery ends
the step, the next one masks every zone.  A code that comes to 4095 raises SATURATED, and one that
changes to a value other than the one last sent marks its channel; the Regulator Port then sends if
it is free.  A PAUSED head only counts its settle counters down, and a DONE head keeps its zones.
Nothing else changes.  (A count past a lowered debounce length comes down to it, log entry 32.) -/
def Obligations.RunningDeliverySetpoints : Prop :=
  ∀ (h : Head) (d : Delivery) (s : State),
    let r := s.heads.get h
    let band : Nat :=
      match r.context with
      | some c => c.band
      | none => 0
    let config (z : Zone) : ZoneConfig := s.zoneConfig (zoneCh h z)
    let old (z : Zone) : ZoneChannel := s.zoneOf h z
    let gauge (z : Zone) : Filter := s.filters.get (chanOfZone (zoneCh h z))
    let masked (z : Zone) : Prop := (old z).ramping = true ∨ 0 < (old z).settle
    let off (z : Zone) : Int := ((gauge z).feedback : Int) - (old z).setpoint
    let length (z : Zone) : Nat := debounceLength (config z).bandDebounce
    let n (z : Zone) : Nat := min ((old z).debounce + 1) (length z)
    let deviates (z : Zone) : Prop :=
      band ≠ 0 ∧ ¬masked z ∧ (gauge z).stale = false ∧ band < (off z).natAbs
    let silent (z : Zone) : Prop :=
      band ≠ 0 ∧ (gauge z).stale = true ∧ (old z).monitorStale = false
    let deviation (z : Zone) : Prop :=
      deviates z ∧ (old z).excursion = false ∧ n z = length z
    let begins (z : Zone) : Prop := silent z ∨ deviation z
    let safes : Prop := ∃ z, begins z ∧ (config z).bandAction = .safe
    let holds : Prop := ∃ z, begins z ∧ (config z).bandAction = .hold
    let raises (z : Zone) : List Instr :=
      if silent z then [.eventRaise .bandExcursion (.zone (zoneCh h z)) 1 0]
      else if deviation z then
        [.eventRaise .bandExcursion (.zone (zoneCh h z)) 0
          (BitVec.ofInt 16 (max (-32768) (min (off z) 32767)))]
      else []
    let keepsMarks (z : Zone) : Prop :=
      band ≠ 0 ∧ ¬masked z ∧ ((gauge z).stale = true ∨ deviates z)
    let latched : HeadRecord :=
      { r with
        endpoint := d.endpoint <|> r.endpoint
        trims := Tab.ofFn fun z => (d.trims.get z).getD (r.trims.get z)
        latch :=
          if r.state ≠ .done ∧ r.latch = none then d.endpoint <|> r.endpoint else r.latch }
    d.command = none → r.state = .running ∨ r.state = .paused ∨ r.state = .done →
      ∃ t : State,
        exec (.cycleDelivery h d) s = .next t ∧
          (let u := s.takeUp (.cycleDelivery h d)
          t =
            { u with
              heads := s.heads.upd h (t.heads.get h), zones := t.zones, reg := t.reg
              regulatorOut := t.regulatorOut, handed := t.handed }) ∧
          (∀ z, begins z → (config z).bandAction = .safe →
            (∀ y < z, begins y → (config y).bandAction ≠ .safe) →
              let held : Prop := ∃ y < z, begins y ∧ (config y).bandAction = .hold
              let left : HeadState := if r.state = .running ∧ held then .paused else r.state
              t.handed =
                (s.takeUp (.cycleDelivery h d)).handed ++
                  ((List.finRange 7).filter (· ≤ z)).flatMap raises ++
                  safeHoldEvents h .excursion { r with state := left } (s.platenOf h) ++
                  ((List.finRange 7).filter (z < ·)).flatMap raises) ∧
          (¬safes →
            ∃ rest,
              t.handed =
                  (s.takeUp (.cycleDelivery h d)).handed ++ (List.finRange 7).flatMap raises ++
                    rest ∧
                (∀ src d1 d2, .eventRaise .bandExcursion src d1 d2 ∉ rest) ∧
                (r.state ≠ .running ∨ holds ∨ r.context = none → rest = [])) ∧
          (safes →
            t.heads.get h =
              { latched with
                state := .safeHold, cause := .excursion, skip := false
                substate :=
                  if ∀ z, (old z).setpoint = (config z).safeValue then .settled
                  else .settling }) ∧
          (¬safes → r.state = .running → holds →
            t.heads.get h = { latched with state := .paused }) ∧
          (¬safes → r.state ≠ .running ∨ r.context = none → t.heads.get h = latched) ∧
          (∀ z,
            (¬keepsMarks z →
              (t.zoneOf h z).debounce = 0 ∧ (t.zoneOf h z).excursion = false) ∧
            (keepsMarks z →
              (t.zoneOf h z).debounce = (if deviates z then n z else (old z).debounce) ∧
                ((t.zoneOf h z).excursion = true ↔ (old z).excursion = true ∨ deviation z)) ∧
            ((t.zoneOf h z).monitorStale = true ↔ band ≠ 0 ∧ (gauge z).stale = true)) ∧
          (¬(r.state = .running ∧ ¬safes ∧ ¬holds) ∨ r.context = none →
            ∀ z,
              t.zoneOf h z =
                { old z with
                  debounce := (t.zoneOf h z).debounce, excursion := (t.zoneOf h z).excursion
                  monitorStale := (t.zoneOf h z).monitorStale
                  settle :=
                    if (t.heads.get h).state = .paused then (old z).settle - 1
                    else (old z).settle }) ∧
          (let changes (z : Zone) : Prop :=
            (t.zoneOf h z).code ≠ (old z).code ∧
              (t.zoneOf h z).code ≠ s.reg.last.get (chanOfZone (zoneCh h z))
          ∃ u : State,
            t = u.kickPort ∧ u.reg.inHand = s.reg.inHand ∧ u.reg.last = s.reg.last ∧
              u.regulatorOut = s.regulatorOut ∧
              ∀ i : Chan,
                u.reg.pending.get i = true ↔
                  s.reg.pending.get i = true ∨
                    ∃ z, i = chanOfZone (zoneCh h z) ∧ changes z) ∧
          (∀ c, r.state = .running → ¬safes → ¬holds → r.context = some c →
            ∀ z,
              let e := config z
              let trim := (d.trims.get z).getD (r.trims.get z)
              let held : Int := max (-(c.trimLimit : Int)) (min trim c.trimLimit)
              let goal : Nat :=
                (min (max (e.floor : Int) ((c.targets.get z : Int) + held)) e.ceiling).toNat
              let rate := if z = 0 then c.ringRate else c.membraneRate
              let ramped :=
                if rate = 0 then goal
                else if (old z).setpoint ≤ goal then min goal ((old z).setpoint + rate)
                else max goal ((old z).setpoint - rate)
              let limited :=
                if hz : 2 ≤ z.val then
                  let inner := (t.zoneOf h ⟨z.val - 1, by omega⟩).setpoint
                  if e.diffLimit = 0 then ramped
                  else min (max (inner - e.diffLimit) ramped) (inner + e.diffLimit)
                else ramped
              (t.zoneOf h z).setpoint = min (max e.floor limited) e.ceiling ∧
                (t.zoneOf h z).code =
                  min
                    (match e.range with
                      | .fine => ((t.zoneOf h z).setpoint + 5) / 10
                      | .coarse => ((t.zoneOf h z).setpoint + 8) / 16)
                    4095 ∧
                (t.zoneOf h z).saturated = decide ((t.zoneOf h z).code = 4095) ∧
                ((t.zoneOf h z).diffLimited = true ↔ limited ≠ ramped) ∧
                ((t.heads.get h).cycleCount ≠ 0 →
                  ((t.zoneOf h z).ramping = true ↔ ramped ≠ goal) ∧
                    (t.zoneOf h z).settle =
                      (if (old z).ramping = true ∧ ramped = goal then c.settleMask
                      else (old z).settle - 1)) ∧
                ((t.heads.get h).cycleCount = 0 →
                  (t.zoneOf h z).ramping = true ∧ (t.zoneOf h z).settle = 0) ∧
                (let saturates : Prop :=
                  (t.zoneOf h z).code = 4095 ∧ (old z).saturated = false
                (saturates →
                    .eventRaise .saturated (.zone (zoneCh h z)) (w16 (t.zoneOf h z).setpoint)
                      (w16 (rangeCode e.range)) ∈ t.handed) ∧
                  (¬saturates → ∀ d1 d2,
                    .eventRaise .saturated (.zone (zoneCh h z)) d1 d2 ∈ t.handed →
                      .eventRaise .saturated (.zone (zoneCh h z)) d1 d2 ∈ s.handed))) ∧
          ∀ i : ZoneCh,
            (t.zones.get i).config = (s.zones.get i).config ∧
              (headOfZone i ≠ h → t.zones.get i = s.zones.get i)

/-- Stage 5 of a delivery to a RUNNING head that no band action stops.  The cycle is counted and the
platen told; the step then ends, at a DURATION step's count, at an ENDPOINT step's change of the
endpoint count from its latch, at a SETTLED step's run of settled cycles, or by a SKIP applied at an
earlier delivery; else an ENDPOINT or SETTLED step at its limit times out, into SAFE_HOLD or as its
normal end; else it goes on.  At the end the next step starts, or after the last the head is DONE,
hands its release and raises PROGRAM_DONE.  A step start hands the STEP order with the record's
line, count and mode if it has a dispense part, then its SWEEP or PARK (a line or mode out of range
is log entry 27's).  What is raised before is BAND_EXCURSION of each zone whose episode begins, then
SATURATED of each that comes to code 4095, and nothing else changes but the head's zones, whose
codes mark their channels, and what the Regulator Port sends.  (The delivery carries no command, or
a new SKIP.) -/
def Obligations.DurationStepEnds : Prop :=
  ∀ (h : Head) (d : Delivery) (c : StepRecord) (p : Fin 16) (skip : Option CommandValue)
    (s : State),
    let r := s.heads.get h
    let config (z : Zone) : ZoneConfig := s.zoneConfig (zoneCh h z)
    let old (z : Zone) : ZoneChannel := s.zoneOf h z
    let gauge (z : Zone) : Filter := s.filters.get (chanOfZone (zoneCh h z))
    let away (z : Zone) : Nat := (((gauge z).feedback : Int) - (old z).setpoint).natAbs
    let begins (z : Zone) : Prop :=
      c.band ≠ 0 ∧
        (((gauge z).stale = true ∧ (old z).monitorStale = false) ∨
          ((gauge z).stale = false ∧ (old z).ramping = false ∧ (old z).settle = 0 ∧
            c.band < away z ∧ (old z).excursion = false ∧
            debounceLength (config z).bandDebounce ≤ (old z).debounce + 1))
    r.state = .running → r.context = some c → r.program = some p →
    (∀ z, begins z → (config z).bandAction = .report) →
    d.command = skip →
    (∀ v, skip = some v →
      v.code = 4 ∧ ∃ q, s.map.learnedHead.get h = some q ∧ q ≠ v.seq) →
      let endpoint := d.endpoint <|> r.endpoint
      let count := min (r.cycleCount + 1) 65535
      let met : Prop :=
        c.band ≠ 0 ∧ ∀ z, (gauge z).stale = false ∧ (old z).ramping = false ∧
          (old z).settle = 0 ∧ away z ≤ c.band
      let run :=
        if c.endKind = .settled then (if met then min (r.settledRun + 1) 255 else 0)
        else r.settledRun
      let latch := if r.latch = none then endpoint else r.latch
      let told : HeadRecord :=
        match skip with
        | some v => { r with skip := true, lastSeq := v.seq, lastOutcome := .accepted }
        | none => r
      let counted : HeadRecord :=
        { told with
          endpoint := endpoint
          trims := Tab.ofFn fun z => (d.trims.get z).getD (r.trims.get z)
          latch := latch, cycleCount := count, settledRun := run }
      let ends : Prop :=
        r.skip = true ∨
          (match c.endKind with
            | .duration => count = c.endCount
            | .endpoint => ∃ x, latch = some x ∧ endpoint ≠ some x
            | .settled => run = c.endCount)
      let expires : Prop := ¬ends ∧ c.endKind ≠ .duration ∧ c.maxCycles ≤ count
      let atPlaten (f : Platen → List Instr) : List Instr :=
        match s.platenOf h with
        | some q => f q
        | none => []
      let steps := (s.store.dir.get p).count
      let next := s.stepRecordOf p (r.stepIndex + 1)
      let actions (q : Platen) (x : StepRecord) : List Instr :=
        (if x.dispense = true then
          [.orderOffer q
            ⟨.step h, ⟨x.line.toNat % 4, by omega⟩, x.count,
              if x.mode.toNat = 1 then .burst else .single⟩]
        else []) ++
          (match x.conditioner with
          | .none => []
          | .sweep => [.stepConditionerCommand q (.sweep x.profile)]
          | .park => [.stepConditionerCommand q .park])
      let timedOut : List Instr :=
        [.eventRaise .stepTimeout (.head h) (w16 r.stepIndex) (w16 c.timeoutAction.toNat)]
      ∃ t : State,
        exec (.cycleDelivery h d) s = .next t ∧
          (let u := s.takeUp (.cycleDelivery h d)
          t =
            { u with
              map :=
                (match skip with
                | some v =>
                  { s.map with learnedHead := s.map.learnedHead.upd h (some v.seq) }
                | none => s.map)
              heads := s.heads.upd h (t.heads.get h), zones := t.zones, reg := t.reg
              regulatorOut := t.regulatorOut, handed := t.handed }) ∧
          (∀ i : ZoneCh,
            (t.zones.get i).config = (s.zones.get i).config ∧
              (headOfZone i ≠ h → t.zones.get i = s.zones.get i)) ∧
          (∃ u : State,
            t = u.kickPort ∧ u.reg.inHand = s.reg.inHand ∧ u.reg.last = s.reg.last ∧
              u.regulatorOut = s.regulatorOut ∧
              ∀ i : Chan,
                u.reg.pending.get i = true ↔
                  s.reg.pending.get i = true ∨
                    ∃ z, i = chanOfZone (zoneCh h z) ∧ (t.zoneOf h z).code ≠ (old z).code ∧
                      (t.zoneOf h z).code ≠ s.reg.last.get i) ∧
          (let excursions : List Instr :=
            (List.finRange 7).flatMap fun z =>
              if begins z then
                if (gauge z).stale = true then
                  [.eventRaise .bandExcursion (.zone (zoneCh h z)) 1 0]
                else
                  [.eventRaise .bandExcursion (.zone (zoneCh h z)) 0
                    (BitVec.ofInt 16
                      (max (-32768)
                        (min (((gauge z).feedback : Int) - (old z).setpoint) 32767)))]
              else []
          let saturations : List Instr :=
            (List.finRange 7).flatMap fun z =>
              if (t.zoneOf h z).code = 4095 ∧ (old z).saturated = false then
                [.eventRaise .saturated (.zone (zoneCh h z)) (w16 (t.zoneOf h z).setpoint)
                  (w16 (rangeCode (config z).range))]
              else []
          let before :=
            (s.takeUp (.cycleDelivery h d)).handed ++ excursions ++ saturations ++
              atPlaten (fun q => [.cycleNotice q h])
          let ended (x : List Instr) : Prop :=
            if r.stepIndex + 1 < steps then
              t.heads.get h =
                  { counted with
                    stepIndex := r.stepIndex + 1, context := some next, cycleCount := 0,
                    settledRun := 0, skip := false, latch := endpoint } ∧
                t.handed =
                  before ++ x ++ atPlaten (fun q => [.stepEndNotice q h]) ++
                    atPlaten (fun q => actions q next) ∧
                ∀ z : Zone, (t.zoneOf h z).ramping = true ∧ (t.zoneOf h z).settle = 0
            else
              t.heads.get h = { counted with state := .done, skip := false } ∧
                t.handed =
                  before ++ x ++ atPlaten (fun q => [.stepEndNotice q h]) ++
                    [.programRelease h,
                      .eventRaise .programDone (.head h) (w16 p.val) (w16 steps)]
          (ends → ended []) ∧
            (expires → c.timeoutAction ≠ 1 → ended timedOut) ∧
            (expires → c.timeoutAction = 1 →
              t.heads.get h =
                  { counted with
                    state := .safeHold, cause := .stepTimeout, skip := false
                    substate :=
                      if ∀ z, (t.zoneOf h z).setpoint = (config z).safeValue then .settled
                      else .settling } ∧
                t.handed =
                  before ++ timedOut ++ safeHoldEvents h .stepTimeout r (s.platenOf h)) ∧
            (¬ends → ¬expires → t.heads.get h = counted ∧ t.handed = before))

/-! ### Ticks -/

/-- A tick completes.  One that ends no transparent period brings the microsecond count to the tick,
whatever late expiries fall before it, and leaves what no tick changes as it was: the commands
waiting, the ring, the tables, the claims, the docked heads, every setting, and every zone of a head
not in SAFE_HOLD; within a transparent period it counts the ticks since the mark, up to five.  The
period ends at the fifth, or at the first after it at which no hand-over of the RESET's frame waits
(what its end leaves is stated with the resets).  (Where the count stands between ticks is log entry
11's choice.) -/
def Obligations.TickMovesTime : Prop :=
  ∀ s : State,
    (tickGoesOn s →
      ∃ t : State,
        exec .tick s = .next t ∧ t.us = s.us + BitVec.ofNat 32 (1000 - s.phase) ∧ t.phase = 0 ∧
          t.pending = s.pending ∧ t.map = s.map ∧ t.store = s.store ∧
          t.docks = s.docks ∧ t.profiles = s.profiles ∧ t.segments = s.segments ∧
          t.events = s.events ∧ t.portB = s.portB ∧
          t.ring =
            (if s.ring.transparent = true then
              { s.ring with resetTicks := min (s.ring.resetTicks + 1) 5 }
            else s.ring) ∧
          (∀ i : ZoneCh,
            (t.zones.get i).config = (s.zones.get i).config ∧
              ((s.heads.get (headOfZone i)).state ≠ .safeHold →
                t.zones.get i = s.zones.get i)) ∧
          (∀ i : LineIx, (t.lines.get i).config = (s.lines.get i).config) ∧
          (∀ i : Fin 16, (t.inputs.get i).config = (s.inputs.get i).config ∧
              (t.inputs.get i).raw = (s.inputs.get i).raw) ∧
          (∀ p : Platen,
            (t.idle.get p).interval = (s.idle.get p).interval ∧
              (t.idle.get p).line = (s.idle.get p).line ∧
              (t.idle.get p).count = (s.idle.get p).count ∧
              (t.conds.get p).parkPosition = (s.conds.get p).parkPosition ∧
              (t.conds.get p).parkBand = (s.conds.get p).parkBand ∧
              (t.conds.get p).parkTimeout = (s.conds.get p).parkTimeout) ∧
          t.cadence.period = s.cadence.period ∧ t.cadence.early = s.cadence.early ∧
          t.cadence.late = s.cadence.late ∧ t.cadence.limit = s.cadence.limit ∧
          t.verifier.vbr = s.verifier.vbr ∧
          ∀ h : Head, (s.heads.get h).state ≠ .safeHold → t.heads.get h = s.heads.get h) ∧
      (¬tickGoesOn s →
        ∃ t : State,
          exec .tick s = .next t ∧ t.us = s.us + BitVec.ofNat 32 (1000 - s.phase) ∧ t.phase = 0 ∧
            t.ring =
              { s.ring with
                transparent := false, scope := .state, resetTicks := 0, resetFrame := none,
                lastGood := 0, goodCount := 0, badCount := 0, takeSlots := Tab.all 128 none,
                mgmtSlots := [] } ∧
            t.heads = Tab.all 4 .afterReset ∧ t.awaiting = [])

/-- On a tick a head in SAFE_HOLD moves each of its zones toward its safe value by the safe rate, at
once where the rate is 0, and then judges its substate; nothing else of the head changes.  So it is
on every tick that does not end a transparent period, which takes the reset values instead. -/
def Obligations.SafeHoldTick : Prop :=
  ∀ (h : Head) (s : State), tickGoesOn s → (s.heads.get h).state = .safeHold →
    ∃ t : State,
      exec .tick s = .next t ∧
        (∀ z : Zone,
          let e := s.zoneConfig (zoneCh h z)
          let old := (s.zoneOf h z).setpoint
          (t.zoneOf h z).setpoint =
              (if e.safeRate = 0 then e.safeValue
              else if old ≤ e.safeValue then min e.safeValue (old + e.safeRate)
              else max e.safeValue (old - e.safeRate)) ∧
            (t.zoneOf h z).code = regulatorCode e.range (t.zoneOf h z).setpoint ∧
            (t.zoneOf h z).saturated = decide ((t.zoneOf h z).code = 4095) ∧
            (t.zoneOf h z).ramping = (s.zoneOf h z).ramping ∧
            (t.zoneOf h z).settle = (s.zoneOf h z).settle ∧
            (t.zoneOf h z).diffLimited = (s.zoneOf h z).diffLimited) ∧
        t.heads.get h =
          { s.heads.get h with
            substate :=
              if ∀ z : Zone,
                  (t.zoneOf h z).setpoint = (s.zoneConfig (zoneCh h z)).safeValue then .settled
              else .settling }

/-! ### Regulator Port -/

/-- The Regulator Port: a refresh, which every eighth tick is, marks every channel; a free port
sends the lowest-numbered pending channel with its code as it stands, records it as last sent and
clears its mark; a port that is sending waits for its word to end.  A word is six channel bits and
twelve code bits, each most significant first, and a parity bit that makes its ones odd in number.
(That a free port starts after every block has taken a tick is log entry 19's choice.) -/
def Obligations.RegulatorPortSends : Prop :=
  (∀ s : State,
      exec .regulatorRefresh s =
        .next
          (let t := s.takeUp .regulatorRefresh
          match s.reg.inHand with
          | some _ => { t with reg := { s.reg with pending := Tab.all 34 true } }
          | none =>
            { t with
              reg :=
                { s.reg with
                  last := s.reg.last.upd 0 (s.zones.get 0).code
                  pending := Tab.ofFn fun c => decide (c ≠ 0)
                  inHand := some 0 }
              regulatorOut := s.regulatorOut ++ [regulatorWord 0 (s.zones.get 0).code] })) ∧
    (∀ s : State,
      let t := s.takeUp .regulatorWordDone
      ((∀ c : Chan, s.reg.pending.get c = false) →
          exec .regulatorWordDone s = .next { t with reg := { s.reg with inHand := none } }) ∧
        ∀ c : Chan, s.reg.pending.get c = true → (∀ x < c, s.reg.pending.get x = false) →
          exec .regulatorWordDone s =
            .next
              { t with
                reg :=
                  { s.reg with
                    last := s.reg.last.upd c (s.channelCode c)
                    pending := s.reg.pending.upd c false
                    inHand := some c }
                regulatorOut := s.regulatorOut ++ [regulatorWord c (s.channelCode c)] }) ∧
    (∀ (c : Chan) (code : Nat),
      (onesIn 6 c.val + onesIn 12 code + boolCode (wordParity c code)) % 2 = 1) ∧
    (∀ (c : Chan) (code : Nat), code < 4096 →
      let w := regulatorWord c code
      (∀ i < 6, w.getMsbD i = c.val.testBit (5 - i)) ∧
        (∀ i < 12, w.getMsbD (6 + i) = code.testBit (11 - i)) ∧
        ((List.range 19).countP fun i => w.getMsbD i) % 2 = 1) ∧
    ∀ s : State, tickGoesOn s →
      ∃ t : State,
        exec .tick s = .next t ∧
          (s.reg.refresh + 1 < 8 → t.reg.refresh = s.reg.refresh + 1) ∧
          (8 ≤ s.reg.refresh + 1 →
            t.reg.refresh = 0 ∧
              (s.reg.inHand ≠ none →
                t.reg.inHand = s.reg.inHand ∧ t.reg.pending = Tab.all 34 true ∧
                  t.regulatorOut = s.regulatorOut) ∧
              (s.reg.inHand = none →
                t.reg.inHand = some 0 ∧ t.reg.pending = (Tab.all 34 true).upd 0 false ∧
                  t.regulatorOut = s.regulatorOut ++ [regulatorWord 0 (t.zones.get 0).code]))

/-! ### Gauges -/

/-- A gauge word with any other number of bits or no stop mark is FRAMING, one with an even number
of ones PARITY, one for a channel above 33 UNASSIGNED: each is raised and nothing else changes.  A
filter whose age exceeds its stale limit is marked stale once and raises GAUGE_STALE.  On a tick
each filter's age rises by 1, up to 65535, and is judged so. -/
def Obligations.GaugeErrorsRaise : Prop :=
  (∀ (w : GaugeBits) (s : State),
    let t := s.takeUp (.gaugeWord w)
    (w.bits.length ≠ 19 ∨ w.stop = false →
        exec (.gaugeWord w) s = .next (t.raise .gaugeError .gaugePort 0 0)) ∧
      (w.bits.length = 19 → w.stop = true → w.bits.count true % 2 = 0 →
        exec (.gaugeWord w) s = .next (t.raise .gaugeError .gaugePort 1 0)) ∧
      ∀ (n : Nat) (rest : List Bool), 34 ≤ n → n < 64 → rest.length = 13 → w.stop = true →
        w.bits = ((List.range 6).map fun i => n.testBit (5 - i)) ++ rest →
        w.bits.count true % 2 = 1 →
          exec (.gaugeWord w) s = .next (t.raise .gaugeError .gaugePort 2 (w16 n))) ∧
  ∀ (c : Chan) (s : State),
    let t := s.takeUp (.gaugeStale c)
    let f := s.filters.get c
    let limit := if hc : c.val < 28 then (s.zoneConfig ⟨c.val, hc⟩).staleLimit else 50
    exec (.gaugeStale c) s =
      .next
        (if f.stale = false ∧ limit < f.age then
          { t with
            filters := s.filters.upd c { f with stale := true }
            handed :=
              t.handed ++
                [.eventRaise .gaugeStale
                  (if hc : c.val < 28 then .zone ⟨c.val, hc⟩
                  else .conditioner ⟨(c.val - 28) % 3, by omega⟩)
                  (w16 c.val) (w16 f.feedback)] }
        else t) ∧
      (tickGoesOn s →
        let age := min (f.age + 1) 65535
        ∃ u : State,
          exec .tick s = .next u ∧
            u.filters.get c = { f with age := age, stale := f.stale || decide (limit < age) } ∧
            (f.stale = false → limit < age →
              .eventRaise .gaugeStale
                  (if hc : c.val < 28 then .zone ⟨c.val, hc⟩
                  else .conditioner ⟨(c.val - 28) % 3, by omega⟩)
                  (w16 c.val) (w16 f.feedback) ∈ u.handed))

/-- A good gauge word of a zone channel: the reading scaled by the range is summed until the
averaging count is complete, then their mean is the feedback, and the overpressure monitor judges
it: OVERPRESSURE and the head's notice at the debounced count above the limit.  (A count past a
lowered debounce length comes down to it, log entry 32.)  A good word of a conditioner channel is
lowered to the limit of its quantity, 4000 or 1000, and is the feedback at once; a position update
goes to the conditioner, a force update to no one. -/
def Obligations.GaugeWordOfAZone : Prop :=
  (∀ (w : GaugeBits) (c : ZoneCh) (reading : Nat) (parity : Bool) (s : State),
    reading < 4096 → w.stop = true →
    w.bits =
      ((List.range 6).map fun i => c.val.testBit (5 - i)) ++
        ((List.range 12).map fun i => reading.testBit (11 - i)) ++ [parity] →
    w.bits.count true % 2 = 1 →
      let t := s.takeUp (.gaugeWord w)
      let e := s.zoneConfig c
      let f := s.filters.get (chanOfZone c)
      let z := s.zones.get c
      let sample :=
        match e.range with
        | .fine => reading * 10
        | .coarse => reading * 16
      let fb := (f.sum + sample) / e.averaging
      let updated :=
        { t with
          filters := s.filters.upd (chanOfZone c) ⟨0, 0, fb, 0, false⟩ }
      let n := min (z.opCount + 1) (debounceLength e.opDebounce)
      exec (.gaugeWord w) s =
        .next
          (if f.count + 1 < e.averaging then
            { t with
              filters :=
                s.filters.upd (chanOfZone c)
                  { f with sum := f.sum + sample, count := f.count + 1 } }
          else if fb ≤ e.opLimit then
            { updated with zones := s.zones.upd c { z with opCount := 0, opMark := false } }
          else if z.opMark = false ∧ n = debounceLength e.opDebounce then
            { updated with
              zones := s.zones.upd c { z with opCount := n, opMark := true }
              handed :=
                t.handed ++
                  [.eventRaise .overpressure (.zone c) (w16 fb) (w16 e.opLimit),
                    .overpressureNotice (headOfZone c)] }
          else { updated with zones := s.zones.upd c { z with opCount := n } })) ∧
  ∀ (w : GaugeBits) (c : Chan) (reading : Nat) (parity : Bool) (s : State),
    28 ≤ c.val → reading < 4096 → w.stop = true →
    w.bits =
      ((List.range 6).map fun i => c.val.testBit (5 - i)) ++
        ((List.range 12).map fun i => reading.testBit (11 - i)) ++ [parity] →
    w.bits.count true % 2 = 1 →
      let t := s.takeUp (.gaugeWord w)
      let fb := (s.filters.get c).sum + min reading (if c.val < 31 then 4000 else 1000)
      exec (.gaugeWord w) s =
        .next
          { t with
            filters := s.filters.upd c ⟨0, 0, fb, 0, false⟩
            handed :=
              t.handed ++
                (if c.val < 31 then [.positionUpdate ⟨(c.val - 28) % 3, by omega⟩ fb] else []) }

/-! ### Docking and idle timers -/

/-- A new dock command with a head code: BAD_COMMAND for a code that is no head, SAME, PLATEN_TAKEN
or HEAD_BUSY, else the head moves from any other platen to this one.  One with NONE: SAME,
HEAD_BUSY, or the entry is emptied.  A dock delivery: the first sequence after a reset is learned
and not applied, the learned one is ignored, and any other makes the command a new one. -/
def Obligations.DockCommandsAreJudged : Prop :=
  (∀ (p : Platen) (x : Octet) (seq : Word16) (s : State), x ≠ 0xFF#8 →
    let t := s.takeUp (.dockCommandHead p x seq)
    (4 ≤ x.toNat →
        exec (.dockCommandHead p x seq) s =
          .next (dockAnswered p x seq .badCommand s.docks t)) ∧
      ∀ h : Head, x.toNat = h.val →
        exec (.dockCommandHead p x seq) s =
          .next
            (if (s.docks.get p).docked = some h then dockAnswered p x seq .same s.docks t
            else if (s.docks.get p).docked ≠ none then
              dockAnswered p x seq .platenTaken s.docks t
            else if (s.heads.get h).state = .running ∨ (s.heads.get h).state = .paused then
              dockAnswered p x seq .headBusy s.docks t
            else
              dockAnswered p x seq .accepted
                (Tab.ofFn fun q =>
                  if q = p then { s.docks.get q with docked := some h }
                  else if (s.docks.get q).docked = some h then
                    { s.docks.get q with docked := none }
                  else s.docks.get q)
                t)) ∧
  (∀ (p : Platen) (seq : Word16) (s : State),
      let t := s.takeUp (.dockCommandNone p seq)
      exec (.dockCommandNone p seq) s =
        .next
          (match (s.docks.get p).docked with
          | none => dockAnswered p 0xFF#8 seq .same s.docks t
          | some h =>
            if (s.heads.get h).state = .running ∨ (s.heads.get h).state = .paused then
              dockAnswered p 0xFF#8 seq .headBusy s.docks t
            else
              dockAnswered p 0xFF#8 seq .accepted
                (s.docks.upd p { s.docks.get p with docked := none }) t)) ∧
    ∀ (p : Platen) (v : DockValue) (s : State),
      let t := s.takeUp (.dockDelivery p v)
      (s.map.learnedDock.get p = none →
          exec (.dockDelivery p v) s =
            .next
              { t with
                map := { s.map with learnedDock := s.map.learnedDock.upd p (some v.seq) }
                docks :=
                  s.docks.upd p
                    { s.docks.get p with lastSeq := v.seq, lastOutcome := .learned } }) ∧
        (s.map.learnedDock.get p = some v.seq → exec (.dockDelivery p v) s = .next t) ∧
        ∀ q, s.map.learnedDock.get p = some q → q ≠ v.seq →
          .dockCommandNone p v.seq ∉ t.handed → .dockCommandHead p v.code v.seq ∉ t.handed →
            exec (.dockDelivery p v) s =
              exec
                (if v.code = 0xFF#8 then .dockCommandNone p v.seq
                else .dockCommandHead p v.code v.seq)
                t

/-- The idle timer: a reload, the settings (a new interval reloads at once), and the expiry, which
raises IDLE_WET, offers a BURST order and asks an unused sweeping conditioner to park; an interval
of 0 never expires.  The seconds fall by 1 every thousandth tick, and a timer that comes to 0
expires. -/
def Obligations.IdleTimers : Prop :=
  ∀ (p : Platen) (s : State),
    let x := s.idle.get p
    exec (.idleTimerReload p) s =
        .next
          { s.takeUp (.idleTimerReload p) with
            idle := s.idle.upd p { x with seconds := x.interval, millis := 0 } } ∧
      (∀ v : Nat,
        exec (.setIdleInterval p v) s =
            .next
              { s.takeUp (.setIdleInterval p v) with
                idle := s.idle.upd p { x with interval := v, seconds := v, millis := 0 } } ∧
          exec (.setIdleCount p v) s =
            .next
              { s.takeUp (.setIdleCount p v) with idle := s.idle.upd p { x with count := v } }) ∧
      (∀ l : Line,
        exec (.setIdleLine p l) s =
          .next { s.takeUp (.setIdleLine p l) with idle := s.idle.upd p { x with line := l } }) ∧
      exec (.idleExpiry p) s =
        .next
          (let t := s.takeUp (.idleExpiry p)
          let unused :=
            ∀ h, (s.docks.get p).docked = some h → (s.heads.get h).state ≠ .running
          if x.interval = 0 then t
          else
            { t with
              idle := s.idle.upd p { x with seconds := x.interval, millis := 0 }
              handed :=
                t.handed ++
                  [.eventRaise .idleWet (.platen p) (w16 x.line.val) (w16 x.count),
                    .orderOffer p ⟨.idleWet, x.line, x.count, .burst⟩] ++
                  (if (s.conds.get p).state = .sweeping ∧ unused then [.parkRequest p]
                  else []) }) ∧
      (tickGoesOn s →
        ∃ t : State,
          exec .tick s = .next t ∧
            t.idle.get p =
              (if x.interval = 0 then x
              else if x.millis + 1 < 1000 then { x with millis := x.millis + 1 }
              else if x.seconds ≤ 1 then { x with seconds := x.interval, millis := 0 }
              else { x with seconds := x.seconds - 1, millis := 0 }) ∧
            (x.interval ≠ 0 → 1000 ≤ x.millis + 1 → x.seconds ≤ 1 →
              .eventRaise .idleWet (.platen p) (w16 x.line.val) (w16 x.count) ∈ t.handed ∧
                .orderOffer p ⟨.idleWet, x.line, x.count, .burst⟩ ∈ t.handed))

/-! ### Dispense -/

/-- An offer: a second IDLE_WET order is declined, an offer under ESTOP or to a full queue is
dropped with ORDER_DROPPED, and any other joins at the tail with the next ordinal.  On a platen
where no line is waiting for its turn, a line that is running an order only queues it; a free line
that may run it makes it ACTIVE, and a BURST order on a line that is ready makes its first stroke at
once, as BURST_STROKE would; a disabled one, or a LINE group not verified under verify-before-run,
ends it LINE_OFF, and a low supply SUPPLY_LOW.  (That a write to this line counts as UNVERIFIED
while its notice is waiting, and no other write does, is log entry 29's.) -/
def Obligations.OffersAreJudged : Prop :=
  ∀ (p : Platen) (o : Offer) (s : State),
    let t := s.takeUp (.orderOffer p o)
    let q := s.queues.get p
    let line := s.lineOf p o.line
    let order (active : Bool) : Order :=
      ⟨q.nextOrdinal, o.source, o.line, o.count, o.mode, 0, active⟩
    let dropped (reason : Nat) : State :=
      t.raise .orderDropped (.platen p) (detail reason (orderSourceCode o.source))
        (w16 (o.line.val * 1024 + o.count))
    let declined := o.source = .idleWet ∧ ∃ x ∈ q.orders, x.source = .idleWet
    let gate : Prop :=
      s.verifier.vbr = true →
        s.verifier.line.state = .verified ∧ .line (lineIx p o.line) ∉ s.written
    let ended (status : Nat) : State :=
      { t with
        queues := s.queues.upd p ⟨q.orders, q.nextOrdinal + 1⟩
        handed :=
          t.handed ++
            [.eventRaise .orderEnded (.line (lineIx p o.line))
              (detail q.nextOrdinal.toNat status) 0] }
    (declined → exec (.orderOffer p o) s = .next t) ∧
      (¬declined → s.functionActive .estop = true →
        exec (.orderOffer p o) s = .next (dropped 0)) ∧
      (¬declined → s.functionActive .estop = false → 8 ≤ q.orders.length →
        exec (.orderOffer p o) s = .next (dropped 1)) ∧
      (¬declined → s.functionActive .estop = false → q.orders.length < 8 →
        (∀ l, q.orders.any (queuedOn l) = true → q.orders.any (activeOn l) = true) →
          (q.orders.any (activeOn o.line) = true →
              exec (.orderOffer p o) s =
                .next
                  { t with
                    queues := s.queues.upd p ⟨q.orders ++ [order false], q.nextOrdinal + 1⟩ }) ∧
            (q.orders.any (activeOn o.line) = false →
              ¬(line.config.valid = true ∧ line.config.enabled = true) →
                exec (.orderOffer p o) s = .next (ended 5)) ∧
            (q.orders.any (activeOn o.line) = false → line.config.valid = true →
              line.config.enabled = true → s.functionActive (.supplyLow p o.line) = true →
                exec (.orderOffer p o) s = .next (ended 3)) ∧
            (q.orders.any (activeOn o.line) = false → line.config.valid = true →
              line.config.enabled = true → s.functionActive (.supplyLow p o.line) = false →
              ¬gate → exec (.orderOffer p o) s = .next (ended 5)) ∧
            (q.orders.any (activeOn o.line) = false → line.config.valid = true →
              line.config.enabled = true → s.functionActive (.supplyLow p o.line) = false →
              gate →
                let activated : State :=
                  { t with
                    queues := s.queues.upd p ⟨q.orders ++ [order true], q.nextOrdinal + 1⟩ }
                (o.mode = .single ∨ line.elapsed < line.config.strokePeriod →
                    exec (.orderOffer p o) s = .next activated) ∧
                  (o.mode = .burst → line.config.strokePeriod ≤ line.elapsed →
                    ∃ u : State,
                      exec (.orderOffer p o) s = .next u ∧
                        (.burstStroke p o.line ∉ t.handed →
                          exec (.burstStroke p o.line) activated = .next u) ∧
                        (0 < o.count →
                          u.pumpOut = s.pumpOut ++ [lineIx p o.line] ∧
                            (u.lineOf p o.line).elapsed = 0 ∧
                            (u.lineOf p o.line).delivered = line.delivered + 1) ∧
                        (line.window = none → 1 < o.count →
                          (u.queues.get p).orders =
                            q.orders ++ [{ order true with strokes := 1 }]) ∧
                        (line.window = none → o.count = 1 →
                          (u.queues.get p).orders = q.orders ∧
                            .eventRaise .orderEnded (.line (lineIx p o.line))
                              (detail q.nextOrdinal.toNat 0) 1 ∈ u.handed))))

/-- The notices that end orders, and STOP_LINE: each ends the orders it names, every one with its
ORDER_ENDED and status, and the orders left are none of those; a stroke owed to an ACTIVE order so
ended is owed no more.  An order not named that is ACTIVE, or waits behind one, is left unchanged,
and so is its line.  Every line that is left without an ACTIVE order then takes its turn by R99: its
oldest order becomes ACTIVE, a BURST with its first stroke if the line is ready, and where the line
is disabled, its supply low or the LINE group not VERIFIED under verify-before-run, each of its
orders ends LINE_OFF or SUPPLY_LOW.  (What a waiting write notice counts for is log entry 29's.) -/
def Obligations.NoticesEndOrders : Prop :=
  ∀ (p : Platen) (h : Head) (l : Line) (s : State),
    ∀ x ∈
        [(Instr.stepEndNotice p h,
            (fun o : Order => decide (o.source = .step h ∧ o.mode = .single)), EndStatus.abandoned),
          (.headSafeNotice p h, (fun o => decide (o.source = .step h)), .abandoned),
          (.estopNoticeDispense p, (fun _ => true), .stopped),
          (.supplyLowNotice p l, (fun o => decide (o.line = l ∧ o.active = true)), .supplyLow),
          (.lineGroupFailedNotice p, (fun o => o.active), .lineOff),
          (.stopLineApply p l, (fun o => decide (o.line = l)), .stopped)],
      ∃ t : State,
        exec x.1 s = .next t ∧
          (∀ o ∈ (s.queues.get p).orders, x.2.1 o = true →
            .eventRaise .orderEnded (.line (lineIx p o.line))
                (detail o.ordinal.toNat (endStatusCode x.2.2)) (w16 o.strokes) ∈ t.handed) ∧
          (∀ o ∈ (s.queues.get p).orders, x.2.1 o = false →
            (o.active = true → o ∈ (t.queues.get p).orders) ∧
              ((∃ y ∈ (s.queues.get p).orders,
                  activeOn o.line y = true ∧ x.2.1 y = false) →
                o ∈ (t.queues.get p).orders) ∧
              ((∃ o' ∈ (t.queues.get p).orders,
                  o'.ordinal = o.ordinal ∧ o'.source = o.source ∧ o'.line = o.line ∧
                    o'.count = o.count ∧ o'.mode = o.mode) ∨
                ∃ st strokes,
                  .eventRaise .orderEnded (.line (lineIx p o.line)) (detail o.ordinal.toNat st)
                    strokes ∈ t.handed)) ∧
          (∀ o' ∈ (t.queues.get p).orders, ∃ o ∈ (s.queues.get p).orders,
            x.2.1 o = false ∧ o'.ordinal = o.ordinal ∧ o'.source = o.source ∧
              o'.line = o.line ∧ o'.count = o.count ∧ o'.mode = o.mode) ∧
          turnsTaken p ((s.queues.get p).orders.filter fun o => !x.2.1 o) s t ∧
          (∀ o ∈ (s.queues.get p).orders, x.2.1 o = true → o.active = true →
            (t.lineOf p o.line).owed = false) ∧
          (∀ l' : Line, (s.queues.get p).orders.any (activeOn l') = true →
            (∀ o ∈ (s.queues.get p).orders, activeOn l' o = true → x.2.1 o = false) →
              t.lineOf p l' = s.lineOf p l') ∧
          ∀ r : Platen, r ≠ p → t.queues.get r = s.queues.get r

/-- A stroke that is due for the order that a line is running: one pump actuation, the elapsed time
at 0, a new flow window, one more stroke made and delivered, and a reload for the idle timer unless
the order is IDLE_WET.  It closes the window that was open, and one that is uncredited is a miss.
The order's last stroke ends it DONE; a miss that reaches the limit ends it FLOW_FAULT, with this
stroke counted, raises FLOW_FAULT, tells the docked head where the line's action is SAFE_HEAD and
zeroes the count.  Where the order ends, every line left without an ACTIVE order takes its turn by
R99, which changes nothing while each order left waits behind a running one (what a waiting write
notice counts for is log entry 29's).  BURST_STROKE makes the stroke for an ACTIVE BURST
order, OWED_STROKE for an owed stroke, whose mark it clears; neither does anything while the line is
not ready.  On a tick the elapsed time rises by 1, up to 2000, and a stroke that falls due is made
(for a queue of one order and a closed window). -/
def Obligations.StrokesAreCounted : Prop :=
  (∀ (p : Platen) (l : Line) (older younger : List Order) (o : Order) (s : State),
    let x := s.lineOf p l
    let i := lineIx p l
    (s.queues.get p).orders = older ++ o :: younger → (∀ y ∈ older, activeOn l y = false) →
    o.active = true → o.line = l → o.strokes < o.count →
      let missed : Bool :=
        match x.window with
        | some w => !w.credited
        | none => false
      let miss := if missed = true then x.miss + 1 else x.miss
      let line (miss : Nat) (owed : Bool) : LineState :=
        { x with
          elapsed := 0, owed := owed, window := some ⟨x.config.flowWindow, false⟩, miss := miss
          delivered := x.delivered + 1 }
      let ended (st : EndStatus) : Instr :=
        .eventRaise .orderEnded (.line i) (detail o.ordinal.toNat (endStatusCode st))
          (w16 (o.strokes + 1))
      let fault : List Instr :=
        .eventRaise .flowFault (.line i) (w16 o.ordinal.toNat)
            (w16 (flowActionCode x.config.flowAction)) ::
          (match x.config.flowAction, (s.docks.get p).docked with
          | .safeHead, some h => [.flowFaultNotice h]
          | _, _ => [])
      let struck (t : State) (y : LineState) (orders : List Order) (raised : List Instr) : State :=
        { t with
          pumpOut := s.pumpOut ++ [i]
          lines := s.lines.upd i y
          queues := s.queues.upd p { s.queues.get p with orders := orders }
          handed :=
            t.handed ++ (if o.source = .idleWet then [] else [.idleTimerReload p]) ++ raised }
      let stroked (t : State) : State :=
        if missed = true ∧ x.config.missLimit ≤ miss then
          judgeOrders p
            (struck t (line 0 false) (older ++ younger) (ended .flowFault :: fault))
        else if o.strokes + 1 = o.count then
          judgeOrders p (struck t (line miss false) (older ++ younger) [ended .done])
        else
          struck t (line miss (x.owed && o.mode == .burst))
            (older ++ { o with strokes := o.strokes + 1 } :: younger) []
      (o.mode = .burst → x.config.strokePeriod ≤ x.elapsed →
          exec (.burstStroke p l) s = .next (stroked (s.takeUp (.burstStroke p l)))) ∧
        (o.mode = .single → x.owed = true → x.config.strokePeriod ≤ x.elapsed →
          exec (.owedStroke p l) s = .next (stroked (s.takeUp (.owedStroke p l)))) ∧
        (x.elapsed < x.config.strokePeriod →
          exec (.burstStroke p l) s = .next (s.takeUp (.burstStroke p l)) ∧
            exec (.owedStroke p l) s = .next (s.takeUp (.owedStroke p l))) ∧
        (tickGoesOn s → older = [] → younger = [] → x.window = none →
          let elapsed := min (x.elapsed + 1) 2000
          let due : Prop :=
            x.config.strokePeriod ≤ elapsed ∧
              ((o.mode = .burst ∧ x.owed = false) ∨ (o.mode = .single ∧ x.owed = true))
          ∃ t : State,
            exec .tick s = .next t ∧
              (due →
                (∃ a b, t.pumpOut = s.pumpOut ++ a ++ i :: b) ∧
                  t.lineOf p l = line x.miss false ∧
                  (o.strokes + 1 < o.count →
                    (t.queues.get p).orders = [{ o with strokes := o.strokes + 1 }]) ∧
                  (o.strokes + 1 = o.count →
                    (t.queues.get p).orders = [] ∧ ended .done ∈ t.handed)) ∧
              (elapsed < x.config.strokePeriod ∨ (o.mode = .single ∧ x.owed = false) →
                t.lineOf p l = { x with elapsed := elapsed } ∧ (t.queues.get p).orders = [o]))) ∧
  ∀ (p : Platen) (t : State),
    turnsTaken p (t.queues.get p).orders t (judgeOrders p t) ∧
      ((∀ y ∈ (t.queues.get p).orders, ∃ a ∈ (t.queues.get p).orders, activeOn y.line a = true) →
        judgeOrders p t = t)

/-- A cycle notice acts only from the docked head, by the Dock Table as it stands when the notice is
taken (log entry 20): with one SINGLE order ACTIVE on the platen that counts it as a trigger, a line
that is ready makes a stroke, else the stroke is owed, and a trigger that finds a stroke owed is
lost.  A BURST order, an IDLE_WET order and a STEP order of another head count no trigger.  The idle
timer is reloaded. -/
def Obligations.CycleNoticesTrigger : Prop :=
  ∀ (p : Platen) (h : Head) (s : State),
    let t := s.takeUp (.cycleNotice p h)
    let reloaded :=
      s.idle.upd p { s.idle.get p with seconds := (s.idle.get p).interval, millis := 0 }
    ((s.docks.get p).docked ≠ some h → exec (.cycleNotice p h) s = .next t) ∧
      ((s.docks.get p).docked = some h → (s.queues.get p).orders = [] →
        exec (.cycleNotice p h) s = .next { t with idle := reloaded }) ∧
      ∀ o : Order,
        (s.docks.get p).docked = some h → (s.queues.get p).orders = [o] → o.active = true →
          let x := s.lineOf p o.line
          (o.mode = .single → o.source = .step h ∨ o.source = .direct →
            (x.owed = true → exec (.cycleNotice p h) s = .next { t with idle := reloaded }) ∧
              (x.owed = false → x.elapsed < x.config.strokePeriod →
                exec (.cycleNotice p h) s =
                  .next
                    { t with
                      idle := reloaded
                      lines := s.lines.upd (lineIx p o.line) { x with owed := true } }) ∧
              (x.owed = false → x.config.strokePeriod ≤ x.elapsed → o.strokes < o.count →
                ∃ u : State,
                  exec (.cycleNotice p h) s = .next u ∧
                    u.pumpOut = s.pumpOut ++ [lineIx p o.line]) ∧
              (x.owed = false → x.config.strokePeriod ≤ x.elapsed → o.strokes + 1 < o.count →
                (∀ w, x.window = some w → w.credited = true) →
                  exec (.cycleNotice p h) s =
                    .next
                      { t with
                        pumpOut := s.pumpOut ++ [lineIx p o.line]
                        lines :=
                          s.lines.upd (lineIx p o.line)
                            { x with
                              elapsed := 0, delivered := x.delivered + 1
                              window := some ⟨x.config.flowWindow, false⟩ }
                        queues :=
                          s.queues.upd p
                            { s.queues.get p with
                              orders := [{ o with strokes := o.strokes + 1 }] }
                        handed := t.handed ++ [.idleTimerReload p]
                        idle := reloaded })) ∧
            (o.mode = .burst ∨ o.source = .idleWet ∨ (∃ h', o.source = .step h' ∧ h' ≠ h) →
              exec (.cycleNotice p h) s = .next { t with idle := reloaded })

/-- The flow check: a pulse credits an open, uncredited window once and zeroes the miss count; a
window that closes uncredited is a miss, and the miss that reaches the limit raises FLOW_FAULT,
tells the docked head where the line's action is SAFE_HEAD, and zeroes the count.  An order that the
line is running ends FLOW_FAULT first, and the lines are then judged for their turns; FLOW_FAULT
carries its ordinal, and 0xFFFF where there is none.  On a tick, of a line without an order, an open
window's remaining time falls by 1, and at 0 the window closes so. -/
def Obligations.FlowIsChecked : Prop :=
  ∀ (p : Platen) (l : Line) (s : State),
    let x := s.lineOf p l
    let i := lineIx p l
    exec (.flowPulse p l) s =
        .next
          (let t := s.takeUp (.flowPulse p l)
          match x.window with
          | some ⟨n, false⟩ =>
            { t with lines := s.lines.upd i { x with window := some ⟨n, true⟩, miss := 0 } }
          | _ => t) ∧
      (let t := s.takeUp (.flowWindowClose p l)
      (x.window = none → exec (.flowWindowClose p l) s = .next t) ∧
        ∀ w, x.window = some w →
          (w.credited = true →
              exec (.flowWindowClose p l) s =
                .next { t with lines := s.lines.upd i { x with window := none } }) ∧
            (w.credited = false → x.miss + 1 < x.config.missLimit →
              exec (.flowWindowClose p l) s =
                .next
                  { t with
                    lines := s.lines.upd i { x with window := none, miss := x.miss + 1 } }) ∧
            (w.credited = false → x.config.missLimit ≤ x.miss + 1 →
              let faulted (ordinal : Word16) : List Instr :=
                .eventRaise .flowFault (.line i) ordinal
                    (w16 (flowActionCode x.config.flowAction)) ::
                  (match x.config.flowAction, (s.docks.get p).docked with
                  | .safeHead, some h => [.flowFaultNotice h]
                  | _, _ => [])
              ((∀ o ∈ (s.queues.get p).orders, activeOn l o = false) →
                exec (.flowWindowClose p l) s =
                  .next
                    { t with
                      lines := s.lines.upd i { x with window := none, miss := 0 }
                      handed := t.handed ++ faulted 0xFFFF#16 }) ∧
                ∀ older o younger, (s.queues.get p).orders = older ++ o :: younger →
                  activeOn l o = true → (∀ y ∈ older, activeOn l y = false) →
                    exec (.flowWindowClose p l) s =
                      .next
                        (judgeOrders p
                          { t with
                            lines :=
                              s.lines.upd i { x with window := none, miss := 0, owed := false }
                            queues :=
                              s.queues.upd p
                                { s.queues.get p with orders := older ++ younger }
                            handed :=
                              t.handed ++
                                .eventRaise .orderEnded (.line i)
                                    (detail o.ordinal.toNat (endStatusCode .flowFault))
                                    (w16 o.strokes) ::
                                  faulted (w16 o.ordinal.toNat) }))) ∧
      (tickGoesOn s → x.owed = false →
        (∀ o ∈ (s.queues.get p).orders, o.line ≠ l) →
          let reaches : Prop :=
            ∃ w, x.window = some w ∧ w.remaining ≤ 1 ∧ w.credited = false ∧
              x.config.missLimit ≤ x.miss + 1
          ∃ u : State,
            exec .tick s = .next u ∧
              u.lineOf p l =
                { x with
                  elapsed := min (x.elapsed + 1) 2000
                  window :=
                    match x.window with
                    | some w =>
                      if w.remaining ≤ 1 then none
                      else some { w with remaining := w.remaining - 1 }
                    | none => none
                  miss :=
                    match x.window with
                    | some w =>
                      if 1 < w.remaining ∨ w.credited = true then x.miss
                      else if x.miss + 1 < x.config.missLimit then x.miss + 1
                      else 0
                    | none => x.miss } ∧
              (reaches →
                .eventRaise .flowFault (.line i) 0xFFFF#16
                  (w16 (flowActionCode x.config.flowAction)) ∈ u.handed))

/-! ### Conditioners -/

/-- The four conditioner commands, new: the checks of a SWEEP in their order, and the outcome of
each command by state; a sweep begins at segment 0, a command to park drives the arm to the park
position with no force.  A profile is usable if its number is at most 7, its entry valid, and every
segment record of its range valid.  Position and force outputs that change to a value other than the
one last sent mark their channels for the Regulator Port.  (That a write to the profile, or to a
record in its range, counts as UNVERIFIED while its notice is waiting is log entry 29's, and that a
FAILED group does so before its notice is taken is log entry 45's.) -/
def Obligations.ConditionerCommands : Prop :=
  ∀ (p : Platen) (k : Octet) (seq : Word16) (s : State),
    let c := s.conds.get p
    let overload := s.functionActive (.condOverload p)
    let ofProfile (i : Fin 8) (x : WrittenEntry) : Bool :=
      match x with
      | .profile j => j == i
      | .segment j =>
        decide
          ((s.profiles.get i).first ≤ j.val ∧
            j.val < (s.profiles.get i).first + (s.profiles.get i).count)
      | .zone _ | .line _ => false
    let parking (override : Bool) : Conditioner :=
      { c with
        state := .parking, substate := .none, override := override, pendingProfile := none
        target := c.parkPosition, posOut := c.parkPosition, forceOut := 0,
        timer := c.parkTimeout
        cause := if c.state = .faulted then .none else c.cause }
    exec (.sweep p k seq) s =
        .next
          (State.kickPort
            (let t := s.takeUp (.sweep p k seq)
            if c.state = .faulted then condAnswered p 1 seq .faulted c t
            else if s.functionActive .estop then condAnswered p 1 seq .estop c t
            else if overload then condAnswered p 1 seq .overloadActive c t
            else
              match s.usableProfile k with
              | none => condAnswered p 1 seq .badProfile c t
              | some i =>
                if s.verifier.vbr = true ∧
                    ¬(s.verifier.sweep.state = .verified ∧
                        ∀ x ∈ s.written, ofProfile i x = false) then
                  condAnswered p 1 seq .gated c t
                else if c.state = .sweeping then
                  condAnswered p 1 seq .accepted { c with pendingProfile := some i } t
                else
                  let r := s.segmentOf i 0
                  let c' : Conditioner :=
                    { c with
                      state := .sweeping, substate := .reaching, override := false
                      profile := some i, segment := 0, passes := 0, pendingProfile := none
                      target := r.position, posOut := r.position, forceOut := r.downforce
                      timer := (s.profiles.get i).reachTimeout }
                  condAnswered p 1 seq .accepted c'
                    ((t.driveCond p c').hand (.idleTimerReload p)))) ∧
      exec (.park p seq) s =
        .next
          (State.kickPort
            (let t := s.takeUp (.park p seq)
            match c.state with
            | .sweeping =>
              condAnswered p 2 seq .accepted (parking false) (t.driveCond p (parking false))
            | .faulted => condAnswered p 2 seq .faulted c t
            | _ => condAnswered p 2 seq .same c t)) ∧
      exec (.clearFault p seq) s =
        .next
          (State.kickPort
            (let t := s.takeUp (.clearFault p seq)
            if c.state ≠ .faulted then condAnswered p 3 seq .same c t
            else if overload then condAnswered p 3 seq .overloadActive c t
            else
              condAnswered p 3 seq .accepted (parking false) (t.driveCond p (parking false)))) ∧
      exec (.overloadAck p seq) s =
        .next
          (State.kickPort
            (let t := s.takeUp (.overloadAck p seq)
            if c.state ≠ .faulted then condAnswered p 4 seq .notFaulted c t
            else if overload then
              condAnswered p 4 seq .accepted (parking true) (t.driveCond p (parking true))
            else condAnswered p 4 seq .same c t)) ∧
      (∀ i : Fin 8,
        s.usableProfile k = some i ↔
          k.toNat = i.val ∧ (s.profiles.get i).valid = true ∧
            ∀ j < (s.profiles.get i).count,
              ∃ g : Fin 96,
                g.val = (s.profiles.get i).first + j ∧ (s.segments.get g).valid = true) ∧
      ∀ (t : State) (c' : Conditioner),
        let was := t.conds.get p
        let marks (i : Chan) : Prop :=
          (i.val = 28 + p.val ∧ c'.posOut ≠ was.posOut ∧ c'.posOut ≠ t.reg.last.get i) ∨
            (i.val = 31 + p.val ∧ c'.forceOut ≠ was.forceOut ∧ c'.forceOut ≠ t.reg.last.get i)
        t.driveCond p c' =
          { t with
            conds := t.conds.upd p c'
            reg :=
              { t.reg with
                pending := Tab.ofFn fun i => t.reg.pending.get i || decide (marks i) } }

/-- A conditioner delivery learns the first sequence after a reset, ignores the learned one, and
makes any other a new command; a code that is no command is BAD_COMMAND.  A step-start command is
judged by the same checks and table, but neither sequence nor outcome is recorded: each refusal is
raised with its reason and changes nothing, and SAME raises nothing.  (Usable profiles and the marks
of outputs that change are as the statement before this one spells them.  That a write to the
profile, or to a record in its range, counts as UNVERIFIED while its notice is waiting is log entry
29's, and that a FAILED group does so before its notice is taken is log entry 45's.) -/
def Obligations.ConditionerDeliveries : Prop :=
  (∀ (p : Platen) (v : CommandValue) (s : State),
      let t := s.takeUp (.conditionerCommandDelivery p v)
      let run := fun i : Instr => i ∉ t.handed →
        exec (.conditionerCommandDelivery p v) s = exec i t
      (s.map.learnedCond.get p = none →
          exec (.conditionerCommandDelivery p v) s =
            .next
              (State.kickPort
                { t with
                  map := { s.map with learnedCond := s.map.learnedCond.upd p (some v.seq) }
                  conds :=
                    s.conds.upd p
                      { s.conds.get p with lastSeq := v.seq, lastOutcome := .learned } })) ∧
        (s.map.learnedCond.get p = some v.seq →
          exec (.conditionerCommandDelivery p v) s = .next (State.kickPort t)) ∧
        ∀ q, s.map.learnedCond.get p = some q → q ≠ v.seq →
          (v.code = 1 → run (.sweep p v.arg v.seq)) ∧
            (v.code = 2 → run (.park p v.seq)) ∧
            (v.code = 3 → run (.clearFault p v.seq)) ∧
            (v.code = 4 → run (.overloadAck p v.seq)) ∧
            (v.code = 0 ∨ 4 < v.code.toNat →
              exec (.conditionerCommandDelivery p v) s =
                .next
                  (State.kickPort
                    (condAnswered p v.code v.seq .badCommand (s.conds.get p) t)))) ∧
    ∀ (p : Platen) (k : Octet) (s : State),
      let c := s.conds.get p
      let ofProfile (i : Fin 8) (x : WrittenEntry) : Bool :=
        match x with
        | .profile j => j == i
        | .segment j =>
          decide
            ((s.profiles.get i).first ≤ j.val ∧
              j.val < (s.profiles.get i).first + (s.profiles.get i).count)
        | .zone _ | .line _ => false
      exec (.stepConditionerCommand p (.sweep k)) s =
          .next
            (State.kickPort
              (let t := s.takeUp (.stepConditionerCommand p (.sweep k))
              let refused (reason : CondOutcome) : State :=
                t.raise .cmdRefused (.conditioner p) 1 (w16 (condOutcomeCode reason))
              if c.state = .faulted then refused .faulted
              else if s.functionActive .estop then refused .estop
              else if s.functionActive (.condOverload p) then refused .overloadActive
              else
                match s.usableProfile k with
                | none => refused .badProfile
                | some i =>
                  if s.verifier.vbr = true ∧
                      ¬(s.verifier.sweep.state = .verified ∧
                          ∀ x ∈ s.written, ofProfile i x = false) then
                    refused .gated
                  else if c.state = .sweeping then
                    { t with conds := s.conds.upd p { c with pendingProfile := some i } }
                  else
                    let r := s.segmentOf i 0
                    (t.driveCond p
                      { c with
                        state := .sweeping, substate := .reaching, override := false
                        profile := some i, segment := 0, passes := 0, pendingProfile := none
                        target := r.position, posOut := r.position, forceOut := r.downforce
                        timer := (s.profiles.get i).reachTimeout }).hand
                      (.idleTimerReload p))) ∧
        exec (.stepConditionerCommand p .park) s =
          .next
            (State.kickPort
              (let t := s.takeUp (.stepConditionerCommand p .park)
              match c.state with
              | .sweeping =>
                t.driveCond p
                  { c with
                    state := .parking, substate := .none, override := false
                    pendingProfile := none, target := c.parkPosition, posOut := c.parkPosition
                    forceOut := 0, timer := c.parkTimeout }
              | .faulted =>
                t.raise .cmdRefused (.conditioner p) 2 (w16 (condOutcomeCode .faulted))
              | .parked | .parking => t))

/-- A PARK request and the rise of ESTOP take a SWEEPING conditioner to PARKING with no force and
leave any other alone; the rise of COND_OVERLOAD takes a SWEEPING one, or one PARKING without
override, to FAULTED with no force, its position held, and COND_FAULT.  (That an overload leaves the
timer and the target as they were is log entry 21's reading.) -/
def Obligations.NoticesStopConditioners : Prop :=
  ∀ (p : Platen) (s : State),
    let c := s.conds.get p
    (∀ i ∈ [Instr.parkRequest p, .estopNoticeConditioner p],
        exec i s =
          .next
            (State.kickPort
              (if c.state = .sweeping then
                (s.takeUp i).driveCond p
                  { c with
                    state := .parking, substate := .none, override := false
                    pendingProfile := none, target := c.parkPosition, posOut := c.parkPosition
                    forceOut := 0, timer := c.parkTimeout }
              else s.takeUp i))) ∧
      exec (.condOverloadNotice p) s =
        .next
          (State.kickPort
            (let t := s.takeUp (.condOverloadNotice p)
            if c.state = .sweeping ∨ (c.state = .parking ∧ c.override = false) then
              (t.driveCond p
                  { c with
                    state := .faulted, substate := .none, override := false, cause := .overload
                    pendingProfile := none, forceOut := 0 }).raise
                .condFault (.conditioner p) 1 (w16 c.posOut)
            else t))

/-- The timers and position updates of a conditioner: a reach or park timer that ends faults it with
REACH_TIMEOUT; feedback within the band makes it DWELLING or PARKED, and one that DWELLS judges
none; the end of a dwell, which is at once where the dwell is 0, goes on to the pending profile, the
next segment, the next pass or PARKING.  On a tick a running timer falls by 1, and at 0 its end
follows. -/
def Obligations.ConditionerTimers : Prop :=
  ∀ (p : Platen) (s : State),
    let c := s.conds.get p
    let faulted : Conditioner :=
      { c with
        state := .faulted, substate := .none, override := false, cause := .reachTimeout
        pendingProfile := none, forceOut := 0, timer := 0 }
    let fault (t : State) : State :=
      (t.driveCond p faulted).raise .condFault (.conditioner p) 2 (w16 c.target)
    let segment (k : Fin 8) (n passes : Nat) (t : State) : State :=
      (t.driveCond p
          { c with
            substate := .reaching, profile := some k, segment := n, passes := passes
            pendingProfile := none
            target := (s.segmentOf k n).position, posOut := (s.segmentOf k n).position
            forceOut := (s.segmentOf k n).downforce
            timer := (s.profiles.get k).reachTimeout }).hand (.idleTimerReload p)
    let segmentEnd (k : Fin 8) (t : State) : State :=
      let n := min (c.passes + 1) 255
      match c.pendingProfile with
      | some k' => segment k' 0 0 t
      | none =>
        if c.segment + 1 < (s.profiles.get k).count then segment k (c.segment + 1) c.passes t
        else if (s.profiles.get k).repeats = 0 ∨ n < (s.profiles.get k).repeats then
          segment k 0 n t
        else
          t.driveCond p
            { c with
              state := .parking, substate := .none, override := false, passes := n
              pendingProfile := none, target := c.parkPosition, posOut := c.parkPosition
              forceOut := 0, timer := c.parkTimeout }
    exec (.reachTimeout p) s =
        .next
          (State.kickPort
            (let t := s.takeUp (.reachTimeout p)
            if c.state = .sweeping ∧ c.substate = .reaching then fault t else t)) ∧
      exec (.parkTimeout p) s =
        .next
          (State.kickPort
            (let t := s.takeUp (.parkTimeout p)
            if c.state = .parking then fault t else t)) ∧
      (let t := s.takeUp (.dwellEnd p)
      (¬(c.state = .sweeping ∧ c.substate = .dwelling) →
          exec (.dwellEnd p) s = .next (State.kickPort t)) ∧
        (c.state = .sweeping → c.substate = .dwelling → ∀ k, c.profile = some k →
          exec (.dwellEnd p) s = .next (State.kickPort (segmentEnd k t)))) ∧
      (tickGoesOn s →
        ∃ t : State,
          exec .tick s = .next t ∧
            (c.state = .parked ∨ c.state = .faulted → t.conds.get p = c) ∧
            (c.state = .sweeping ∨ c.state = .parking → 1 < c.timer →
              t.conds.get p = { c with timer := c.timer - 1 }) ∧
            (c.timer ≤ 1 →
              c.state = .parking ∨ (c.state = .sweeping ∧ c.substate = .reaching) →
                t.conds.get p = faulted ∧
                  .eventRaise .condFault (.conditioner p) 2 (w16 c.target) ∈ t.handed) ∧
            (c.timer ≤ 1 → c.state = .sweeping → c.substate = .dwelling →
              ∃ u : State, exec (.dwellEnd p) s = .next u ∧ t.conds.get p = u.conds.get p)) ∧
      ∀ fb : Nat,
        let t := s.takeUp (.positionUpdate p fb)
        let away := ((fb : Int) - c.target).natAbs
        (c.state = .parked ∨ c.state = .faulted ∨
              (c.state = .sweeping ∧ c.substate = .dwelling) →
            exec (.positionUpdate p fb) s = .next (State.kickPort t)) ∧
          (c.state = .parking →
            exec (.positionUpdate p fb) s =
              .next
                (State.kickPort
                  (if away ≤ c.parkBand then
                    { t with conds := s.conds.upd p { c with state := .parked, override := false } }
                  else t))) ∧
          (c.state = .sweeping → c.substate = .reaching → ∀ k, c.profile = some k →
            exec (.positionUpdate p fb) s =
              .next
                (State.kickPort
                  (if (s.profiles.get k).reachBand < away then t
                  else if (s.segmentOf k c.segment).dwell = 0 then segmentEnd k t
                  else
                    { t with
                      conds :=
                        s.conds.upd p
                          { c with
                            substate := .dwelling, timer := (s.segmentOf k c.segment).dwell } })))

/-! ### Tables -/

/-- Writes to the Program Store and the sweep tables: one that reaches a claimed entry, or a record
of a claimed range, is dropped with WRITE_DROPPED; any other replaces the record, valid for a WRITE
and erased to zeros for an ERASE, and tells the Table Verifier.  A release empties the head's claim.
(The entry of a profile or segment write kept beside its write notice is the model's, log entry
29.) -/
def Obligations.ClaimedRecordsAreKept : Prop :=
  ∀ s : State,
    let claimed (i : Fin 16) : Prop := ∃ h : Head, s.store.claims.get h = some i
    let swept (k : Fin 8) : Prop :=
      ∃ p : Platen,
        ((s.conds.get p).state = .sweeping ∧ (s.conds.get p).profile = some k) ∨
          (s.conds.get p).pendingProfile = some k
    let inRange (i first count : Nat) : Prop := first ≤ i ∧ i < first + count
    let drop (c : Instr) (g : Group) (t : TableId) (request : Nat) (i : Nat) : Prop :=
      exec c s =
        .next
          ((s.takeUp c).raise .writeDropped (.group g) (detail (tableCode t) request) (w16 i))
    (∀ h : Head,
        exec (.programRelease h) s =
          .next
            { s.takeUp (.programRelease h) with
              store := { s.store with claims := s.store.claims.upd h none } }) ∧
      (∀ (i : Fin 16) (e : DirEntry),
        let wrote (c : Instr) (e : DirEntry) : Prop :=
          exec c s =
            .next
              { s.takeUp c with
                store := { s.store with dir := s.store.dir.upd i e }
                handed := (s.takeUp c).handed ++ [.writeNotice .program] }
        (claimed i →
            drop (.programDirWriteApply i e) .program .programDir 2 i.val ∧
              drop (.programDirEraseApply i) .program .programDir 3 i.val) ∧
          (¬claimed i →
            wrote (.programDirWriteApply i e) { e with valid := true } ∧
              wrote (.programDirEraseApply i) ⟨false, 0, 0⟩)) ∧
      (∀ (i : Fin 96) (r : StepRecord),
        let wrote (c : Instr) (r : StepRecord) : Prop :=
          exec c s =
            .next
              { s.takeUp c with
                store := { s.store with steps := s.store.steps.upd i r }
                handed := (s.takeUp c).handed ++ [.writeNotice .program] }
        let held : Prop :=
          ∃ p, claimed p ∧ inRange i.val (s.store.dir.get p).first (s.store.dir.get p).count
        (held →
            drop (.stepWriteApply i r) .program .step 2 i.val ∧
              drop (.stepEraseApply i) .program .step 3 i.val) ∧
          (¬held →
            wrote (.stepWriteApply i r) { r with valid := true } ∧
              wrote (.stepEraseApply i) .erased)) ∧
      (∀ (k : Fin 8) (e : ProfileEntry),
        let wrote (c : Instr) (e : ProfileEntry) : Prop :=
          exec c s =
            .next
              { s.takeUp c with
                profiles := s.profiles.upd k e
                written := s.written ++ [.profile k]
                handed := (s.takeUp c).handed ++ [.writeNotice .sweep] }
        (swept k →
            drop (.profileWriteApply k e) .sweep .profile 2 k.val ∧
              drop (.profileEraseApply k) .sweep .profile 3 k.val) ∧
          (¬swept k →
            wrote (.profileWriteApply k e) { e with valid := true } ∧
              wrote (.profileEraseApply k) ⟨false, 0, 0, 0, 0, 0⟩)) ∧
      ∀ (i : Fin 96) (r : SegmentRecord),
        let wrote (c : Instr) (r : SegmentRecord) : Prop :=
          exec c s =
            .next
              { s.takeUp c with
                segments := s.segments.upd i r
                written := s.written ++ [.segment i]
                handed := (s.takeUp c).handed ++ [.writeNotice .sweep] }
        let held : Prop :=
          ∃ k, swept k ∧ inRange i.val (s.profiles.get k).first (s.profiles.get k).count
        (held →
            drop (.segmentWriteApply i r) .sweep .segment 2 i.val ∧
              drop (.segmentEraseApply i) .sweep .segment 3 i.val) ∧
          (¬held →
            wrote (.segmentWriteApply i r) { r with valid := true } ∧
              wrote (.segmentEraseApply i) ⟨false, 0, 0, 0⟩)

/-- Writes to Zone Config and Line Config: dropped while the zone's head is RUNNING or PAUSED, or
the line holds an order.  A zone's write brings the setpoint within the new limits by the head's
state, derives the code again, sets or clears SATURATED with it (raised as the code comes to 4095),
marks the channel if the code changes to a value other than the one last sent, and restarts the
feedback sum; the ramping, settle, DIFF_LIMITED and band-monitor fields stay, and in SAFE_HOLD the
substate is judged again.  A line's write clears the window and the miss count.  (The entry kept
beside the write notice is the model's, log entry 29.) -/
def Obligations.ZoneAndLineWrites : Prop :=
  (∀ (c : ZoneCh) (e : ZoneConfig) (s : State),
      let h := headOfZone c
      let r := s.heads.get h
      let old := s.zones.get c
      ∀ x ∈
          [(Instr.zoneWriteApply c e, { e with valid := true }, { e with valid := true }, 2),
            (.zoneEraseApply c, ZoneConfig.erased,
              ⟨false, .fine, 0, 0, 0, 0, 65535, 0, 0, .report, 0, 255, 1⟩, 3)],
        let t := s.takeUp x.1
        let effective : ZoneConfig := x.2.2.1
        let setpoint : Nat :=
          match r.state with
          | .idle => 0
          | .safeHold => min old.setpoint effective.ceiling
          | _ => min (max effective.floor old.setpoint) effective.ceiling
        let code : Nat :=
          min
            (match effective.range with
              | .fine => (setpoint + 5) / 10
              | .coarse => (setpoint + 8) / 16)
            4095
        let new : ZoneChannel :=
          { old with
            config := x.2.1, setpoint := setpoint, code := code
            saturated := decide (code = 4095) }
        let zones := s.zones.upd c new
        let i := chanOfZone c
        (r.state = .running ∨ r.state = .paused →
            exec x.1 s =
              .next
                (State.kickPort
                  (t.raise .writeDropped (.group .zone) (detail 3 x.2.2.2) (w16 c.val)))) ∧
          (r.state ≠ .running → r.state ≠ .paused →
            exec x.1 s =
              .next
                (State.kickPort
                  { t with
                    zones := zones
                    filters := s.filters.upd i { s.filters.get i with sum := 0, count := 0 }
                    reg :=
                      if code ≠ old.code ∧ code ≠ s.reg.last.get i then
                        { s.reg with pending := s.reg.pending.upd i true }
                      else s.reg
                    heads :=
                      if r.state = .safeHold then
                        s.heads.upd h
                          { r with
                            substate :=
                              if ∀ z : Zone,
                                  (zones.get (zoneCh h z)).setpoint =
                                    ({ s with zones := zones }.zoneConfig (zoneCh h z)).safeValue
                              then .settled
                              else .settling }
                      else s.heads
                    written := s.written ++ [.zone c]
                    handed :=
                      t.handed ++
                        (if code = 4095 ∧ old.saturated = false then
                          [.eventRaise .saturated (.zone c) (w16 setpoint)
                            (w16 (rangeCode effective.range))]
                        else []) ++
                        [.writeNotice .zone] }))) ∧
    ∀ (i : LineIx) (e : LineConfig) (s : State),
      ∀ x ∈
          [(Instr.lineWriteApply i e, { e with valid := true }, 2),
            (.lineEraseApply i, LineConfig.erased, 3)],
        let t := s.takeUp x.1
        let held : Prop :=
          ∃ o ∈ (s.queues.get (platenOfLine i)).orders, o.line = lineOfLine i
        (held →
            exec x.1 s =
              .next (t.raise .writeDropped (.group .line) (detail 4 x.2.2) (w16 i.val))) ∧
          (¬held →
            exec x.1 s =
              .next
                { t with
                  lines :=
                    s.lines.upd i { s.lines.get i with config := x.2.1, window := none, miss := 0 }
                  written := s.written ++ [.line i]
                  handed := t.handed ++ [.writeNotice .line] })

/-- Writes to the Cell Map and to an input: a map WRITE is dropped if another valid entry holds its
tag or, for TAKE, its object, and an erase never is; a write to an active input is dropped, and one
to an inactive input clears its latch and counts an asserted level as an assertion: it sets the
latch of a LATCHED entry, and an input that becomes active raises INPUT_CHANGE (its detail2 codes
are log entry 42's) and gives the rising notices of a function that becomes function-active. -/
def Obligations.MapAndInputWrites : Prop :=
  (∀ (i : Fin 128) (e : MapEntry) (s : State),
      let t := s.takeUp (.cellmapWriteApply i e)
      let bound : Prop :=
        ∃ j, j ≠ i ∧ (s.map.entries.get j).valid = true ∧
          ((s.map.entries.get j).tag = e.tag ∨
            (e.dir = .take ∧ (s.map.entries.get j).dir = .take ∧
              (s.map.entries.get j).cls = e.cls ∧ (s.map.entries.get j).inst = e.inst))
      let wrote (c : Instr) (e : MapEntry) : Prop :=
        exec c s =
          .next
            { s.takeUp c with
              map :=
                { s.map with
                  entries := s.map.entries.upd i e, seen := s.map.seen.upd i false }
              handed := (s.takeUp c).handed ++ [.writeNotice .cellmap] }
      (bound →
          exec (.cellmapWriteApply i e) s =
            .next (t.raise .writeDropped (.group .cellmap) (detail 0 2) (w16 i.val))) ∧
        (¬bound → wrote (.cellmapWriteApply i e) { e with valid := true }) ∧
        wrote (.cellmapEraseApply i) .erased) ∧
    ∀ (i : Fin 16) (e : InputConfig) (s : State),
      let u := s.inputs.get i
      (InputUnit.isActive u = true →
          exec (.inputWriteApply i e) s =
              .next
                ((s.takeUp (.inputWriteApply i e)).raise .writeDropped (.input i) (detail 7 2)
                  (w16 i.val)) ∧
            exec (.inputEraseApply i) s =
              .next
                ((s.takeUp (.inputEraseApply i)).raise .writeDropped (.input i) (detail 7 3)
                  (w16 i.val))) ∧
        (InputUnit.isActive u = false →
          exec (.inputEraseApply i) s =
              .next
                { s.takeUp (.inputEraseApply i) with
                  inputs := s.inputs.upd i { u with config := .erased, latch := false } } ∧
            let u' : InputUnit :=
              { u with
                config := { e with valid := true }
                latch := (u.filtered == e.polarity && e.mode == .latched) }
            (InputUnit.isActive u' = true ↔ u.filtered = e.polarity ∧ e.fn ≠ .none) ∧
              exec (.inputWriteApply i e) s =
                .next
                  { s.takeUp (.inputWriteApply i e) with
                    inputs := s.inputs.upd i u'
                    handed := (s.takeUp (.inputWriteApply i e)).handed ++ inputChanges i u' s })

/-! ### Table Verifier and settings -/

/-- The Table Verifier: a write notice makes a group UNVERIFIED and keeps its check word; VERIFY
sets the word and starts a scan; a scan or rescan that completes compares the CRC of the image with
the word, and a mismatch makes the group FAILED, raises TABLE_FAULT and tells the group's receivers.
A scan takes 2 ticks and a rescan 50.  (The second detail of TABLE_VERIFIED is a free value, log
entry 5; the even pace of a scan through the image is log entry 13's choice, and that one which
completes while a write notice of its group is waiting judges the tables as they stand is log entry
47's.) -/
def Obligations.GroupsAreVerified : Prop :=
  ∀ (g : Group) (s : State),
    let r := s.verifier.group g
    let crc := crc16Run r.crc ((s.groupImage g).drop r.position)
    let put (t : State) (st : GroupState) (check : Word16) : State :=
      { t with verifier := s.verifier.setGroup g ⟨st, check, 0, 0xFFFF#16, 0⟩ }
    let receivers : List Instr :=
      match g with
      | .line => (List.finRange 3).map Instr.lineGroupFailedNotice
      | .sweep => (List.finRange 3).map Instr.parkRequest
      | _ => (List.finRange 4).map Instr.tableFailedNotice
    let failed (t : State) : State :=
      { put t .failed r.check with
        handed := t.handed ++ .eventRaise .tableFault (.group g) crc r.check :: receivers }
    exec (.writeNotice g) s = .next (put (s.takeUp (.writeNotice g)) .unverified r.check) ∧
      (∀ w : Word16,
        exec (.verifyApply g w) s = .next (put (s.takeUp (.verifyApply g w)) .verifying w)) ∧
      (let t := s.takeUp (.scanComplete g)
      (r.state ≠ .verifying → exec (.scanComplete g) s = .next t) ∧
        (r.state = .verifying → crc ≠ r.check → exec (.scanComplete g) s = .next (failed t)) ∧
        (r.state = .verifying → crc = r.check →
          ∃ (u : State) (d2 : Word16),
            exec (.scanComplete g) s = .next u ∧
              u = { put t .verified r.check with
                    handed := t.handed ++ [.eventRaise .tableVerified (.group g) r.check d2]
                    free := u.free })) ∧
      exec (.rescanComplete g) s =
        .next
          (let t := s.takeUp (.rescanComplete g)
          if r.state ≠ .verified then t
          else if crc = r.check then put t .verified r.check
          else failed t) ∧
      (tickGoesOn s →
        let span : Nat := if r.state = .verifying then 2 else 50
        let position := (s.groupImage g).length * (r.ticks + 1) / span
        ∃ t : State,
          exec .tick s = .next t ∧
            (r.state ≠ .verifying → r.state ≠ .verified → t.verifier.group g = r) ∧
            (r.state = .verifying ∨ r.state = .verified →
              (r.ticks + 1 < span →
                t.verifier.group g =
                  { r with
                    ticks := r.ticks + 1, position := position
                    crc :=
                      crc16Run r.crc
                        (((s.groupImage g).drop r.position).take (position - r.position)) }) ∧
                (span ≤ r.ticks + 1 →
                  t.verifier.group g =
                      ⟨if crc = r.check then .verified else .failed, r.check, 0, 0xFFFF#16, 0⟩ ∧
                    (crc ≠ r.check →
                      .eventRaise .tableFault (.group g) crc r.check ∈ t.handed ∧
                        ∀ i ∈ receivers, i ∈ t.handed))))

/-- The checks of a SET in their order, the instance before the value, and what it stages.  Each SET
replaces its own setting and nothing else, but that CADENCE sets the violation count and the regain
run to 0 (an idle setting is stated with the idle timers). -/
def Obligations.SettingsAreReplaced : Prop :=
  (∀ (p : List Octet) (s : State), octAt p 0 = 5 → p.length = 10 →
    let j := judgeRequest p s
    let value := octAt16 p 3
    let platenSetting (code lo hi : Nat) (stage : Platen → Nat → Instr) : Prop :=
      octAt p 1 = code →
        (2 < octAt p 2 → j = refuse .badIndex) ∧
          (octAt p 2 ≤ 2 → ¬(lo ≤ value ∧ value ≤ hi) → j = refuse .badValue) ∧
          ∀ d : Platen, octAt p 2 = d.val → lo ≤ value → value ≤ hi → j = accept (stage d value)
    let express (code : Nat) (stage : Option EventKind → Instr) : Prop :=
      octAt p 1 = code →
        (octAt p 3 = 255 → j = accept (stage none)) ∧
          (24 < octAt p 3 → octAt p 3 < 255 → j = refuse .badValue) ∧
          ∀ k : EventKind, octAt p 3 = (kindCode k).val → j = accept (stage (some k))
    (10 < octAt p 1 → j = refuse .badRequest) ∧
      (octAt p 1 = 0 →
        j =
          if 250 ≤ value ∧ value ≤ 10000 ∧ 1 ≤ octAt16 p 5 ∧ octAt16 p 5 < value ∧
              value < octAt16 p 7 ∧ octAt16 p 7 ≤ 4 * value ∧ 1 ≤ octAt p 9 ∧ octAt p 9 ≤ 15 then
            accept (.setCadence value (octAt16 p 5) (octAt16 p 7) (octAt p 9))
          else refuse .badValue) ∧
      (octAt p 1 = 1 →
        j =
          if 1 < octAt p 3 then refuse .badValue
          else accept (.setVerifyBeforeRun (octAt p 3 = 1))) ∧
      express 2 .setExpressA ∧ express 3 .setExpressB ∧
      (octAt p 1 = 4 →
        (24 < octAt p 2 → j = refuse .badIndex) ∧
          (octAt p 2 ≤ 24 → 3 < octAt p 3 ∨ 1 < octAt p 4 → j = refuse .badValue) ∧
          ∀ (k : EventKind) (level : Fin 4), octAt p 2 = (kindCode k).val →
            octAt p 3 = level.val → octAt p 4 ≤ 1 →
              j = accept (.setEventKind k level (octAt p 4 = 1))) ∧
      platenSetting 5 0 3600 .setIdleInterval ∧
      (octAt p 1 = 6 →
        (2 < octAt p 2 → j = refuse .badIndex) ∧
          (octAt p 2 ≤ 2 → 3 < value → j = refuse .badValue) ∧
          ∀ (d : Platen) (l : Line), octAt p 2 = d.val → value = l.val →
            j = accept (.setIdleLine d l)) ∧
      platenSetting 7 1 1023 .setIdleCount ∧ platenSetting 8 0 4000 .setParkPosition ∧
      platenSetting 9 1 200 .setParkBand ∧ platenSetting 10 100 10000 .setParkTimeout) ∧
  ∀ s : State,
    (∀ a b c v : Nat,
        exec (.setCadence a b c v) s =
          .next
            { s.takeUp (.setCadence a b c v) with
              cadence :=
                { s.cadence with
                  period := a, early := b, late := c, limit := v, violations := 0,
                  regain := 0 } }) ∧
      (∀ on : Bool,
        exec (.setVerifyBeforeRun on) s =
          .next
            { s.takeUp (.setVerifyBeforeRun on) with verifier := { s.verifier with vbr := on } }) ∧
      (∀ k : Option EventKind,
        exec (.setExpressA k) s =
            .next
              { s.takeUp (.setExpressA k) with events := { s.events with expressA := k } } ∧
          exec (.setExpressB k) s =
            .next
              { s.takeUp (.setExpressB k) with events := { s.events with expressB := k } }) ∧
      (∀ (k : EventKind) (level : Fin 4) (on : Bool),
        exec (.setEventKind k level on) s =
          .next
            { s.takeUp (.setEventKind k level on) with
              events :=
                { s.events with
                  kinds :=
                    Tab.ofFn fun i =>
                      if i = kindCode k then ⟨level, on⟩ else s.events.kinds.get i } }) ∧
      ∀ (p : Platen) (v : Nat),
        let c := s.conds.get p
        exec (.setParkPosition p v) s =
            .next
              { s.takeUp (.setParkPosition p v) with
                conds := s.conds.upd p { c with parkPosition := v } } ∧
          exec (.setParkBand p v) s =
            .next
              { s.takeUp (.setParkBand p v) with
                conds := s.conds.upd p { c with parkBand := v } } ∧
          exec (.setParkTimeout p v) s =
            .next
              { s.takeUp (.setParkTimeout p v) with
                conds := s.conds.upd p { c with parkTimeout := v } }

/-! ### Cadence, required entries and inputs -/

/-- The Cadence Monitor at a cycle-frame notice and at a late expiry: the first frame locks it; an
early interval or an expiry is a violation, an in-window frame pays one off; V violations lose the
cadence and tell every head; eight in-window frames regain it.  (The time at which a late expiry is
taken is log entry 11's.) -/
def Obligations.CadenceIsJudged : Prop :=
  ∀ s : State,
    let c := s.cadence
    let told : List Instr := (List.finRange 4).map Instr.cadenceLostNotice
    let violated (code : Word16) (t : State) (c' : Cadence) : State :=
      match c.state with
      | .unarmed => { t with cadence := c' }
      | .locked =>
        if c.violations + 1 < c.limit then
          { t with
            cadence := { c' with violations := c.violations + 1 }
            handed :=
              t.handed ++
                [.eventRaise .cadenceViolation .device code (w16 (c.violations + 1))] }
        else
          { t with
            cadence := { c' with violations := c.violations + 1, state := .lost, regain := 0 }
            handed :=
              t.handed ++
                [.eventRaise .cadenceViolation .device code (w16 (c.violations + 1)),
                  .eventRaise .cadenceLost .device (w16 c.limit) code] ++ told }
      | .lost =>
        { t with
          cadence := { c' with regain := 0 }
          handed :=
            t.handed ++ [.eventRaise .cadenceViolation .device code (w16 c.violations)] }
    (∀ us : BitVec 32,
        let t := s.takeUp (.cycleFrameNotice us)
        let c' : Cadence :=
          { c with
            lastEnd := some us, expired := false, timer := some (us + BitVec.ofNat 32 c.late) }
        (c.state = .unarmed →
            exec (.cycleFrameNotice us) s =
              .next { t with cadence := { c' with state := .locked } }) ∧
          (c.state ≠ .unarmed → c.expired = true →
            exec (.cycleFrameNotice us) s = .next { t with cadence := c' }) ∧
          ∀ e, c.state ≠ .unarmed → c.expired = false → c.lastEnd = some e →
            ((us - e).toNat < c.early →
                exec (.cycleFrameNotice us) s = .next (violated 0 t c')) ∧
              (c.early ≤ (us - e).toNat → (us - e).toNat ≤ c.late →
                exec (.cycleFrameNotice us) s =
                  .next
                    (if c.state = .locked then
                      { t with cadence := { c' with violations := c.violations - 1 } }
                    else if c.regain + 1 < 8 then
                      { t with cadence := { c' with regain := c.regain + 1 } }
                    else
                      { t with
                        cadence := { c' with state := .locked, violations := 0, regain := 0 }
                        handed :=
                          t.handed ++ [.eventRaise .cadenceRegained .device 0 0] }))) ∧
      let t := s.takeUp .cadenceLateExpiry
      (c.timer = none → exec .cadenceLateExpiry s = .next t) ∧
        ∀ e, c.timer = some e →
          ∃ (us : BitVec 32) (phase : Nat),
            exec .cadenceLateExpiry s =
                .next
                  (violated 1 { t with us := us, phase := phase }
                    { c with expired := true, timer := some (e + BitVec.ofNat 32 c.late) }) ∧
              (s.phase + (e - s.us).toNat < 1000 →
                us = e ∧ phase = s.phase + (e - s.us).toNat)

/-- The judgement of required entries: each one filled is marked seen; each one not filled raises
MISSING_CELL once after it was seen, and its mark is cleared; every other entry is left alone. -/
def Obligations.RequiredEntriesAreJudged : Prop :=
  ∀ (filled : List (Fin 128)) (s : State),
    let t := s.takeUp (.requiredEntryJudgement filled)
    let required (e : Fin 128) : Bool :=
      (s.map.entries.get e).valid && (s.map.entries.get e).dir == .take &&
        (s.map.entries.get e).required
    exec (.requiredEntryJudgement filled) s =
      .next
        { t with
          map :=
            { s.map with
              seen :=
                Tab.ofFn fun e => if required e then decide (e ∈ filled) else s.map.seen.get e }
          handed :=
            t.handed ++
              (List.finRange 128).filterMap fun e =>
                if required e ∧ e ∉ filled ∧ s.map.seen.get e = true then
                  some
                    (.eventRaise .missingCell (.mapEntry e) (s.map.entries.get e).tag
                      (w16 (classCode (s.map.entries.get e).cls)))
                else none }

/-- A level that stands on the pin already changes nothing (log entry 43).  A raw level that changes
restarts the stability count, and settles at once where the filter is 0 (the count is then 0, log
entry 36).  A filtered level that changes takes the raw one, sets the latch of a LATCHED input at
the rise of an assertion, raises INPUT_CHANGE when the active state changes, and an ESTOP,
SUPPLY_LOW or COND_OVERLOAD that becomes function-active tells its receivers; the stability count
stays (log entry 22, and the codes in INPUT_CHANGE's detail2 are log entry 42's).  On a tick an
unsettled input is counted, up to 15, and settles at its filter time (also where a lowered filter
leaves the count past it, log entry 35).  CLEAR_INPUT of an asserted input is dropped and of another
clears its latch. -/
def Obligations.InputsAreFiltered : Prop :=
  ∀ (i : Fin 16) (s : State),
    let u := s.inputs.get i
    let settled (x : InputUnit) : InputUnit :=
      { x with
        filtered := x.raw
        latch := x.latch || (x.raw == x.config.polarity && x.config.mode == .latched) }
    let becomes (t : State) (u' : InputUnit) : State :=
      { t with inputs := s.inputs.upd i u', handed := t.handed ++ inputChanges i u' s }
    (∀ level : Bool,
        let t := s.takeUp (.inputLevelChange i level)
        let raw := { u with raw := level, stability := 0 }
        (level = u.raw → exec (.inputLevelChange i level) s = .next t) ∧
          (level ≠ u.raw → level = u.filtered ∨ u.config.filter ≠ 0 →
            exec (.inputLevelChange i level) s =
              .next { t with inputs := s.inputs.upd i raw }) ∧
          (level ≠ u.raw → level ≠ u.filtered → u.config.filter = 0 →
            exec (.inputLevelChange i level) s = .next (becomes t (settled raw)))) ∧
      (let t := s.takeUp (.inputFilterSettled i)
      (u.raw = u.filtered → exec (.inputFilterSettled i) s = .next t) ∧
        (u.raw ≠ u.filtered →
          exec (.inputFilterSettled i) s = .next (becomes t (settled u)))) ∧
      (tickGoesOn s →
        let counted := { u with stability := min (u.stability + 1) 15 }
        let settles : Prop := u.raw ≠ u.filtered ∧ u.config.filter ≤ u.stability + 1
        ∃ t : State,
          exec .tick s = .next t ∧
            (u.raw = u.filtered → t.inputs.get i = u) ∧
            (u.raw ≠ u.filtered → u.stability + 1 < u.config.filter →
              t.inputs.get i = counted) ∧
            (settles →
              t.inputs.get i = settled counted ∧
                (InputUnit.isActive (settled counted) ≠ InputUnit.isActive u →
                  .eventRaise .inputChange (.input i) (inputDetail u.config)
                    (detail (boolCode (InputUnit.isActive (settled counted)))
                      (boolCode (u.raw == u.config.polarity))) ∈ t.handed))) ∧
      (u.filtered = u.config.polarity →
        exec (.clearInputApply i) s =
          .next
            ((s.takeUp (.clearInputApply i)).raise .writeDropped (.input i) 0xFF09#16
              (w16 i.val))) ∧
      (u.filtered ≠ u.config.polarity →
        exec (.clearInputApply i) s =
          .next (becomes (s.takeUp (.clearInputApply i)) { u with latch := false }))

/-! ### Event Queue -/

/-- A raise of a kind that is off changes nothing; one that finds a QUEUED record of its kind and
source is counted in it; a new record joins a queue with room under the last good sequence (of that
moment, log entry 46), and in a
full one it takes the place of the youngest QUEUED record of the lowest rank if that is below its
own, else it is lost.  A release drops a frame's records.  A return takes them oldest first, each on
the queue that those before it left: one whose kind and source no QUEUED record has is QUEUED in its
place, and else the two merge into the older one's place: repeats summed with one more and lost
counts summed, each up to 255, under the younger one's details. -/
def Obligations.EventsAreQueued : Prop :=
  (∀ (k : EventKind) (src : Source) (d1 d2 : Word16) (s : State),
      let t := s.takeUp (.eventRaise k src d1 d2)
      let q := s.events
      let rank := rankOf q k
      let new : EventRecord := ⟨k, rank, src, d1, d2, s.ring.lastGood, 0, 0, none⟩
      let same (r : EventRecord) : Prop := r.flight = none ∧ r.kind = k ∧ r.source = src
      let put (q' : EventQueue) : Prop :=
        exec (.eventRaise k src d1 d2) s = .next { t with events := q' }
      ((q.kinds.get (kindCode k)).enable = false → put q) ∧
        ((q.kinds.get (kindCode k)).enable = true →
          (∀ older r younger, q.records = older ++ r :: younger → same r →
              (∀ y ∈ older, ¬same y) →
                put
                  { q with
                    records :=
                      older ++
                        { r with
                          repeats := min (r.repeats + 1) 255, detail1 := d1, detail2 := d2 } ::
                          younger }) ∧
            ((∀ r ∈ q.records, ¬same r) → q.records.length < 32 →
              put { q with records := q.records ++ [new] }) ∧
            ((∀ r ∈ q.records, ¬same r) → 32 ≤ q.records.length →
              ((∀ r ∈ q.records, r.flight = none → rank ≤ r.rank) →
                  put { q with lost := min (q.lost + 1) 255 }) ∧
                ∀ older r younger, q.records = older ++ r :: younger → r.flight = none →
                  r.rank < rank → (∀ y ∈ older, y.flight = none → r.rank ≤ y.rank) →
                  (∀ y ∈ younger, y.flight = none → r.rank < y.rank) →
                    put
                      { q with
                        records := older ++ younger ++ [new], lost := min (q.lost + 1) 255 }))) ∧
    ∀ (frame : Nat) (s : State),
      exec (.eventRelease frame) s =
          .next
            { s.takeUp (.eventRelease frame) with
              events :=
                { s.events with
                  records := s.events.records.filter fun r => r.flight ≠ some frame } } ∧
        (∃ l,
          exec (.eventReturn frame) s =
            .next
              { s.takeUp (.eventReturn frame) with events := { s.events with records := l } }) ∧
        ((∀ r ∈ s.events.records, r.flight ≠ some frame) →
          exec (.eventReturn frame) s = .next (s.takeUp (.eventReturn frame))) ∧
        ∀ (a b : List EventRecord) (r : EventRecord),
          s.events.records = a ++ r :: b → r.flight = some frame →
          (∀ x ∈ a, x.flight ≠ some frame) →
            let same (x : EventRecord) : Prop :=
              x.flight = none ∧ x.kind = r.kind ∧ x.source = r.source
            let merged (older younger : EventRecord) : EventRecord :=
              { older with
                repeats := min (older.repeats + younger.repeats + 1) 255
                lost := min (older.lost + younger.lost) 255
                detail1 := younger.detail1, detail2 := younger.detail2, flight := none }
            let goesOnFrom (l : List EventRecord) : Prop :=
              exec (.eventReturn frame) s =
                exec (.eventReturn frame) { s with events := { s.events with records := l } }
            ((∀ x ∈ a ++ b, ¬same x) → goesOnFrom (a ++ { r with flight := none } :: b)) ∧
              (∀ a1 y a2, a = a1 ++ y :: a2 → same y → (∀ x ∈ a1, ¬same x) →
                goesOnFrom (a1 ++ merged y r :: a2 ++ b)) ∧
              ∀ b1 y b2, b = b1 ++ y :: b2 → same y → (∀ x ∈ a ++ b1, ¬same x) →
                goesOnFrom (a ++ merged r y :: b1 ++ b2)

/-! ### Invariants -/

/-- Law 8: after every step the Event Queue holds at most 32 records, and no two QUEUED records are
of one kind and source. -/
def Obligations.EventLawKept : Prop :=
  ∀ s t : State, eventLaw s → step s = .next t → eventLaw t

/-- Law 2 and Law 1: after every step each code is its setpoint rounded by its range, no setpoint
lies above its zone's ceiling, and the setpoints of a RUNNING, PAUSED or DONE head lie at or above
their floors, but where the head has just left IDLE without a first stage 4: by the START row alone,
or paused by a HOLD before it (log entry 38).  A free Regulator Port never leaves a mark pending. -/
def Obligations.SetpointLawsKept : Prop :=
  (∀ s t : State, codeLaw s → step s = .next t → codeLaw t) ∧
    (∀ s t : State,
      commandsGood s → stagedLaw s → ceilingLaw s → step s = .next t → ceilingLaw t) ∧
    (∀ s t : State, portLaw s → step s = .next t → portLaw t) ∧
    ∀ s t : State, commandsGood s → stagedLaw s → floorLaw s → step s = .next t →
      (∀ c : ZoneCh, (t.zoneConfig c).floor ≤ (t.zoneConfig c).ceiling) ∧
        ∀ h : Head,
          (s.heads.get h).state ≠ .idle ∨
              ((t.heads.get h).state ≠ .paused ∧
                ∃ d rest,
                  s.pending = .cycleDelivery h d :: rest ∨
                    (s.pending = [] ∧ s.handed = .cycleDelivery h d :: rest)) →
            atFloors h t

/-- Law 5: after every step a RUNNING or PAUSED head is docked, and no head stands in two
entries. -/
def Obligations.DockLawKept : Prop :=
  ∀ s t : State, dockLaw s → step s = .next t → dockLaw t

/-- Law 7: after every step a platen's queue holds at most eight orders, a line has at most one
ACTIVE order, and no order has made more strokes than its count. -/
def Obligations.QueueLawKept : Prop :=
  ∀ s t : State, queueLaw s → step s = .next t → queueLaw t

/-- Laws 6 and 10 are kept by every step, and requests stay in range.  While a head is RUNNING or
PAUSED, a step that does not take a release of it keeps its claim, and with it its program's entry
and the records of that entry's range; none is waiting between the blocks for such a head.  The
violation count never exceeds V, and while the cadence is LOST a head is RUNNING or PAUSED only
until it takes the notice that waits for it.  After a step taken on well-formed commands, what is
staged or handed carries records and settings within their checks, and no step stages a fifth
request.  (That notices and releases wait between the blocks is the model's, log entry 2; that a
START takes a waiting release of its head first is log entry 8's.) -/
def Obligations.StagedAndCadenceLawsKept : Prop :=
  ∀ s t : State,
    step s = .next t →
      (commandsGood s → stagedLaw s → commandsGood t ∧ stagedLaw t) ∧
        (commandsGood s → stagedLaw s → cadenceLaw s → cadenceLaw t) ∧
        (slotsLaw s → slotsLaw t) ∧ (lostLaw s → lostLaw t) ∧
        ((∀ h : Head, (s.heads.get h).isActive = true →
            s.pending.head? ≠ some (.programRelease h)) →
          claimLaw s → claimLaw t) ∧
        ∀ (h : Head) (p : Fin 16),
          (s.heads.get h).isActive = true → (t.heads.get h).isActive = true →
          (s.heads.get h).program = some p → s.store.claims.get h = some p →
          (s.pending ++ s.handed).head? ≠ some (.programRelease h) →
            (t.heads.get h).program = some p ∧ t.store.claims.get h = some p ∧
              t.store.dir.get p = s.store.dir.get p ∧
              ∀ i : Fin 96,
                (s.store.dir.get p).first ≤ i.val →
                i.val < (s.store.dir.get p).first + (s.store.dir.get p).count →
                  t.store.steps.get i = s.store.steps.get i

/-- Right after power-on reset every law of Sys2Proof.Safety holds. -/
def Obligations.ResetKeepsEveryLaw : Prop :=
  codeLaw State.reset ∧ ceilingLaw State.reset ∧ dockLaw State.reset ∧ queueLaw State.reset ∧
    eventLaw State.reset ∧ cadenceLaw State.reset ∧ stagedLaw State.reset ∧
    slotsLaw State.reset ∧ commandsGood State.reset ∧ floorLaw State.reset ∧ portLaw State.reset ∧
    lostLaw State.reset ∧ claimLaw State.reset
end

