-- ==== Sys2Proof/Laws/State.lean ====
section
/-! SUPPORT. One lemma per field of `State` for each update: the field it replaces, and every field
it leaves.  The proofs of later lemmas never unfold a record update. -/

namespace Sys2Proof.Machine

open Sys2Proof

/-! ### Tables -/

@[simp] theorem Tab.get_upd_same {n : Nat} {α : Type} (t : Tab n α) (i : Fin n) (x : α) :
    (t.upd i x).get i = x := by
  simp [Tab.get, Tab.upd]

theorem Tab.get_upd_ne {n : Nat} {α : Type} (t : Tab n α) {i j : Fin n} (x : α) (h : i ≠ j) :
    (t.upd i x).get j = t.get j := by
  have h' : i.val ≠ j.val := fun e => h (Fin.ext e)
  simp [Tab.get, Tab.upd, h']

theorem Tab.get_upd {n : Nat} {α : Type} (t : Tab n α) (i j : Fin n) (x : α) :
    (t.upd i x).get j = if i = j then x else t.get j := by
  by_cases h : i = j
  · subst h; simp
  · simp [Tab.get_upd_ne t x h, h]

@[simp] theorem Tab.get_all {n : Nat} {α : Type} (x : α) (i : Fin n) : (Tab.all n x).get i = x := by
  simp [Tab.get, Tab.all]

@[simp] theorem Tab.get_mapT {n : Nat} {α β : Type} (f : α → β) (t : Tab n α) (i : Fin n) :
    (t.mapT f).get i = f (t.get i) := by
  simp [Tab.get, Tab.mapT, Vector.getElem_mk]

@[simp] theorem Tab.get_ofFn {n : Nat} {α : Type} (f : Fin n → α) (i : Fin n) :
    (Tab.ofFn f).get i = f i := by
  simp [Tab.get, Tab.ofFn, Vector.getElem_mk]

/-- Two tables with equal entries are equal. -/
theorem Tab.ext_get {n : Nat} {α : Type} {t u : Tab n α} (h : ∀ i, t.get i = u.get i) : t = u := by
  apply Vector.ext
  intro i hi
  exact h ⟨i, hi⟩

@[simp] theorem Tab.upd_get_same {n : Nat} {α : Type} (t : Tab n α) (i : Fin n) :
    t.upd i (t.get i) = t := by
  apply Tab.ext_get
  intro j
  rw [Tab.get_upd]
  split
  · next h => rw [h]
  · rfl

/-! ### `setHead` -/

@[simp] theorem State.setHead_pending (s : State) (h : Head) (x : HeadRecord) :
    (s.setHead h x).pending = s.pending := rfl

@[simp] theorem State.setHead_handed (s : State) (h : Head) (x : HeadRecord) :
    (s.setHead h x).handed = s.handed := rfl

@[simp] theorem State.setHead_awaiting (s : State) (h : Head) (x : HeadRecord) :
    (s.setHead h x).awaiting = s.awaiting := rfl

@[simp] theorem State.setHead_written (s : State) (h : Head) (x : HeadRecord) :
    (s.setHead h x).written = s.written := rfl

@[simp] theorem State.setHead_ring (s : State) (h : Head) (x : HeadRecord) :
    (s.setHead h x).ring = s.ring := rfl

@[simp] theorem State.setHead_map (s : State) (h : Head) (x : HeadRecord) :
    (s.setHead h x).map = s.map := rfl

@[simp] theorem State.setHead_store (s : State) (h : Head) (x : HeadRecord) :
    (s.setHead h x).store = s.store := rfl

@[simp] theorem State.setHead_heads (s : State) (h : Head) (x : HeadRecord) :
    (s.setHead h x).heads = s.heads.upd h x := rfl

@[simp] theorem State.setHead_zones (s : State) (h : Head) (x : HeadRecord) :
    (s.setHead h x).zones = s.zones := rfl

@[simp] theorem State.setHead_filters (s : State) (h : Head) (x : HeadRecord) :
    (s.setHead h x).filters = s.filters := rfl

@[simp] theorem State.setHead_reg (s : State) (h : Head) (x : HeadRecord) :
    (s.setHead h x).reg = s.reg := rfl

@[simp] theorem State.setHead_docks (s : State) (h : Head) (x : HeadRecord) :
    (s.setHead h x).docks = s.docks := rfl

@[simp] theorem State.setHead_idle (s : State) (h : Head) (x : HeadRecord) :
    (s.setHead h x).idle = s.idle := rfl

@[simp] theorem State.setHead_queues (s : State) (h : Head) (x : HeadRecord) :
    (s.setHead h x).queues = s.queues := rfl

@[simp] theorem State.setHead_lines (s : State) (h : Head) (x : HeadRecord) :
    (s.setHead h x).lines = s.lines := rfl

@[simp] theorem State.setHead_conds (s : State) (h : Head) (x : HeadRecord) :
    (s.setHead h x).conds = s.conds := rfl

@[simp] theorem State.setHead_profiles (s : State) (h : Head) (x : HeadRecord) :
    (s.setHead h x).profiles = s.profiles := rfl

@[simp] theorem State.setHead_segments (s : State) (h : Head) (x : HeadRecord) :
    (s.setHead h x).segments = s.segments := rfl

@[simp] theorem State.setHead_cadence (s : State) (h : Head) (x : HeadRecord) :
    (s.setHead h x).cadence = s.cadence := rfl

@[simp] theorem State.setHead_inputs (s : State) (h : Head) (x : HeadRecord) :
    (s.setHead h x).inputs = s.inputs := rfl

@[simp] theorem State.setHead_verifier (s : State) (h : Head) (x : HeadRecord) :
    (s.setHead h x).verifier = s.verifier := rfl

@[simp] theorem State.setHead_events (s : State) (h : Head) (x : HeadRecord) :
    (s.setHead h x).events = s.events := rfl

@[simp] theorem State.setHead_us (s : State) (h : Head) (x : HeadRecord) :
    (s.setHead h x).us = s.us := rfl

@[simp] theorem State.setHead_phase (s : State) (h : Head) (x : HeadRecord) :
    (s.setHead h x).phase = s.phase := rfl

@[simp] theorem State.setHead_free (s : State) (h : Head) (x : HeadRecord) :
    (s.setHead h x).free = s.free := rfl

@[simp] theorem State.setHead_portB (s : State) (h : Head) (x : HeadRecord) :
    (s.setHead h x).portB = s.portB := rfl

@[simp] theorem State.setHead_regulatorOut (s : State) (h : Head) (x : HeadRecord) :
    (s.setHead h x).regulatorOut = s.regulatorOut := rfl

@[simp] theorem State.setHead_pumpOut (s : State) (h : Head) (x : HeadRecord) :
    (s.setHead h x).pumpOut = s.pumpOut := rfl

/-! ### `setZone` -/

@[simp] theorem State.setZone_pending (s : State) (c : ZoneCh) (x : ZoneChannel) :
    (s.setZone c x).pending = s.pending := rfl

@[simp] theorem State.setZone_handed (s : State) (c : ZoneCh) (x : ZoneChannel) :
    (s.setZone c x).handed = s.handed := rfl

@[simp] theorem State.setZone_awaiting (s : State) (c : ZoneCh) (x : ZoneChannel) :
    (s.setZone c x).awaiting = s.awaiting := rfl

@[simp] theorem State.setZone_written (s : State) (c : ZoneCh) (x : ZoneChannel) :
    (s.setZone c x).written = s.written := rfl

@[simp] theorem State.setZone_ring (s : State) (c : ZoneCh) (x : ZoneChannel) :
    (s.setZone c x).ring = s.ring := rfl

@[simp] theorem State.setZone_map (s : State) (c : ZoneCh) (x : ZoneChannel) :
    (s.setZone c x).map = s.map := rfl

@[simp] theorem State.setZone_store (s : State) (c : ZoneCh) (x : ZoneChannel) :
    (s.setZone c x).store = s.store := rfl

@[simp] theorem State.setZone_heads (s : State) (c : ZoneCh) (x : ZoneChannel) :
    (s.setZone c x).heads = s.heads := rfl

@[simp] theorem State.setZone_zones (s : State) (c : ZoneCh) (x : ZoneChannel) :
    (s.setZone c x).zones = s.zones.upd c x := rfl

@[simp] theorem State.setZone_filters (s : State) (c : ZoneCh) (x : ZoneChannel) :
    (s.setZone c x).filters = s.filters := rfl

@[simp] theorem State.setZone_reg (s : State) (c : ZoneCh) (x : ZoneChannel) :
    (s.setZone c x).reg = s.reg := rfl

@[simp] theorem State.setZone_docks (s : State) (c : ZoneCh) (x : ZoneChannel) :
    (s.setZone c x).docks = s.docks := rfl

@[simp] theorem State.setZone_idle (s : State) (c : ZoneCh) (x : ZoneChannel) :
    (s.setZone c x).idle = s.idle := rfl

@[simp] theorem State.setZone_queues (s : State) (c : ZoneCh) (x : ZoneChannel) :
    (s.setZone c x).queues = s.queues := rfl

@[simp] theorem State.setZone_lines (s : State) (c : ZoneCh) (x : ZoneChannel) :
    (s.setZone c x).lines = s.lines := rfl

@[simp] theorem State.setZone_conds (s : State) (c : ZoneCh) (x : ZoneChannel) :
    (s.setZone c x).conds = s.conds := rfl

@[simp] theorem State.setZone_profiles (s : State) (c : ZoneCh) (x : ZoneChannel) :
    (s.setZone c x).profiles = s.profiles := rfl

@[simp] theorem State.setZone_segments (s : State) (c : ZoneCh) (x : ZoneChannel) :
    (s.setZone c x).segments = s.segments := rfl

@[simp] theorem State.setZone_cadence (s : State) (c : ZoneCh) (x : ZoneChannel) :
    (s.setZone c x).cadence = s.cadence := rfl

@[simp] theorem State.setZone_inputs (s : State) (c : ZoneCh) (x : ZoneChannel) :
    (s.setZone c x).inputs = s.inputs := rfl

@[simp] theorem State.setZone_verifier (s : State) (c : ZoneCh) (x : ZoneChannel) :
    (s.setZone c x).verifier = s.verifier := rfl

@[simp] theorem State.setZone_events (s : State) (c : ZoneCh) (x : ZoneChannel) :
    (s.setZone c x).events = s.events := rfl

@[simp] theorem State.setZone_us (s : State) (c : ZoneCh) (x : ZoneChannel) :
    (s.setZone c x).us = s.us := rfl

@[simp] theorem State.setZone_phase (s : State) (c : ZoneCh) (x : ZoneChannel) :
    (s.setZone c x).phase = s.phase := rfl

@[simp] theorem State.setZone_free (s : State) (c : ZoneCh) (x : ZoneChannel) :
    (s.setZone c x).free = s.free := rfl

@[simp] theorem State.setZone_portB (s : State) (c : ZoneCh) (x : ZoneChannel) :
    (s.setZone c x).portB = s.portB := rfl

@[simp] theorem State.setZone_regulatorOut (s : State) (c : ZoneCh) (x : ZoneChannel) :
    (s.setZone c x).regulatorOut = s.regulatorOut := rfl

@[simp] theorem State.setZone_pumpOut (s : State) (c : ZoneCh) (x : ZoneChannel) :
    (s.setZone c x).pumpOut = s.pumpOut := rfl

/-! ### `setFilter` -/

@[simp] theorem State.setFilter_pending (s : State) (c : Chan) (x : Filter) :
    (s.setFilter c x).pending = s.pending := rfl

@[simp] theorem State.setFilter_handed (s : State) (c : Chan) (x : Filter) :
    (s.setFilter c x).handed = s.handed := rfl

@[simp] theorem State.setFilter_awaiting (s : State) (c : Chan) (x : Filter) :
    (s.setFilter c x).awaiting = s.awaiting := rfl

@[simp] theorem State.setFilter_written (s : State) (c : Chan) (x : Filter) :
    (s.setFilter c x).written = s.written := rfl

@[simp] theorem State.setFilter_ring (s : State) (c : Chan) (x : Filter) :
    (s.setFilter c x).ring = s.ring := rfl

@[simp] theorem State.setFilter_map (s : State) (c : Chan) (x : Filter) :
    (s.setFilter c x).map = s.map := rfl

@[simp] theorem State.setFilter_store (s : State) (c : Chan) (x : Filter) :
    (s.setFilter c x).store = s.store := rfl

@[simp] theorem State.setFilter_heads (s : State) (c : Chan) (x : Filter) :
    (s.setFilter c x).heads = s.heads := rfl

@[simp] theorem State.setFilter_zones (s : State) (c : Chan) (x : Filter) :
    (s.setFilter c x).zones = s.zones := rfl

@[simp] theorem State.setFilter_filters (s : State) (c : Chan) (x : Filter) :
    (s.setFilter c x).filters = s.filters.upd c x := rfl

@[simp] theorem State.setFilter_reg (s : State) (c : Chan) (x : Filter) :
    (s.setFilter c x).reg = s.reg := rfl

@[simp] theorem State.setFilter_docks (s : State) (c : Chan) (x : Filter) :
    (s.setFilter c x).docks = s.docks := rfl

@[simp] theorem State.setFilter_idle (s : State) (c : Chan) (x : Filter) :
    (s.setFilter c x).idle = s.idle := rfl

@[simp] theorem State.setFilter_queues (s : State) (c : Chan) (x : Filter) :
    (s.setFilter c x).queues = s.queues := rfl

@[simp] theorem State.setFilter_lines (s : State) (c : Chan) (x : Filter) :
    (s.setFilter c x).lines = s.lines := rfl

@[simp] theorem State.setFilter_conds (s : State) (c : Chan) (x : Filter) :
    (s.setFilter c x).conds = s.conds := rfl

@[simp] theorem State.setFilter_profiles (s : State) (c : Chan) (x : Filter) :
    (s.setFilter c x).profiles = s.profiles := rfl

@[simp] theorem State.setFilter_segments (s : State) (c : Chan) (x : Filter) :
    (s.setFilter c x).segments = s.segments := rfl

@[simp] theorem State.setFilter_cadence (s : State) (c : Chan) (x : Filter) :
    (s.setFilter c x).cadence = s.cadence := rfl

@[simp] theorem State.setFilter_inputs (s : State) (c : Chan) (x : Filter) :
    (s.setFilter c x).inputs = s.inputs := rfl

@[simp] theorem State.setFilter_verifier (s : State) (c : Chan) (x : Filter) :
    (s.setFilter c x).verifier = s.verifier := rfl

@[simp] theorem State.setFilter_events (s : State) (c : Chan) (x : Filter) :
    (s.setFilter c x).events = s.events := rfl

@[simp] theorem State.setFilter_us (s : State) (c : Chan) (x : Filter) :
    (s.setFilter c x).us = s.us := rfl

@[simp] theorem State.setFilter_phase (s : State) (c : Chan) (x : Filter) :
    (s.setFilter c x).phase = s.phase := rfl

@[simp] theorem State.setFilter_free (s : State) (c : Chan) (x : Filter) :
    (s.setFilter c x).free = s.free := rfl

@[simp] theorem State.setFilter_portB (s : State) (c : Chan) (x : Filter) :
    (s.setFilter c x).portB = s.portB := rfl

@[simp] theorem State.setFilter_regulatorOut (s : State) (c : Chan) (x : Filter) :
    (s.setFilter c x).regulatorOut = s.regulatorOut := rfl

@[simp] theorem State.setFilter_pumpOut (s : State) (c : Chan) (x : Filter) :
    (s.setFilter c x).pumpOut = s.pumpOut := rfl

/-! ### `setDock` -/

@[simp] theorem State.setDock_pending (s : State) (p : Platen) (x : DockEntry) :
    (s.setDock p x).pending = s.pending := rfl

@[simp] theorem State.setDock_handed (s : State) (p : Platen) (x : DockEntry) :
    (s.setDock p x).handed = s.handed := rfl

@[simp] theorem State.setDock_awaiting (s : State) (p : Platen) (x : DockEntry) :
    (s.setDock p x).awaiting = s.awaiting := rfl

@[simp] theorem State.setDock_written (s : State) (p : Platen) (x : DockEntry) :
    (s.setDock p x).written = s.written := rfl

@[simp] theorem State.setDock_ring (s : State) (p : Platen) (x : DockEntry) :
    (s.setDock p x).ring = s.ring := rfl

@[simp] theorem State.setDock_map (s : State) (p : Platen) (x : DockEntry) :
    (s.setDock p x).map = s.map := rfl

@[simp] theorem State.setDock_store (s : State) (p : Platen) (x : DockEntry) :
    (s.setDock p x).store = s.store := rfl

@[simp] theorem State.setDock_heads (s : State) (p : Platen) (x : DockEntry) :
    (s.setDock p x).heads = s.heads := rfl

@[simp] theorem State.setDock_zones (s : State) (p : Platen) (x : DockEntry) :
    (s.setDock p x).zones = s.zones := rfl

@[simp] theorem State.setDock_filters (s : State) (p : Platen) (x : DockEntry) :
    (s.setDock p x).filters = s.filters := rfl

@[simp] theorem State.setDock_reg (s : State) (p : Platen) (x : DockEntry) :
    (s.setDock p x).reg = s.reg := rfl

@[simp] theorem State.setDock_docks (s : State) (p : Platen) (x : DockEntry) :
    (s.setDock p x).docks = s.docks.upd p x := rfl

@[simp] theorem State.setDock_idle (s : State) (p : Platen) (x : DockEntry) :
    (s.setDock p x).idle = s.idle := rfl

@[simp] theorem State.setDock_queues (s : State) (p : Platen) (x : DockEntry) :
    (s.setDock p x).queues = s.queues := rfl

@[simp] theorem State.setDock_lines (s : State) (p : Platen) (x : DockEntry) :
    (s.setDock p x).lines = s.lines := rfl

@[simp] theorem State.setDock_conds (s : State) (p : Platen) (x : DockEntry) :
    (s.setDock p x).conds = s.conds := rfl

@[simp] theorem State.setDock_profiles (s : State) (p : Platen) (x : DockEntry) :
    (s.setDock p x).profiles = s.profiles := rfl

@[simp] theorem State.setDock_segments (s : State) (p : Platen) (x : DockEntry) :
    (s.setDock p x).segments = s.segments := rfl

@[simp] theorem State.setDock_cadence (s : State) (p : Platen) (x : DockEntry) :
    (s.setDock p x).cadence = s.cadence := rfl

@[simp] theorem State.setDock_inputs (s : State) (p : Platen) (x : DockEntry) :
    (s.setDock p x).inputs = s.inputs := rfl

@[simp] theorem State.setDock_verifier (s : State) (p : Platen) (x : DockEntry) :
    (s.setDock p x).verifier = s.verifier := rfl

@[simp] theorem State.setDock_events (s : State) (p : Platen) (x : DockEntry) :
    (s.setDock p x).events = s.events := rfl

@[simp] theorem State.setDock_us (s : State) (p : Platen) (x : DockEntry) :
    (s.setDock p x).us = s.us := rfl

@[simp] theorem State.setDock_phase (s : State) (p : Platen) (x : DockEntry) :
    (s.setDock p x).phase = s.phase := rfl

@[simp] theorem State.setDock_free (s : State) (p : Platen) (x : DockEntry) :
    (s.setDock p x).free = s.free := rfl

@[simp] theorem State.setDock_portB (s : State) (p : Platen) (x : DockEntry) :
    (s.setDock p x).portB = s.portB := rfl

@[simp] theorem State.setDock_regulatorOut (s : State) (p : Platen) (x : DockEntry) :
    (s.setDock p x).regulatorOut = s.regulatorOut := rfl

@[simp] theorem State.setDock_pumpOut (s : State) (p : Platen) (x : DockEntry) :
    (s.setDock p x).pumpOut = s.pumpOut := rfl

/-! ### `setIdle` -/

@[simp] theorem State.setIdle_pending (s : State) (p : Platen) (x : IdleTimer) :
    (s.setIdle p x).pending = s.pending := rfl

@[simp] theorem State.setIdle_handed (s : State) (p : Platen) (x : IdleTimer) :
    (s.setIdle p x).handed = s.handed := rfl

@[simp] theorem State.setIdle_awaiting (s : State) (p : Platen) (x : IdleTimer) :
    (s.setIdle p x).awaiting = s.awaiting := rfl

@[simp] theorem State.setIdle_written (s : State) (p : Platen) (x : IdleTimer) :
    (s.setIdle p x).written = s.written := rfl

@[simp] theorem State.setIdle_ring (s : State) (p : Platen) (x : IdleTimer) :
    (s.setIdle p x).ring = s.ring := rfl

@[simp] theorem State.setIdle_map (s : State) (p : Platen) (x : IdleTimer) :
    (s.setIdle p x).map = s.map := rfl

@[simp] theorem State.setIdle_store (s : State) (p : Platen) (x : IdleTimer) :
    (s.setIdle p x).store = s.store := rfl

@[simp] theorem State.setIdle_heads (s : State) (p : Platen) (x : IdleTimer) :
    (s.setIdle p x).heads = s.heads := rfl

@[simp] theorem State.setIdle_zones (s : State) (p : Platen) (x : IdleTimer) :
    (s.setIdle p x).zones = s.zones := rfl

@[simp] theorem State.setIdle_filters (s : State) (p : Platen) (x : IdleTimer) :
    (s.setIdle p x).filters = s.filters := rfl

@[simp] theorem State.setIdle_reg (s : State) (p : Platen) (x : IdleTimer) :
    (s.setIdle p x).reg = s.reg := rfl

@[simp] theorem State.setIdle_docks (s : State) (p : Platen) (x : IdleTimer) :
    (s.setIdle p x).docks = s.docks := rfl

@[simp] theorem State.setIdle_idle (s : State) (p : Platen) (x : IdleTimer) :
    (s.setIdle p x).idle = s.idle.upd p x := rfl

@[simp] theorem State.setIdle_queues (s : State) (p : Platen) (x : IdleTimer) :
    (s.setIdle p x).queues = s.queues := rfl

@[simp] theorem State.setIdle_lines (s : State) (p : Platen) (x : IdleTimer) :
    (s.setIdle p x).lines = s.lines := rfl

@[simp] theorem State.setIdle_conds (s : State) (p : Platen) (x : IdleTimer) :
    (s.setIdle p x).conds = s.conds := rfl

@[simp] theorem State.setIdle_profiles (s : State) (p : Platen) (x : IdleTimer) :
    (s.setIdle p x).profiles = s.profiles := rfl

@[simp] theorem State.setIdle_segments (s : State) (p : Platen) (x : IdleTimer) :
    (s.setIdle p x).segments = s.segments := rfl

@[simp] theorem State.setIdle_cadence (s : State) (p : Platen) (x : IdleTimer) :
    (s.setIdle p x).cadence = s.cadence := rfl

@[simp] theorem State.setIdle_inputs (s : State) (p : Platen) (x : IdleTimer) :
    (s.setIdle p x).inputs = s.inputs := rfl

@[simp] theorem State.setIdle_verifier (s : State) (p : Platen) (x : IdleTimer) :
    (s.setIdle p x).verifier = s.verifier := rfl

@[simp] theorem State.setIdle_events (s : State) (p : Platen) (x : IdleTimer) :
    (s.setIdle p x).events = s.events := rfl

@[simp] theorem State.setIdle_us (s : State) (p : Platen) (x : IdleTimer) :
    (s.setIdle p x).us = s.us := rfl

@[simp] theorem State.setIdle_phase (s : State) (p : Platen) (x : IdleTimer) :
    (s.setIdle p x).phase = s.phase := rfl

@[simp] theorem State.setIdle_free (s : State) (p : Platen) (x : IdleTimer) :
    (s.setIdle p x).free = s.free := rfl

@[simp] theorem State.setIdle_portB (s : State) (p : Platen) (x : IdleTimer) :
    (s.setIdle p x).portB = s.portB := rfl

@[simp] theorem State.setIdle_regulatorOut (s : State) (p : Platen) (x : IdleTimer) :
    (s.setIdle p x).regulatorOut = s.regulatorOut := rfl

@[simp] theorem State.setIdle_pumpOut (s : State) (p : Platen) (x : IdleTimer) :
    (s.setIdle p x).pumpOut = s.pumpOut := rfl

/-! ### `setQueue` -/

@[simp] theorem State.setQueue_pending (s : State) (p : Platen) (x : DispenseQueue) :
    (s.setQueue p x).pending = s.pending := rfl

@[simp] theorem State.setQueue_handed (s : State) (p : Platen) (x : DispenseQueue) :
    (s.setQueue p x).handed = s.handed := rfl

@[simp] theorem State.setQueue_awaiting (s : State) (p : Platen) (x : DispenseQueue) :
    (s.setQueue p x).awaiting = s.awaiting := rfl

@[simp] theorem State.setQueue_written (s : State) (p : Platen) (x : DispenseQueue) :
    (s.setQueue p x).written = s.written := rfl

@[simp] theorem State.setQueue_ring (s : State) (p : Platen) (x : DispenseQueue) :
    (s.setQueue p x).ring = s.ring := rfl

@[simp] theorem State.setQueue_map (s : State) (p : Platen) (x : DispenseQueue) :
    (s.setQueue p x).map = s.map := rfl

@[simp] theorem State.setQueue_store (s : State) (p : Platen) (x : DispenseQueue) :
    (s.setQueue p x).store = s.store := rfl

@[simp] theorem State.setQueue_heads (s : State) (p : Platen) (x : DispenseQueue) :
    (s.setQueue p x).heads = s.heads := rfl

@[simp] theorem State.setQueue_zones (s : State) (p : Platen) (x : DispenseQueue) :
    (s.setQueue p x).zones = s.zones := rfl

@[simp] theorem State.setQueue_filters (s : State) (p : Platen) (x : DispenseQueue) :
    (s.setQueue p x).filters = s.filters := rfl

@[simp] theorem State.setQueue_reg (s : State) (p : Platen) (x : DispenseQueue) :
    (s.setQueue p x).reg = s.reg := rfl

@[simp] theorem State.setQueue_docks (s : State) (p : Platen) (x : DispenseQueue) :
    (s.setQueue p x).docks = s.docks := rfl

@[simp] theorem State.setQueue_idle (s : State) (p : Platen) (x : DispenseQueue) :
    (s.setQueue p x).idle = s.idle := rfl

@[simp] theorem State.setQueue_queues (s : State) (p : Platen) (x : DispenseQueue) :
    (s.setQueue p x).queues = s.queues.upd p x := rfl

@[simp] theorem State.setQueue_lines (s : State) (p : Platen) (x : DispenseQueue) :
    (s.setQueue p x).lines = s.lines := rfl

@[simp] theorem State.setQueue_conds (s : State) (p : Platen) (x : DispenseQueue) :
    (s.setQueue p x).conds = s.conds := rfl

@[simp] theorem State.setQueue_profiles (s : State) (p : Platen) (x : DispenseQueue) :
    (s.setQueue p x).profiles = s.profiles := rfl

@[simp] theorem State.setQueue_segments (s : State) (p : Platen) (x : DispenseQueue) :
    (s.setQueue p x).segments = s.segments := rfl

@[simp] theorem State.setQueue_cadence (s : State) (p : Platen) (x : DispenseQueue) :
    (s.setQueue p x).cadence = s.cadence := rfl

@[simp] theorem State.setQueue_inputs (s : State) (p : Platen) (x : DispenseQueue) :
    (s.setQueue p x).inputs = s.inputs := rfl

@[simp] theorem State.setQueue_verifier (s : State) (p : Platen) (x : DispenseQueue) :
    (s.setQueue p x).verifier = s.verifier := rfl

@[simp] theorem State.setQueue_events (s : State) (p : Platen) (x : DispenseQueue) :
    (s.setQueue p x).events = s.events := rfl

@[simp] theorem State.setQueue_us (s : State) (p : Platen) (x : DispenseQueue) :
    (s.setQueue p x).us = s.us := rfl

@[simp] theorem State.setQueue_phase (s : State) (p : Platen) (x : DispenseQueue) :
    (s.setQueue p x).phase = s.phase := rfl

@[simp] theorem State.setQueue_free (s : State) (p : Platen) (x : DispenseQueue) :
    (s.setQueue p x).free = s.free := rfl

@[simp] theorem State.setQueue_portB (s : State) (p : Platen) (x : DispenseQueue) :
    (s.setQueue p x).portB = s.portB := rfl

@[simp] theorem State.setQueue_regulatorOut (s : State) (p : Platen) (x : DispenseQueue) :
    (s.setQueue p x).regulatorOut = s.regulatorOut := rfl

@[simp] theorem State.setQueue_pumpOut (s : State) (p : Platen) (x : DispenseQueue) :
    (s.setQueue p x).pumpOut = s.pumpOut := rfl

/-! ### `setOrders` -/

@[simp] theorem State.setOrders_pending (s : State) (p : Platen) (x : List Order) :
    (s.setOrders p x).pending = s.pending := rfl

@[simp] theorem State.setOrders_handed (s : State) (p : Platen) (x : List Order) :
    (s.setOrders p x).handed = s.handed := rfl

@[simp] theorem State.setOrders_awaiting (s : State) (p : Platen) (x : List Order) :
    (s.setOrders p x).awaiting = s.awaiting := rfl

@[simp] theorem State.setOrders_written (s : State) (p : Platen) (x : List Order) :
    (s.setOrders p x).written = s.written := rfl

@[simp] theorem State.setOrders_ring (s : State) (p : Platen) (x : List Order) :
    (s.setOrders p x).ring = s.ring := rfl

@[simp] theorem State.setOrders_map (s : State) (p : Platen) (x : List Order) :
    (s.setOrders p x).map = s.map := rfl

@[simp] theorem State.setOrders_store (s : State) (p : Platen) (x : List Order) :
    (s.setOrders p x).store = s.store := rfl

@[simp] theorem State.setOrders_heads (s : State) (p : Platen) (x : List Order) :
    (s.setOrders p x).heads = s.heads := rfl

@[simp] theorem State.setOrders_zones (s : State) (p : Platen) (x : List Order) :
    (s.setOrders p x).zones = s.zones := rfl

@[simp] theorem State.setOrders_filters (s : State) (p : Platen) (x : List Order) :
    (s.setOrders p x).filters = s.filters := rfl

@[simp] theorem State.setOrders_reg (s : State) (p : Platen) (x : List Order) :
    (s.setOrders p x).reg = s.reg := rfl

@[simp] theorem State.setOrders_docks (s : State) (p : Platen) (x : List Order) :
    (s.setOrders p x).docks = s.docks := rfl

@[simp] theorem State.setOrders_idle (s : State) (p : Platen) (x : List Order) :
    (s.setOrders p x).idle = s.idle := rfl

@[simp] theorem State.setOrders_queues (s : State) (p : Platen) (x : List Order) :
    (s.setOrders p x).queues = s.queues.upd p { s.queues.get p with orders := x } := rfl

@[simp] theorem State.setOrders_lines (s : State) (p : Platen) (x : List Order) :
    (s.setOrders p x).lines = s.lines := rfl

@[simp] theorem State.setOrders_conds (s : State) (p : Platen) (x : List Order) :
    (s.setOrders p x).conds = s.conds := rfl

@[simp] theorem State.setOrders_profiles (s : State) (p : Platen) (x : List Order) :
    (s.setOrders p x).profiles = s.profiles := rfl

@[simp] theorem State.setOrders_segments (s : State) (p : Platen) (x : List Order) :
    (s.setOrders p x).segments = s.segments := rfl

@[simp] theorem State.setOrders_cadence (s : State) (p : Platen) (x : List Order) :
    (s.setOrders p x).cadence = s.cadence := rfl

@[simp] theorem State.setOrders_inputs (s : State) (p : Platen) (x : List Order) :
    (s.setOrders p x).inputs = s.inputs := rfl

@[simp] theorem State.setOrders_verifier (s : State) (p : Platen) (x : List Order) :
    (s.setOrders p x).verifier = s.verifier := rfl

@[simp] theorem State.setOrders_events (s : State) (p : Platen) (x : List Order) :
    (s.setOrders p x).events = s.events := rfl

@[simp] theorem State.setOrders_us (s : State) (p : Platen) (x : List Order) :
    (s.setOrders p x).us = s.us := rfl

@[simp] theorem State.setOrders_phase (s : State) (p : Platen) (x : List Order) :
    (s.setOrders p x).phase = s.phase := rfl

@[simp] theorem State.setOrders_free (s : State) (p : Platen) (x : List Order) :
    (s.setOrders p x).free = s.free := rfl

@[simp] theorem State.setOrders_portB (s : State) (p : Platen) (x : List Order) :
    (s.setOrders p x).portB = s.portB := rfl

@[simp] theorem State.setOrders_regulatorOut (s : State) (p : Platen) (x : List Order) :
    (s.setOrders p x).regulatorOut = s.regulatorOut := rfl

@[simp] theorem State.setOrders_pumpOut (s : State) (p : Platen) (x : List Order) :
    (s.setOrders p x).pumpOut = s.pumpOut := rfl

/-! ### `setLine` -/

@[simp] theorem State.setLine_pending (s : State) (i : LineIx) (x : LineState) :
    (s.setLine i x).pending = s.pending := rfl

@[simp] theorem State.setLine_handed (s : State) (i : LineIx) (x : LineState) :
    (s.setLine i x).handed = s.handed := rfl

@[simp] theorem State.setLine_awaiting (s : State) (i : LineIx) (x : LineState) :
    (s.setLine i x).awaiting = s.awaiting := rfl

@[simp] theorem State.setLine_written (s : State) (i : LineIx) (x : LineState) :
    (s.setLine i x).written = s.written := rfl

@[simp] theorem State.setLine_ring (s : State) (i : LineIx) (x : LineState) :
    (s.setLine i x).ring = s.ring := rfl

@[simp] theorem State.setLine_map (s : State) (i : LineIx) (x : LineState) :
    (s.setLine i x).map = s.map := rfl

@[simp] theorem State.setLine_store (s : State) (i : LineIx) (x : LineState) :
    (s.setLine i x).store = s.store := rfl

@[simp] theorem State.setLine_heads (s : State) (i : LineIx) (x : LineState) :
    (s.setLine i x).heads = s.heads := rfl

@[simp] theorem State.setLine_zones (s : State) (i : LineIx) (x : LineState) :
    (s.setLine i x).zones = s.zones := rfl

@[simp] theorem State.setLine_filters (s : State) (i : LineIx) (x : LineState) :
    (s.setLine i x).filters = s.filters := rfl

@[simp] theorem State.setLine_reg (s : State) (i : LineIx) (x : LineState) :
    (s.setLine i x).reg = s.reg := rfl

@[simp] theorem State.setLine_docks (s : State) (i : LineIx) (x : LineState) :
    (s.setLine i x).docks = s.docks := rfl

@[simp] theorem State.setLine_idle (s : State) (i : LineIx) (x : LineState) :
    (s.setLine i x).idle = s.idle := rfl

@[simp] theorem State.setLine_queues (s : State) (i : LineIx) (x : LineState) :
    (s.setLine i x).queues = s.queues := rfl

@[simp] theorem State.setLine_lines (s : State) (i : LineIx) (x : LineState) :
    (s.setLine i x).lines = s.lines.upd i x := rfl

@[simp] theorem State.setLine_conds (s : State) (i : LineIx) (x : LineState) :
    (s.setLine i x).conds = s.conds := rfl

@[simp] theorem State.setLine_profiles (s : State) (i : LineIx) (x : LineState) :
    (s.setLine i x).profiles = s.profiles := rfl

@[simp] theorem State.setLine_segments (s : State) (i : LineIx) (x : LineState) :
    (s.setLine i x).segments = s.segments := rfl

@[simp] theorem State.setLine_cadence (s : State) (i : LineIx) (x : LineState) :
    (s.setLine i x).cadence = s.cadence := rfl

@[simp] theorem State.setLine_inputs (s : State) (i : LineIx) (x : LineState) :
    (s.setLine i x).inputs = s.inputs := rfl

@[simp] theorem State.setLine_verifier (s : State) (i : LineIx) (x : LineState) :
    (s.setLine i x).verifier = s.verifier := rfl

@[simp] theorem State.setLine_events (s : State) (i : LineIx) (x : LineState) :
    (s.setLine i x).events = s.events := rfl

@[simp] theorem State.setLine_us (s : State) (i : LineIx) (x : LineState) :
    (s.setLine i x).us = s.us := rfl

@[simp] theorem State.setLine_phase (s : State) (i : LineIx) (x : LineState) :
    (s.setLine i x).phase = s.phase := rfl

@[simp] theorem State.setLine_free (s : State) (i : LineIx) (x : LineState) :
    (s.setLine i x).free = s.free := rfl

@[simp] theorem State.setLine_portB (s : State) (i : LineIx) (x : LineState) :
    (s.setLine i x).portB = s.portB := rfl

@[simp] theorem State.setLine_regulatorOut (s : State) (i : LineIx) (x : LineState) :
    (s.setLine i x).regulatorOut = s.regulatorOut := rfl

@[simp] theorem State.setLine_pumpOut (s : State) (i : LineIx) (x : LineState) :
    (s.setLine i x).pumpOut = s.pumpOut := rfl

/-! ### `setLineOf` -/

@[simp] theorem State.setLineOf_pending (s : State) (p : Platen) (l : Line) (x : LineState) :
    (s.setLineOf p l x).pending = s.pending := rfl

@[simp] theorem State.setLineOf_handed (s : State) (p : Platen) (l : Line) (x : LineState) :
    (s.setLineOf p l x).handed = s.handed := rfl

@[simp] theorem State.setLineOf_awaiting (s : State) (p : Platen) (l : Line) (x : LineState) :
    (s.setLineOf p l x).awaiting = s.awaiting := rfl

@[simp] theorem State.setLineOf_written (s : State) (p : Platen) (l : Line) (x : LineState) :
    (s.setLineOf p l x).written = s.written := rfl

@[simp] theorem State.setLineOf_ring (s : State) (p : Platen) (l : Line) (x : LineState) :
    (s.setLineOf p l x).ring = s.ring := rfl

@[simp] theorem State.setLineOf_map (s : State) (p : Platen) (l : Line) (x : LineState) :
    (s.setLineOf p l x).map = s.map := rfl

@[simp] theorem State.setLineOf_store (s : State) (p : Platen) (l : Line) (x : LineState) :
    (s.setLineOf p l x).store = s.store := rfl

@[simp] theorem State.setLineOf_heads (s : State) (p : Platen) (l : Line) (x : LineState) :
    (s.setLineOf p l x).heads = s.heads := rfl

@[simp] theorem State.setLineOf_zones (s : State) (p : Platen) (l : Line) (x : LineState) :
    (s.setLineOf p l x).zones = s.zones := rfl

@[simp] theorem State.setLineOf_filters (s : State) (p : Platen) (l : Line) (x : LineState) :
    (s.setLineOf p l x).filters = s.filters := rfl

@[simp] theorem State.setLineOf_reg (s : State) (p : Platen) (l : Line) (x : LineState) :
    (s.setLineOf p l x).reg = s.reg := rfl

@[simp] theorem State.setLineOf_docks (s : State) (p : Platen) (l : Line) (x : LineState) :
    (s.setLineOf p l x).docks = s.docks := rfl

@[simp] theorem State.setLineOf_idle (s : State) (p : Platen) (l : Line) (x : LineState) :
    (s.setLineOf p l x).idle = s.idle := rfl

@[simp] theorem State.setLineOf_queues (s : State) (p : Platen) (l : Line) (x : LineState) :
    (s.setLineOf p l x).queues = s.queues := rfl

@[simp] theorem State.setLineOf_lines (s : State) (p : Platen) (l : Line) (x : LineState) :
    (s.setLineOf p l x).lines = s.lines.upd (lineIx p l) x := rfl

@[simp] theorem State.setLineOf_conds (s : State) (p : Platen) (l : Line) (x : LineState) :
    (s.setLineOf p l x).conds = s.conds := rfl

@[simp] theorem State.setLineOf_profiles (s : State) (p : Platen) (l : Line) (x : LineState) :
    (s.setLineOf p l x).profiles = s.profiles := rfl

@[simp] theorem State.setLineOf_segments (s : State) (p : Platen) (l : Line) (x : LineState) :
    (s.setLineOf p l x).segments = s.segments := rfl

@[simp] theorem State.setLineOf_cadence (s : State) (p : Platen) (l : Line) (x : LineState) :
    (s.setLineOf p l x).cadence = s.cadence := rfl

@[simp] theorem State.setLineOf_inputs (s : State) (p : Platen) (l : Line) (x : LineState) :
    (s.setLineOf p l x).inputs = s.inputs := rfl

@[simp] theorem State.setLineOf_verifier (s : State) (p : Platen) (l : Line) (x : LineState) :
    (s.setLineOf p l x).verifier = s.verifier := rfl

@[simp] theorem State.setLineOf_events (s : State) (p : Platen) (l : Line) (x : LineState) :
    (s.setLineOf p l x).events = s.events := rfl

@[simp] theorem State.setLineOf_us (s : State) (p : Platen) (l : Line) (x : LineState) :
    (s.setLineOf p l x).us = s.us := rfl

@[simp] theorem State.setLineOf_phase (s : State) (p : Platen) (l : Line) (x : LineState) :
    (s.setLineOf p l x).phase = s.phase := rfl

@[simp] theorem State.setLineOf_free (s : State) (p : Platen) (l : Line) (x : LineState) :
    (s.setLineOf p l x).free = s.free := rfl

@[simp] theorem State.setLineOf_portB (s : State) (p : Platen) (l : Line) (x : LineState) :
    (s.setLineOf p l x).portB = s.portB := rfl

@[simp] theorem State.setLineOf_regulatorOut (s : State) (p : Platen) (l : Line) (x : LineState) :
    (s.setLineOf p l x).regulatorOut = s.regulatorOut := rfl

@[simp] theorem State.setLineOf_pumpOut (s : State) (p : Platen) (l : Line) (x : LineState) :
    (s.setLineOf p l x).pumpOut = s.pumpOut := rfl

/-! ### `setCond` -/

@[simp] theorem State.setCond_pending (s : State) (p : Platen) (x : Conditioner) :
    (s.setCond p x).pending = s.pending := rfl

@[simp] theorem State.setCond_handed (s : State) (p : Platen) (x : Conditioner) :
    (s.setCond p x).handed = s.handed := rfl

@[simp] theorem State.setCond_awaiting (s : State) (p : Platen) (x : Conditioner) :
    (s.setCond p x).awaiting = s.awaiting := rfl

@[simp] theorem State.setCond_written (s : State) (p : Platen) (x : Conditioner) :
    (s.setCond p x).written = s.written := rfl

@[simp] theorem State.setCond_ring (s : State) (p : Platen) (x : Conditioner) :
    (s.setCond p x).ring = s.ring := rfl

@[simp] theorem State.setCond_map (s : State) (p : Platen) (x : Conditioner) :
    (s.setCond p x).map = s.map := rfl

@[simp] theorem State.setCond_store (s : State) (p : Platen) (x : Conditioner) :
    (s.setCond p x).store = s.store := rfl

@[simp] theorem State.setCond_heads (s : State) (p : Platen) (x : Conditioner) :
    (s.setCond p x).heads = s.heads := rfl

@[simp] theorem State.setCond_zones (s : State) (p : Platen) (x : Conditioner) :
    (s.setCond p x).zones = s.zones := rfl

@[simp] theorem State.setCond_filters (s : State) (p : Platen) (x : Conditioner) :
    (s.setCond p x).filters = s.filters := rfl

@[simp] theorem State.setCond_reg (s : State) (p : Platen) (x : Conditioner) :
    (s.setCond p x).reg = s.reg := rfl

@[simp] theorem State.setCond_docks (s : State) (p : Platen) (x : Conditioner) :
    (s.setCond p x).docks = s.docks := rfl

@[simp] theorem State.setCond_idle (s : State) (p : Platen) (x : Conditioner) :
    (s.setCond p x).idle = s.idle := rfl

@[simp] theorem State.setCond_queues (s : State) (p : Platen) (x : Conditioner) :
    (s.setCond p x).queues = s.queues := rfl

@[simp] theorem State.setCond_lines (s : State) (p : Platen) (x : Conditioner) :
    (s.setCond p x).lines = s.lines := rfl

@[simp] theorem State.setCond_conds (s : State) (p : Platen) (x : Conditioner) :
    (s.setCond p x).conds = s.conds.upd p x := rfl

@[simp] theorem State.setCond_profiles (s : State) (p : Platen) (x : Conditioner) :
    (s.setCond p x).profiles = s.profiles := rfl

@[simp] theorem State.setCond_segments (s : State) (p : Platen) (x : Conditioner) :
    (s.setCond p x).segments = s.segments := rfl

@[simp] theorem State.setCond_cadence (s : State) (p : Platen) (x : Conditioner) :
    (s.setCond p x).cadence = s.cadence := rfl

@[simp] theorem State.setCond_inputs (s : State) (p : Platen) (x : Conditioner) :
    (s.setCond p x).inputs = s.inputs := rfl

@[simp] theorem State.setCond_verifier (s : State) (p : Platen) (x : Conditioner) :
    (s.setCond p x).verifier = s.verifier := rfl

@[simp] theorem State.setCond_events (s : State) (p : Platen) (x : Conditioner) :
    (s.setCond p x).events = s.events := rfl

@[simp] theorem State.setCond_us (s : State) (p : Platen) (x : Conditioner) :
    (s.setCond p x).us = s.us := rfl

@[simp] theorem State.setCond_phase (s : State) (p : Platen) (x : Conditioner) :
    (s.setCond p x).phase = s.phase := rfl

@[simp] theorem State.setCond_free (s : State) (p : Platen) (x : Conditioner) :
    (s.setCond p x).free = s.free := rfl

@[simp] theorem State.setCond_portB (s : State) (p : Platen) (x : Conditioner) :
    (s.setCond p x).portB = s.portB := rfl

@[simp] theorem State.setCond_regulatorOut (s : State) (p : Platen) (x : Conditioner) :
    (s.setCond p x).regulatorOut = s.regulatorOut := rfl

@[simp] theorem State.setCond_pumpOut (s : State) (p : Platen) (x : Conditioner) :
    (s.setCond p x).pumpOut = s.pumpOut := rfl

/-! ### `setInput` -/

@[simp] theorem State.setInput_pending (s : State) (i : Fin 16) (x : InputUnit) :
    (s.setInput i x).pending = s.pending := rfl

@[simp] theorem State.setInput_handed (s : State) (i : Fin 16) (x : InputUnit) :
    (s.setInput i x).handed = s.handed := rfl

@[simp] theorem State.setInput_awaiting (s : State) (i : Fin 16) (x : InputUnit) :
    (s.setInput i x).awaiting = s.awaiting := rfl

@[simp] theorem State.setInput_written (s : State) (i : Fin 16) (x : InputUnit) :
    (s.setInput i x).written = s.written := rfl

@[simp] theorem State.setInput_ring (s : State) (i : Fin 16) (x : InputUnit) :
    (s.setInput i x).ring = s.ring := rfl

@[simp] theorem State.setInput_map (s : State) (i : Fin 16) (x : InputUnit) :
    (s.setInput i x).map = s.map := rfl

@[simp] theorem State.setInput_store (s : State) (i : Fin 16) (x : InputUnit) :
    (s.setInput i x).store = s.store := rfl

@[simp] theorem State.setInput_heads (s : State) (i : Fin 16) (x : InputUnit) :
    (s.setInput i x).heads = s.heads := rfl

@[simp] theorem State.setInput_zones (s : State) (i : Fin 16) (x : InputUnit) :
    (s.setInput i x).zones = s.zones := rfl

@[simp] theorem State.setInput_filters (s : State) (i : Fin 16) (x : InputUnit) :
    (s.setInput i x).filters = s.filters := rfl

@[simp] theorem State.setInput_reg (s : State) (i : Fin 16) (x : InputUnit) :
    (s.setInput i x).reg = s.reg := rfl

@[simp] theorem State.setInput_docks (s : State) (i : Fin 16) (x : InputUnit) :
    (s.setInput i x).docks = s.docks := rfl

@[simp] theorem State.setInput_idle (s : State) (i : Fin 16) (x : InputUnit) :
    (s.setInput i x).idle = s.idle := rfl

@[simp] theorem State.setInput_queues (s : State) (i : Fin 16) (x : InputUnit) :
    (s.setInput i x).queues = s.queues := rfl

@[simp] theorem State.setInput_lines (s : State) (i : Fin 16) (x : InputUnit) :
    (s.setInput i x).lines = s.lines := rfl

@[simp] theorem State.setInput_conds (s : State) (i : Fin 16) (x : InputUnit) :
    (s.setInput i x).conds = s.conds := rfl

@[simp] theorem State.setInput_profiles (s : State) (i : Fin 16) (x : InputUnit) :
    (s.setInput i x).profiles = s.profiles := rfl

@[simp] theorem State.setInput_segments (s : State) (i : Fin 16) (x : InputUnit) :
    (s.setInput i x).segments = s.segments := rfl

@[simp] theorem State.setInput_cadence (s : State) (i : Fin 16) (x : InputUnit) :
    (s.setInput i x).cadence = s.cadence := rfl

@[simp] theorem State.setInput_inputs (s : State) (i : Fin 16) (x : InputUnit) :
    (s.setInput i x).inputs = s.inputs.upd i x := rfl

@[simp] theorem State.setInput_verifier (s : State) (i : Fin 16) (x : InputUnit) :
    (s.setInput i x).verifier = s.verifier := rfl

@[simp] theorem State.setInput_events (s : State) (i : Fin 16) (x : InputUnit) :
    (s.setInput i x).events = s.events := rfl

@[simp] theorem State.setInput_us (s : State) (i : Fin 16) (x : InputUnit) :
    (s.setInput i x).us = s.us := rfl

@[simp] theorem State.setInput_phase (s : State) (i : Fin 16) (x : InputUnit) :
    (s.setInput i x).phase = s.phase := rfl

@[simp] theorem State.setInput_free (s : State) (i : Fin 16) (x : InputUnit) :
    (s.setInput i x).free = s.free := rfl

@[simp] theorem State.setInput_portB (s : State) (i : Fin 16) (x : InputUnit) :
    (s.setInput i x).portB = s.portB := rfl

@[simp] theorem State.setInput_regulatorOut (s : State) (i : Fin 16) (x : InputUnit) :
    (s.setInput i x).regulatorOut = s.regulatorOut := rfl

@[simp] theorem State.setInput_pumpOut (s : State) (i : Fin 16) (x : InputUnit) :
    (s.setInput i x).pumpOut = s.pumpOut := rfl

/-! ### `setRing` -/

@[simp] theorem State.setRing_pending (s : State) (x : Ring) :
    (s.setRing x).pending = s.pending := rfl

@[simp] theorem State.setRing_handed (s : State) (x : Ring) :
    (s.setRing x).handed = s.handed := rfl

@[simp] theorem State.setRing_awaiting (s : State) (x : Ring) :
    (s.setRing x).awaiting = s.awaiting := rfl

@[simp] theorem State.setRing_written (s : State) (x : Ring) :
    (s.setRing x).written = s.written := rfl

@[simp] theorem State.setRing_ring (s : State) (x : Ring) :
    (s.setRing x).ring = x := rfl

@[simp] theorem State.setRing_map (s : State) (x : Ring) :
    (s.setRing x).map = s.map := rfl

@[simp] theorem State.setRing_store (s : State) (x : Ring) :
    (s.setRing x).store = s.store := rfl

@[simp] theorem State.setRing_heads (s : State) (x : Ring) :
    (s.setRing x).heads = s.heads := rfl

@[simp] theorem State.setRing_zones (s : State) (x : Ring) :
    (s.setRing x).zones = s.zones := rfl

@[simp] theorem State.setRing_filters (s : State) (x : Ring) :
    (s.setRing x).filters = s.filters := rfl

@[simp] theorem State.setRing_reg (s : State) (x : Ring) :
    (s.setRing x).reg = s.reg := rfl

@[simp] theorem State.setRing_docks (s : State) (x : Ring) :
    (s.setRing x).docks = s.docks := rfl

@[simp] theorem State.setRing_idle (s : State) (x : Ring) :
    (s.setRing x).idle = s.idle := rfl

@[simp] theorem State.setRing_queues (s : State) (x : Ring) :
    (s.setRing x).queues = s.queues := rfl

@[simp] theorem State.setRing_lines (s : State) (x : Ring) :
    (s.setRing x).lines = s.lines := rfl

@[simp] theorem State.setRing_conds (s : State) (x : Ring) :
    (s.setRing x).conds = s.conds := rfl

@[simp] theorem State.setRing_profiles (s : State) (x : Ring) :
    (s.setRing x).profiles = s.profiles := rfl

@[simp] theorem State.setRing_segments (s : State) (x : Ring) :
    (s.setRing x).segments = s.segments := rfl

@[simp] theorem State.setRing_cadence (s : State) (x : Ring) :
    (s.setRing x).cadence = s.cadence := rfl

@[simp] theorem State.setRing_inputs (s : State) (x : Ring) :
    (s.setRing x).inputs = s.inputs := rfl

@[simp] theorem State.setRing_verifier (s : State) (x : Ring) :
    (s.setRing x).verifier = s.verifier := rfl

@[simp] theorem State.setRing_events (s : State) (x : Ring) :
    (s.setRing x).events = s.events := rfl

@[simp] theorem State.setRing_us (s : State) (x : Ring) :
    (s.setRing x).us = s.us := rfl

@[simp] theorem State.setRing_phase (s : State) (x : Ring) :
    (s.setRing x).phase = s.phase := rfl

@[simp] theorem State.setRing_free (s : State) (x : Ring) :
    (s.setRing x).free = s.free := rfl

@[simp] theorem State.setRing_portB (s : State) (x : Ring) :
    (s.setRing x).portB = s.portB := rfl

@[simp] theorem State.setRing_regulatorOut (s : State) (x : Ring) :
    (s.setRing x).regulatorOut = s.regulatorOut := rfl

@[simp] theorem State.setRing_pumpOut (s : State) (x : Ring) :
    (s.setRing x).pumpOut = s.pumpOut := rfl

/-! ### `setMap` -/

@[simp] theorem State.setMap_pending (s : State) (x : CellMap) :
    (s.setMap x).pending = s.pending := rfl

@[simp] theorem State.setMap_handed (s : State) (x : CellMap) :
    (s.setMap x).handed = s.handed := rfl

@[simp] theorem State.setMap_awaiting (s : State) (x : CellMap) :
    (s.setMap x).awaiting = s.awaiting := rfl

@[simp] theorem State.setMap_written (s : State) (x : CellMap) :
    (s.setMap x).written = s.written := rfl

@[simp] theorem State.setMap_ring (s : State) (x : CellMap) :
    (s.setMap x).ring = s.ring := rfl

@[simp] theorem State.setMap_map (s : State) (x : CellMap) :
    (s.setMap x).map = x := rfl

@[simp] theorem State.setMap_store (s : State) (x : CellMap) :
    (s.setMap x).store = s.store := rfl

@[simp] theorem State.setMap_heads (s : State) (x : CellMap) :
    (s.setMap x).heads = s.heads := rfl

@[simp] theorem State.setMap_zones (s : State) (x : CellMap) :
    (s.setMap x).zones = s.zones := rfl

@[simp] theorem State.setMap_filters (s : State) (x : CellMap) :
    (s.setMap x).filters = s.filters := rfl

@[simp] theorem State.setMap_reg (s : State) (x : CellMap) :
    (s.setMap x).reg = s.reg := rfl

@[simp] theorem State.setMap_docks (s : State) (x : CellMap) :
    (s.setMap x).docks = s.docks := rfl

@[simp] theorem State.setMap_idle (s : State) (x : CellMap) :
    (s.setMap x).idle = s.idle := rfl

@[simp] theorem State.setMap_queues (s : State) (x : CellMap) :
    (s.setMap x).queues = s.queues := rfl

@[simp] theorem State.setMap_lines (s : State) (x : CellMap) :
    (s.setMap x).lines = s.lines := rfl

@[simp] theorem State.setMap_conds (s : State) (x : CellMap) :
    (s.setMap x).conds = s.conds := rfl

@[simp] theorem State.setMap_profiles (s : State) (x : CellMap) :
    (s.setMap x).profiles = s.profiles := rfl

@[simp] theorem State.setMap_segments (s : State) (x : CellMap) :
    (s.setMap x).segments = s.segments := rfl

@[simp] theorem State.setMap_cadence (s : State) (x : CellMap) :
    (s.setMap x).cadence = s.cadence := rfl

@[simp] theorem State.setMap_inputs (s : State) (x : CellMap) :
    (s.setMap x).inputs = s.inputs := rfl

@[simp] theorem State.setMap_verifier (s : State) (x : CellMap) :
    (s.setMap x).verifier = s.verifier := rfl

@[simp] theorem State.setMap_events (s : State) (x : CellMap) :
    (s.setMap x).events = s.events := rfl

@[simp] theorem State.setMap_us (s : State) (x : CellMap) :
    (s.setMap x).us = s.us := rfl

@[simp] theorem State.setMap_phase (s : State) (x : CellMap) :
    (s.setMap x).phase = s.phase := rfl

@[simp] theorem State.setMap_free (s : State) (x : CellMap) :
    (s.setMap x).free = s.free := rfl

@[simp] theorem State.setMap_portB (s : State) (x : CellMap) :
    (s.setMap x).portB = s.portB := rfl

@[simp] theorem State.setMap_regulatorOut (s : State) (x : CellMap) :
    (s.setMap x).regulatorOut = s.regulatorOut := rfl

@[simp] theorem State.setMap_pumpOut (s : State) (x : CellMap) :
    (s.setMap x).pumpOut = s.pumpOut := rfl

/-! ### `setStore` -/

@[simp] theorem State.setStore_pending (s : State) (x : ProgramStore) :
    (s.setStore x).pending = s.pending := rfl

@[simp] theorem State.setStore_handed (s : State) (x : ProgramStore) :
    (s.setStore x).handed = s.handed := rfl

@[simp] theorem State.setStore_awaiting (s : State) (x : ProgramStore) :
    (s.setStore x).awaiting = s.awaiting := rfl

@[simp] theorem State.setStore_written (s : State) (x : ProgramStore) :
    (s.setStore x).written = s.written := rfl

@[simp] theorem State.setStore_ring (s : State) (x : ProgramStore) :
    (s.setStore x).ring = s.ring := rfl

@[simp] theorem State.setStore_map (s : State) (x : ProgramStore) :
    (s.setStore x).map = s.map := rfl

@[simp] theorem State.setStore_store (s : State) (x : ProgramStore) :
    (s.setStore x).store = x := rfl

@[simp] theorem State.setStore_heads (s : State) (x : ProgramStore) :
    (s.setStore x).heads = s.heads := rfl

@[simp] theorem State.setStore_zones (s : State) (x : ProgramStore) :
    (s.setStore x).zones = s.zones := rfl

@[simp] theorem State.setStore_filters (s : State) (x : ProgramStore) :
    (s.setStore x).filters = s.filters := rfl

@[simp] theorem State.setStore_reg (s : State) (x : ProgramStore) :
    (s.setStore x).reg = s.reg := rfl

@[simp] theorem State.setStore_docks (s : State) (x : ProgramStore) :
    (s.setStore x).docks = s.docks := rfl

@[simp] theorem State.setStore_idle (s : State) (x : ProgramStore) :
    (s.setStore x).idle = s.idle := rfl

@[simp] theorem State.setStore_queues (s : State) (x : ProgramStore) :
    (s.setStore x).queues = s.queues := rfl

@[simp] theorem State.setStore_lines (s : State) (x : ProgramStore) :
    (s.setStore x).lines = s.lines := rfl

@[simp] theorem State.setStore_conds (s : State) (x : ProgramStore) :
    (s.setStore x).conds = s.conds := rfl

@[simp] theorem State.setStore_profiles (s : State) (x : ProgramStore) :
    (s.setStore x).profiles = s.profiles := rfl

@[simp] theorem State.setStore_segments (s : State) (x : ProgramStore) :
    (s.setStore x).segments = s.segments := rfl

@[simp] theorem State.setStore_cadence (s : State) (x : ProgramStore) :
    (s.setStore x).cadence = s.cadence := rfl

@[simp] theorem State.setStore_inputs (s : State) (x : ProgramStore) :
    (s.setStore x).inputs = s.inputs := rfl

@[simp] theorem State.setStore_verifier (s : State) (x : ProgramStore) :
    (s.setStore x).verifier = s.verifier := rfl

@[simp] theorem State.setStore_events (s : State) (x : ProgramStore) :
    (s.setStore x).events = s.events := rfl

@[simp] theorem State.setStore_us (s : State) (x : ProgramStore) :
    (s.setStore x).us = s.us := rfl

@[simp] theorem State.setStore_phase (s : State) (x : ProgramStore) :
    (s.setStore x).phase = s.phase := rfl

@[simp] theorem State.setStore_free (s : State) (x : ProgramStore) :
    (s.setStore x).free = s.free := rfl

@[simp] theorem State.setStore_portB (s : State) (x : ProgramStore) :
    (s.setStore x).portB = s.portB := rfl

@[simp] theorem State.setStore_regulatorOut (s : State) (x : ProgramStore) :
    (s.setStore x).regulatorOut = s.regulatorOut := rfl

@[simp] theorem State.setStore_pumpOut (s : State) (x : ProgramStore) :
    (s.setStore x).pumpOut = s.pumpOut := rfl

/-! ### `setClaim` -/

@[simp] theorem State.setClaim_pending (s : State) (h : Head) (x : Option (Fin 16)) :
    (s.setClaim h x).pending = s.pending := rfl

@[simp] theorem State.setClaim_handed (s : State) (h : Head) (x : Option (Fin 16)) :
    (s.setClaim h x).handed = s.handed := rfl

@[simp] theorem State.setClaim_awaiting (s : State) (h : Head) (x : Option (Fin 16)) :
    (s.setClaim h x).awaiting = s.awaiting := rfl

@[simp] theorem State.setClaim_written (s : State) (h : Head) (x : Option (Fin 16)) :
    (s.setClaim h x).written = s.written := rfl

@[simp] theorem State.setClaim_ring (s : State) (h : Head) (x : Option (Fin 16)) :
    (s.setClaim h x).ring = s.ring := rfl

@[simp] theorem State.setClaim_map (s : State) (h : Head) (x : Option (Fin 16)) :
    (s.setClaim h x).map = s.map := rfl

@[simp] theorem State.setClaim_store (s : State) (h : Head) (x : Option (Fin 16)) :
    (s.setClaim h x).store = { s.store with claims := s.store.claims.upd h x } := rfl

@[simp] theorem State.setClaim_heads (s : State) (h : Head) (x : Option (Fin 16)) :
    (s.setClaim h x).heads = s.heads := rfl

@[simp] theorem State.setClaim_zones (s : State) (h : Head) (x : Option (Fin 16)) :
    (s.setClaim h x).zones = s.zones := rfl

@[simp] theorem State.setClaim_filters (s : State) (h : Head) (x : Option (Fin 16)) :
    (s.setClaim h x).filters = s.filters := rfl

@[simp] theorem State.setClaim_reg (s : State) (h : Head) (x : Option (Fin 16)) :
    (s.setClaim h x).reg = s.reg := rfl

@[simp] theorem State.setClaim_docks (s : State) (h : Head) (x : Option (Fin 16)) :
    (s.setClaim h x).docks = s.docks := rfl

@[simp] theorem State.setClaim_idle (s : State) (h : Head) (x : Option (Fin 16)) :
    (s.setClaim h x).idle = s.idle := rfl

@[simp] theorem State.setClaim_queues (s : State) (h : Head) (x : Option (Fin 16)) :
    (s.setClaim h x).queues = s.queues := rfl

@[simp] theorem State.setClaim_lines (s : State) (h : Head) (x : Option (Fin 16)) :
    (s.setClaim h x).lines = s.lines := rfl

@[simp] theorem State.setClaim_conds (s : State) (h : Head) (x : Option (Fin 16)) :
    (s.setClaim h x).conds = s.conds := rfl

@[simp] theorem State.setClaim_profiles (s : State) (h : Head) (x : Option (Fin 16)) :
    (s.setClaim h x).profiles = s.profiles := rfl

@[simp] theorem State.setClaim_segments (s : State) (h : Head) (x : Option (Fin 16)) :
    (s.setClaim h x).segments = s.segments := rfl

@[simp] theorem State.setClaim_cadence (s : State) (h : Head) (x : Option (Fin 16)) :
    (s.setClaim h x).cadence = s.cadence := rfl

@[simp] theorem State.setClaim_inputs (s : State) (h : Head) (x : Option (Fin 16)) :
    (s.setClaim h x).inputs = s.inputs := rfl

@[simp] theorem State.setClaim_verifier (s : State) (h : Head) (x : Option (Fin 16)) :
    (s.setClaim h x).verifier = s.verifier := rfl

@[simp] theorem State.setClaim_events (s : State) (h : Head) (x : Option (Fin 16)) :
    (s.setClaim h x).events = s.events := rfl

@[simp] theorem State.setClaim_us (s : State) (h : Head) (x : Option (Fin 16)) :
    (s.setClaim h x).us = s.us := rfl

@[simp] theorem State.setClaim_phase (s : State) (h : Head) (x : Option (Fin 16)) :
    (s.setClaim h x).phase = s.phase := rfl

@[simp] theorem State.setClaim_free (s : State) (h : Head) (x : Option (Fin 16)) :
    (s.setClaim h x).free = s.free := rfl

@[simp] theorem State.setClaim_portB (s : State) (h : Head) (x : Option (Fin 16)) :
    (s.setClaim h x).portB = s.portB := rfl

@[simp] theorem State.setClaim_regulatorOut (s : State) (h : Head) (x : Option (Fin 16)) :
    (s.setClaim h x).regulatorOut = s.regulatorOut := rfl

@[simp] theorem State.setClaim_pumpOut (s : State) (h : Head) (x : Option (Fin 16)) :
    (s.setClaim h x).pumpOut = s.pumpOut := rfl

/-! ### `setReg` -/

@[simp] theorem State.setReg_pending (s : State) (x : RegulatorPort) :
    (s.setReg x).pending = s.pending := rfl

@[simp] theorem State.setReg_handed (s : State) (x : RegulatorPort) :
    (s.setReg x).handed = s.handed := rfl

@[simp] theorem State.setReg_awaiting (s : State) (x : RegulatorPort) :
    (s.setReg x).awaiting = s.awaiting := rfl

@[simp] theorem State.setReg_written (s : State) (x : RegulatorPort) :
    (s.setReg x).written = s.written := rfl

@[simp] theorem State.setReg_ring (s : State) (x : RegulatorPort) :
    (s.setReg x).ring = s.ring := rfl

@[simp] theorem State.setReg_map (s : State) (x : RegulatorPort) :
    (s.setReg x).map = s.map := rfl

@[simp] theorem State.setReg_store (s : State) (x : RegulatorPort) :
    (s.setReg x).store = s.store := rfl

@[simp] theorem State.setReg_heads (s : State) (x : RegulatorPort) :
    (s.setReg x).heads = s.heads := rfl

@[simp] theorem State.setReg_zones (s : State) (x : RegulatorPort) :
    (s.setReg x).zones = s.zones := rfl

@[simp] theorem State.setReg_filters (s : State) (x : RegulatorPort) :
    (s.setReg x).filters = s.filters := rfl

@[simp] theorem State.setReg_reg (s : State) (x : RegulatorPort) :
    (s.setReg x).reg = x := rfl

@[simp] theorem State.setReg_docks (s : State) (x : RegulatorPort) :
    (s.setReg x).docks = s.docks := rfl

@[simp] theorem State.setReg_idle (s : State) (x : RegulatorPort) :
    (s.setReg x).idle = s.idle := rfl

@[simp] theorem State.setReg_queues (s : State) (x : RegulatorPort) :
    (s.setReg x).queues = s.queues := rfl

@[simp] theorem State.setReg_lines (s : State) (x : RegulatorPort) :
    (s.setReg x).lines = s.lines := rfl

@[simp] theorem State.setReg_conds (s : State) (x : RegulatorPort) :
    (s.setReg x).conds = s.conds := rfl

@[simp] theorem State.setReg_profiles (s : State) (x : RegulatorPort) :
    (s.setReg x).profiles = s.profiles := rfl

@[simp] theorem State.setReg_segments (s : State) (x : RegulatorPort) :
    (s.setReg x).segments = s.segments := rfl

@[simp] theorem State.setReg_cadence (s : State) (x : RegulatorPort) :
    (s.setReg x).cadence = s.cadence := rfl

@[simp] theorem State.setReg_inputs (s : State) (x : RegulatorPort) :
    (s.setReg x).inputs = s.inputs := rfl

@[simp] theorem State.setReg_verifier (s : State) (x : RegulatorPort) :
    (s.setReg x).verifier = s.verifier := rfl

@[simp] theorem State.setReg_events (s : State) (x : RegulatorPort) :
    (s.setReg x).events = s.events := rfl

@[simp] theorem State.setReg_us (s : State) (x : RegulatorPort) :
    (s.setReg x).us = s.us := rfl

@[simp] theorem State.setReg_phase (s : State) (x : RegulatorPort) :
    (s.setReg x).phase = s.phase := rfl

@[simp] theorem State.setReg_free (s : State) (x : RegulatorPort) :
    (s.setReg x).free = s.free := rfl

@[simp] theorem State.setReg_portB (s : State) (x : RegulatorPort) :
    (s.setReg x).portB = s.portB := rfl

@[simp] theorem State.setReg_regulatorOut (s : State) (x : RegulatorPort) :
    (s.setReg x).regulatorOut = s.regulatorOut := rfl

@[simp] theorem State.setReg_pumpOut (s : State) (x : RegulatorPort) :
    (s.setReg x).pumpOut = s.pumpOut := rfl

/-! ### `setCadence` -/

@[simp] theorem State.setCadence_pending (s : State) (x : Cadence) :
    (s.setCadence x).pending = s.pending := rfl

@[simp] theorem State.setCadence_handed (s : State) (x : Cadence) :
    (s.setCadence x).handed = s.handed := rfl

@[simp] theorem State.setCadence_awaiting (s : State) (x : Cadence) :
    (s.setCadence x).awaiting = s.awaiting := rfl

@[simp] theorem State.setCadence_written (s : State) (x : Cadence) :
    (s.setCadence x).written = s.written := rfl

@[simp] theorem State.setCadence_ring (s : State) (x : Cadence) :
    (s.setCadence x).ring = s.ring := rfl

@[simp] theorem State.setCadence_map (s : State) (x : Cadence) :
    (s.setCadence x).map = s.map := rfl

@[simp] theorem State.setCadence_store (s : State) (x : Cadence) :
    (s.setCadence x).store = s.store := rfl

@[simp] theorem State.setCadence_heads (s : State) (x : Cadence) :
    (s.setCadence x).heads = s.heads := rfl

@[simp] theorem State.setCadence_zones (s : State) (x : Cadence) :
    (s.setCadence x).zones = s.zones := rfl

@[simp] theorem State.setCadence_filters (s : State) (x : Cadence) :
    (s.setCadence x).filters = s.filters := rfl

@[simp] theorem State.setCadence_reg (s : State) (x : Cadence) :
    (s.setCadence x).reg = s.reg := rfl

@[simp] theorem State.setCadence_docks (s : State) (x : Cadence) :
    (s.setCadence x).docks = s.docks := rfl

@[simp] theorem State.setCadence_idle (s : State) (x : Cadence) :
    (s.setCadence x).idle = s.idle := rfl

@[simp] theorem State.setCadence_queues (s : State) (x : Cadence) :
    (s.setCadence x).queues = s.queues := rfl

@[simp] theorem State.setCadence_lines (s : State) (x : Cadence) :
    (s.setCadence x).lines = s.lines := rfl

@[simp] theorem State.setCadence_conds (s : State) (x : Cadence) :
    (s.setCadence x).conds = s.conds := rfl

@[simp] theorem State.setCadence_profiles (s : State) (x : Cadence) :
    (s.setCadence x).profiles = s.profiles := rfl

@[simp] theorem State.setCadence_segments (s : State) (x : Cadence) :
    (s.setCadence x).segments = s.segments := rfl

@[simp] theorem State.setCadence_cadence (s : State) (x : Cadence) :
    (s.setCadence x).cadence = x := rfl

@[simp] theorem State.setCadence_inputs (s : State) (x : Cadence) :
    (s.setCadence x).inputs = s.inputs := rfl

@[simp] theorem State.setCadence_verifier (s : State) (x : Cadence) :
    (s.setCadence x).verifier = s.verifier := rfl

@[simp] theorem State.setCadence_events (s : State) (x : Cadence) :
    (s.setCadence x).events = s.events := rfl

@[simp] theorem State.setCadence_us (s : State) (x : Cadence) :
    (s.setCadence x).us = s.us := rfl

@[simp] theorem State.setCadence_phase (s : State) (x : Cadence) :
    (s.setCadence x).phase = s.phase := rfl

@[simp] theorem State.setCadence_free (s : State) (x : Cadence) :
    (s.setCadence x).free = s.free := rfl

@[simp] theorem State.setCadence_portB (s : State) (x : Cadence) :
    (s.setCadence x).portB = s.portB := rfl

@[simp] theorem State.setCadence_regulatorOut (s : State) (x : Cadence) :
    (s.setCadence x).regulatorOut = s.regulatorOut := rfl

@[simp] theorem State.setCadence_pumpOut (s : State) (x : Cadence) :
    (s.setCadence x).pumpOut = s.pumpOut := rfl

/-! ### `setVerifier` -/

@[simp] theorem State.setVerifier_pending (s : State) (x : Verifier) :
    (s.setVerifier x).pending = s.pending := rfl

@[simp] theorem State.setVerifier_handed (s : State) (x : Verifier) :
    (s.setVerifier x).handed = s.handed := rfl

@[simp] theorem State.setVerifier_awaiting (s : State) (x : Verifier) :
    (s.setVerifier x).awaiting = s.awaiting := rfl

@[simp] theorem State.setVerifier_written (s : State) (x : Verifier) :
    (s.setVerifier x).written = s.written := rfl

@[simp] theorem State.setVerifier_ring (s : State) (x : Verifier) :
    (s.setVerifier x).ring = s.ring := rfl

@[simp] theorem State.setVerifier_map (s : State) (x : Verifier) :
    (s.setVerifier x).map = s.map := rfl

@[simp] theorem State.setVerifier_store (s : State) (x : Verifier) :
    (s.setVerifier x).store = s.store := rfl

@[simp] theorem State.setVerifier_heads (s : State) (x : Verifier) :
    (s.setVerifier x).heads = s.heads := rfl

@[simp] theorem State.setVerifier_zones (s : State) (x : Verifier) :
    (s.setVerifier x).zones = s.zones := rfl

@[simp] theorem State.setVerifier_filters (s : State) (x : Verifier) :
    (s.setVerifier x).filters = s.filters := rfl

@[simp] theorem State.setVerifier_reg (s : State) (x : Verifier) :
    (s.setVerifier x).reg = s.reg := rfl

@[simp] theorem State.setVerifier_docks (s : State) (x : Verifier) :
    (s.setVerifier x).docks = s.docks := rfl

@[simp] theorem State.setVerifier_idle (s : State) (x : Verifier) :
    (s.setVerifier x).idle = s.idle := rfl

@[simp] theorem State.setVerifier_queues (s : State) (x : Verifier) :
    (s.setVerifier x).queues = s.queues := rfl

@[simp] theorem State.setVerifier_lines (s : State) (x : Verifier) :
    (s.setVerifier x).lines = s.lines := rfl

@[simp] theorem State.setVerifier_conds (s : State) (x : Verifier) :
    (s.setVerifier x).conds = s.conds := rfl

@[simp] theorem State.setVerifier_profiles (s : State) (x : Verifier) :
    (s.setVerifier x).profiles = s.profiles := rfl

@[simp] theorem State.setVerifier_segments (s : State) (x : Verifier) :
    (s.setVerifier x).segments = s.segments := rfl

@[simp] theorem State.setVerifier_cadence (s : State) (x : Verifier) :
    (s.setVerifier x).cadence = s.cadence := rfl

@[simp] theorem State.setVerifier_inputs (s : State) (x : Verifier) :
    (s.setVerifier x).inputs = s.inputs := rfl

@[simp] theorem State.setVerifier_verifier (s : State) (x : Verifier) :
    (s.setVerifier x).verifier = x := rfl

@[simp] theorem State.setVerifier_events (s : State) (x : Verifier) :
    (s.setVerifier x).events = s.events := rfl

@[simp] theorem State.setVerifier_us (s : State) (x : Verifier) :
    (s.setVerifier x).us = s.us := rfl

@[simp] theorem State.setVerifier_phase (s : State) (x : Verifier) :
    (s.setVerifier x).phase = s.phase := rfl

@[simp] theorem State.setVerifier_free (s : State) (x : Verifier) :
    (s.setVerifier x).free = s.free := rfl

@[simp] theorem State.setVerifier_portB (s : State) (x : Verifier) :
    (s.setVerifier x).portB = s.portB := rfl

@[simp] theorem State.setVerifier_regulatorOut (s : State) (x : Verifier) :
    (s.setVerifier x).regulatorOut = s.regulatorOut := rfl

@[simp] theorem State.setVerifier_pumpOut (s : State) (x : Verifier) :
    (s.setVerifier x).pumpOut = s.pumpOut := rfl

/-! ### `setGroup` -/

@[simp] theorem State.setGroup_pending (s : State) (g : Group) (x : GroupRecord) :
    (s.setGroup g x).pending = s.pending := rfl

@[simp] theorem State.setGroup_handed (s : State) (g : Group) (x : GroupRecord) :
    (s.setGroup g x).handed = s.handed := rfl

@[simp] theorem State.setGroup_awaiting (s : State) (g : Group) (x : GroupRecord) :
    (s.setGroup g x).awaiting = s.awaiting := rfl

@[simp] theorem State.setGroup_written (s : State) (g : Group) (x : GroupRecord) :
    (s.setGroup g x).written = s.written := rfl

@[simp] theorem State.setGroup_ring (s : State) (g : Group) (x : GroupRecord) :
    (s.setGroup g x).ring = s.ring := rfl

@[simp] theorem State.setGroup_map (s : State) (g : Group) (x : GroupRecord) :
    (s.setGroup g x).map = s.map := rfl

@[simp] theorem State.setGroup_store (s : State) (g : Group) (x : GroupRecord) :
    (s.setGroup g x).store = s.store := rfl

@[simp] theorem State.setGroup_heads (s : State) (g : Group) (x : GroupRecord) :
    (s.setGroup g x).heads = s.heads := rfl

@[simp] theorem State.setGroup_zones (s : State) (g : Group) (x : GroupRecord) :
    (s.setGroup g x).zones = s.zones := rfl

@[simp] theorem State.setGroup_filters (s : State) (g : Group) (x : GroupRecord) :
    (s.setGroup g x).filters = s.filters := rfl

@[simp] theorem State.setGroup_reg (s : State) (g : Group) (x : GroupRecord) :
    (s.setGroup g x).reg = s.reg := rfl

@[simp] theorem State.setGroup_docks (s : State) (g : Group) (x : GroupRecord) :
    (s.setGroup g x).docks = s.docks := rfl

@[simp] theorem State.setGroup_idle (s : State) (g : Group) (x : GroupRecord) :
    (s.setGroup g x).idle = s.idle := rfl

@[simp] theorem State.setGroup_queues (s : State) (g : Group) (x : GroupRecord) :
    (s.setGroup g x).queues = s.queues := rfl

@[simp] theorem State.setGroup_lines (s : State) (g : Group) (x : GroupRecord) :
    (s.setGroup g x).lines = s.lines := rfl

@[simp] theorem State.setGroup_conds (s : State) (g : Group) (x : GroupRecord) :
    (s.setGroup g x).conds = s.conds := rfl

@[simp] theorem State.setGroup_profiles (s : State) (g : Group) (x : GroupRecord) :
    (s.setGroup g x).profiles = s.profiles := rfl

@[simp] theorem State.setGroup_segments (s : State) (g : Group) (x : GroupRecord) :
    (s.setGroup g x).segments = s.segments := rfl

@[simp] theorem State.setGroup_cadence (s : State) (g : Group) (x : GroupRecord) :
    (s.setGroup g x).cadence = s.cadence := rfl

@[simp] theorem State.setGroup_inputs (s : State) (g : Group) (x : GroupRecord) :
    (s.setGroup g x).inputs = s.inputs := rfl

@[simp] theorem State.setGroup_verifier (s : State) (g : Group) (x : GroupRecord) :
    (s.setGroup g x).verifier = s.verifier.setGroup g x := rfl

@[simp] theorem State.setGroup_events (s : State) (g : Group) (x : GroupRecord) :
    (s.setGroup g x).events = s.events := rfl

@[simp] theorem State.setGroup_us (s : State) (g : Group) (x : GroupRecord) :
    (s.setGroup g x).us = s.us := rfl

@[simp] theorem State.setGroup_phase (s : State) (g : Group) (x : GroupRecord) :
    (s.setGroup g x).phase = s.phase := rfl

@[simp] theorem State.setGroup_free (s : State) (g : Group) (x : GroupRecord) :
    (s.setGroup g x).free = s.free := rfl

@[simp] theorem State.setGroup_portB (s : State) (g : Group) (x : GroupRecord) :
    (s.setGroup g x).portB = s.portB := rfl

@[simp] theorem State.setGroup_regulatorOut (s : State) (g : Group) (x : GroupRecord) :
    (s.setGroup g x).regulatorOut = s.regulatorOut := rfl

@[simp] theorem State.setGroup_pumpOut (s : State) (g : Group) (x : GroupRecord) :
    (s.setGroup g x).pumpOut = s.pumpOut := rfl

/-! ### `setEvents` -/

@[simp] theorem State.setEvents_pending (s : State) (x : EventQueue) :
    (s.setEvents x).pending = s.pending := rfl

@[simp] theorem State.setEvents_handed (s : State) (x : EventQueue) :
    (s.setEvents x).handed = s.handed := rfl

@[simp] theorem State.setEvents_awaiting (s : State) (x : EventQueue) :
    (s.setEvents x).awaiting = s.awaiting := rfl

@[simp] theorem State.setEvents_written (s : State) (x : EventQueue) :
    (s.setEvents x).written = s.written := rfl

@[simp] theorem State.setEvents_ring (s : State) (x : EventQueue) :
    (s.setEvents x).ring = s.ring := rfl

@[simp] theorem State.setEvents_map (s : State) (x : EventQueue) :
    (s.setEvents x).map = s.map := rfl

@[simp] theorem State.setEvents_store (s : State) (x : EventQueue) :
    (s.setEvents x).store = s.store := rfl

@[simp] theorem State.setEvents_heads (s : State) (x : EventQueue) :
    (s.setEvents x).heads = s.heads := rfl

@[simp] theorem State.setEvents_zones (s : State) (x : EventQueue) :
    (s.setEvents x).zones = s.zones := rfl

@[simp] theorem State.setEvents_filters (s : State) (x : EventQueue) :
    (s.setEvents x).filters = s.filters := rfl

@[simp] theorem State.setEvents_reg (s : State) (x : EventQueue) :
    (s.setEvents x).reg = s.reg := rfl

@[simp] theorem State.setEvents_docks (s : State) (x : EventQueue) :
    (s.setEvents x).docks = s.docks := rfl

@[simp] theorem State.setEvents_idle (s : State) (x : EventQueue) :
    (s.setEvents x).idle = s.idle := rfl

@[simp] theorem State.setEvents_queues (s : State) (x : EventQueue) :
    (s.setEvents x).queues = s.queues := rfl

@[simp] theorem State.setEvents_lines (s : State) (x : EventQueue) :
    (s.setEvents x).lines = s.lines := rfl

@[simp] theorem State.setEvents_conds (s : State) (x : EventQueue) :
    (s.setEvents x).conds = s.conds := rfl

@[simp] theorem State.setEvents_profiles (s : State) (x : EventQueue) :
    (s.setEvents x).profiles = s.profiles := rfl

@[simp] theorem State.setEvents_segments (s : State) (x : EventQueue) :
    (s.setEvents x).segments = s.segments := rfl

@[simp] theorem State.setEvents_cadence (s : State) (x : EventQueue) :
    (s.setEvents x).cadence = s.cadence := rfl

@[simp] theorem State.setEvents_inputs (s : State) (x : EventQueue) :
    (s.setEvents x).inputs = s.inputs := rfl

@[simp] theorem State.setEvents_verifier (s : State) (x : EventQueue) :
    (s.setEvents x).verifier = s.verifier := rfl

@[simp] theorem State.setEvents_events (s : State) (x : EventQueue) :
    (s.setEvents x).events = x := rfl

@[simp] theorem State.setEvents_us (s : State) (x : EventQueue) :
    (s.setEvents x).us = s.us := rfl

@[simp] theorem State.setEvents_phase (s : State) (x : EventQueue) :
    (s.setEvents x).phase = s.phase := rfl

@[simp] theorem State.setEvents_free (s : State) (x : EventQueue) :
    (s.setEvents x).free = s.free := rfl

@[simp] theorem State.setEvents_portB (s : State) (x : EventQueue) :
    (s.setEvents x).portB = s.portB := rfl

@[simp] theorem State.setEvents_regulatorOut (s : State) (x : EventQueue) :
    (s.setEvents x).regulatorOut = s.regulatorOut := rfl

@[simp] theorem State.setEvents_pumpOut (s : State) (x : EventQueue) :
    (s.setEvents x).pumpOut = s.pumpOut := rfl

/-! ### `setProfiles` -/

@[simp] theorem State.setProfiles_pending (s : State) (x : Tab 8 ProfileEntry) :
    (s.setProfiles x).pending = s.pending := rfl

@[simp] theorem State.setProfiles_handed (s : State) (x : Tab 8 ProfileEntry) :
    (s.setProfiles x).handed = s.handed := rfl

@[simp] theorem State.setProfiles_awaiting (s : State) (x : Tab 8 ProfileEntry) :
    (s.setProfiles x).awaiting = s.awaiting := rfl

@[simp] theorem State.setProfiles_written (s : State) (x : Tab 8 ProfileEntry) :
    (s.setProfiles x).written = s.written := rfl

@[simp] theorem State.setProfiles_ring (s : State) (x : Tab 8 ProfileEntry) :
    (s.setProfiles x).ring = s.ring := rfl

@[simp] theorem State.setProfiles_map (s : State) (x : Tab 8 ProfileEntry) :
    (s.setProfiles x).map = s.map := rfl

@[simp] theorem State.setProfiles_store (s : State) (x : Tab 8 ProfileEntry) :
    (s.setProfiles x).store = s.store := rfl

@[simp] theorem State.setProfiles_heads (s : State) (x : Tab 8 ProfileEntry) :
    (s.setProfiles x).heads = s.heads := rfl

@[simp] theorem State.setProfiles_zones (s : State) (x : Tab 8 ProfileEntry) :
    (s.setProfiles x).zones = s.zones := rfl

@[simp] theorem State.setProfiles_filters (s : State) (x : Tab 8 ProfileEntry) :
    (s.setProfiles x).filters = s.filters := rfl

@[simp] theorem State.setProfiles_reg (s : State) (x : Tab 8 ProfileEntry) :
    (s.setProfiles x).reg = s.reg := rfl

@[simp] theorem State.setProfiles_docks (s : State) (x : Tab 8 ProfileEntry) :
    (s.setProfiles x).docks = s.docks := rfl

@[simp] theorem State.setProfiles_idle (s : State) (x : Tab 8 ProfileEntry) :
    (s.setProfiles x).idle = s.idle := rfl

@[simp] theorem State.setProfiles_queues (s : State) (x : Tab 8 ProfileEntry) :
    (s.setProfiles x).queues = s.queues := rfl

@[simp] theorem State.setProfiles_lines (s : State) (x : Tab 8 ProfileEntry) :
    (s.setProfiles x).lines = s.lines := rfl

@[simp] theorem State.setProfiles_conds (s : State) (x : Tab 8 ProfileEntry) :
    (s.setProfiles x).conds = s.conds := rfl

@[simp] theorem State.setProfiles_profiles (s : State) (x : Tab 8 ProfileEntry) :
    (s.setProfiles x).profiles = x := rfl

@[simp] theorem State.setProfiles_segments (s : State) (x : Tab 8 ProfileEntry) :
    (s.setProfiles x).segments = s.segments := rfl

@[simp] theorem State.setProfiles_cadence (s : State) (x : Tab 8 ProfileEntry) :
    (s.setProfiles x).cadence = s.cadence := rfl

@[simp] theorem State.setProfiles_inputs (s : State) (x : Tab 8 ProfileEntry) :
    (s.setProfiles x).inputs = s.inputs := rfl

@[simp] theorem State.setProfiles_verifier (s : State) (x : Tab 8 ProfileEntry) :
    (s.setProfiles x).verifier = s.verifier := rfl

@[simp] theorem State.setProfiles_events (s : State) (x : Tab 8 ProfileEntry) :
    (s.setProfiles x).events = s.events := rfl

@[simp] theorem State.setProfiles_us (s : State) (x : Tab 8 ProfileEntry) :
    (s.setProfiles x).us = s.us := rfl

@[simp] theorem State.setProfiles_phase (s : State) (x : Tab 8 ProfileEntry) :
    (s.setProfiles x).phase = s.phase := rfl

@[simp] theorem State.setProfiles_free (s : State) (x : Tab 8 ProfileEntry) :
    (s.setProfiles x).free = s.free := rfl

@[simp] theorem State.setProfiles_portB (s : State) (x : Tab 8 ProfileEntry) :
    (s.setProfiles x).portB = s.portB := rfl

@[simp] theorem State.setProfiles_regulatorOut (s : State) (x : Tab 8 ProfileEntry) :
    (s.setProfiles x).regulatorOut = s.regulatorOut := rfl

@[simp] theorem State.setProfiles_pumpOut (s : State) (x : Tab 8 ProfileEntry) :
    (s.setProfiles x).pumpOut = s.pumpOut := rfl

/-! ### `setSegments` -/

@[simp] theorem State.setSegments_pending (s : State) (x : Tab 96 SegmentRecord) :
    (s.setSegments x).pending = s.pending := rfl

@[simp] theorem State.setSegments_handed (s : State) (x : Tab 96 SegmentRecord) :
    (s.setSegments x).handed = s.handed := rfl

@[simp] theorem State.setSegments_awaiting (s : State) (x : Tab 96 SegmentRecord) :
    (s.setSegments x).awaiting = s.awaiting := rfl

@[simp] theorem State.setSegments_written (s : State) (x : Tab 96 SegmentRecord) :
    (s.setSegments x).written = s.written := rfl

@[simp] theorem State.setSegments_ring (s : State) (x : Tab 96 SegmentRecord) :
    (s.setSegments x).ring = s.ring := rfl

@[simp] theorem State.setSegments_map (s : State) (x : Tab 96 SegmentRecord) :
    (s.setSegments x).map = s.map := rfl

@[simp] theorem State.setSegments_store (s : State) (x : Tab 96 SegmentRecord) :
    (s.setSegments x).store = s.store := rfl

@[simp] theorem State.setSegments_heads (s : State) (x : Tab 96 SegmentRecord) :
    (s.setSegments x).heads = s.heads := rfl

@[simp] theorem State.setSegments_zones (s : State) (x : Tab 96 SegmentRecord) :
    (s.setSegments x).zones = s.zones := rfl

@[simp] theorem State.setSegments_filters (s : State) (x : Tab 96 SegmentRecord) :
    (s.setSegments x).filters = s.filters := rfl

@[simp] theorem State.setSegments_reg (s : State) (x : Tab 96 SegmentRecord) :
    (s.setSegments x).reg = s.reg := rfl

@[simp] theorem State.setSegments_docks (s : State) (x : Tab 96 SegmentRecord) :
    (s.setSegments x).docks = s.docks := rfl

@[simp] theorem State.setSegments_idle (s : State) (x : Tab 96 SegmentRecord) :
    (s.setSegments x).idle = s.idle := rfl

@[simp] theorem State.setSegments_queues (s : State) (x : Tab 96 SegmentRecord) :
    (s.setSegments x).queues = s.queues := rfl

@[simp] theorem State.setSegments_lines (s : State) (x : Tab 96 SegmentRecord) :
    (s.setSegments x).lines = s.lines := rfl

@[simp] theorem State.setSegments_conds (s : State) (x : Tab 96 SegmentRecord) :
    (s.setSegments x).conds = s.conds := rfl

@[simp] theorem State.setSegments_profiles (s : State) (x : Tab 96 SegmentRecord) :
    (s.setSegments x).profiles = s.profiles := rfl

@[simp] theorem State.setSegments_segments (s : State) (x : Tab 96 SegmentRecord) :
    (s.setSegments x).segments = x := rfl

@[simp] theorem State.setSegments_cadence (s : State) (x : Tab 96 SegmentRecord) :
    (s.setSegments x).cadence = s.cadence := rfl

@[simp] theorem State.setSegments_inputs (s : State) (x : Tab 96 SegmentRecord) :
    (s.setSegments x).inputs = s.inputs := rfl

@[simp] theorem State.setSegments_verifier (s : State) (x : Tab 96 SegmentRecord) :
    (s.setSegments x).verifier = s.verifier := rfl

@[simp] theorem State.setSegments_events (s : State) (x : Tab 96 SegmentRecord) :
    (s.setSegments x).events = s.events := rfl

@[simp] theorem State.setSegments_us (s : State) (x : Tab 96 SegmentRecord) :
    (s.setSegments x).us = s.us := rfl

@[simp] theorem State.setSegments_phase (s : State) (x : Tab 96 SegmentRecord) :
    (s.setSegments x).phase = s.phase := rfl

@[simp] theorem State.setSegments_free (s : State) (x : Tab 96 SegmentRecord) :
    (s.setSegments x).free = s.free := rfl

@[simp] theorem State.setSegments_portB (s : State) (x : Tab 96 SegmentRecord) :
    (s.setSegments x).portB = s.portB := rfl

@[simp] theorem State.setSegments_regulatorOut (s : State) (x : Tab 96 SegmentRecord) :
    (s.setSegments x).regulatorOut = s.regulatorOut := rfl

@[simp] theorem State.setSegments_pumpOut (s : State) (x : Tab 96 SegmentRecord) :
    (s.setSegments x).pumpOut = s.pumpOut := rfl

/-! ### `setHanded` -/

@[simp] theorem State.setHanded_pending (s : State) (x : List Instr) :
    (s.setHanded x).pending = s.pending := rfl

@[simp] theorem State.setHanded_handed (s : State) (x : List Instr) :
    (s.setHanded x).handed = x := rfl

@[simp] theorem State.setHanded_awaiting (s : State) (x : List Instr) :
    (s.setHanded x).awaiting = s.awaiting := rfl

@[simp] theorem State.setHanded_written (s : State) (x : List Instr) :
    (s.setHanded x).written = s.written := rfl

@[simp] theorem State.setHanded_ring (s : State) (x : List Instr) :
    (s.setHanded x).ring = s.ring := rfl

@[simp] theorem State.setHanded_map (s : State) (x : List Instr) :
    (s.setHanded x).map = s.map := rfl

@[simp] theorem State.setHanded_store (s : State) (x : List Instr) :
    (s.setHanded x).store = s.store := rfl

@[simp] theorem State.setHanded_heads (s : State) (x : List Instr) :
    (s.setHanded x).heads = s.heads := rfl

@[simp] theorem State.setHanded_zones (s : State) (x : List Instr) :
    (s.setHanded x).zones = s.zones := rfl

@[simp] theorem State.setHanded_filters (s : State) (x : List Instr) :
    (s.setHanded x).filters = s.filters := rfl

@[simp] theorem State.setHanded_reg (s : State) (x : List Instr) :
    (s.setHanded x).reg = s.reg := rfl

@[simp] theorem State.setHanded_docks (s : State) (x : List Instr) :
    (s.setHanded x).docks = s.docks := rfl

@[simp] theorem State.setHanded_idle (s : State) (x : List Instr) :
    (s.setHanded x).idle = s.idle := rfl

@[simp] theorem State.setHanded_queues (s : State) (x : List Instr) :
    (s.setHanded x).queues = s.queues := rfl

@[simp] theorem State.setHanded_lines (s : State) (x : List Instr) :
    (s.setHanded x).lines = s.lines := rfl

@[simp] theorem State.setHanded_conds (s : State) (x : List Instr) :
    (s.setHanded x).conds = s.conds := rfl

@[simp] theorem State.setHanded_profiles (s : State) (x : List Instr) :
    (s.setHanded x).profiles = s.profiles := rfl

@[simp] theorem State.setHanded_segments (s : State) (x : List Instr) :
    (s.setHanded x).segments = s.segments := rfl

@[simp] theorem State.setHanded_cadence (s : State) (x : List Instr) :
    (s.setHanded x).cadence = s.cadence := rfl

@[simp] theorem State.setHanded_inputs (s : State) (x : List Instr) :
    (s.setHanded x).inputs = s.inputs := rfl

@[simp] theorem State.setHanded_verifier (s : State) (x : List Instr) :
    (s.setHanded x).verifier = s.verifier := rfl

@[simp] theorem State.setHanded_events (s : State) (x : List Instr) :
    (s.setHanded x).events = s.events := rfl

@[simp] theorem State.setHanded_us (s : State) (x : List Instr) :
    (s.setHanded x).us = s.us := rfl

@[simp] theorem State.setHanded_phase (s : State) (x : List Instr) :
    (s.setHanded x).phase = s.phase := rfl

@[simp] theorem State.setHanded_free (s : State) (x : List Instr) :
    (s.setHanded x).free = s.free := rfl

@[simp] theorem State.setHanded_portB (s : State) (x : List Instr) :
    (s.setHanded x).portB = s.portB := rfl

@[simp] theorem State.setHanded_regulatorOut (s : State) (x : List Instr) :
    (s.setHanded x).regulatorOut = s.regulatorOut := rfl

@[simp] theorem State.setHanded_pumpOut (s : State) (x : List Instr) :
    (s.setHanded x).pumpOut = s.pumpOut := rfl

/-! ### `hand` -/

@[simp] theorem State.hand_pending (s : State) (c : Instr) :
    (s.hand c).pending = s.pending := rfl

@[simp] theorem State.hand_handed (s : State) (c : Instr) :
    (s.hand c).handed = s.handed ++ [c] := rfl

@[simp] theorem State.hand_awaiting (s : State) (c : Instr) :
    (s.hand c).awaiting = s.awaiting := rfl

@[simp] theorem State.hand_written (s : State) (c : Instr) :
    (s.hand c).written = s.written := rfl

@[simp] theorem State.hand_ring (s : State) (c : Instr) :
    (s.hand c).ring = s.ring := rfl

@[simp] theorem State.hand_map (s : State) (c : Instr) :
    (s.hand c).map = s.map := rfl

@[simp] theorem State.hand_store (s : State) (c : Instr) :
    (s.hand c).store = s.store := rfl

@[simp] theorem State.hand_heads (s : State) (c : Instr) :
    (s.hand c).heads = s.heads := rfl

@[simp] theorem State.hand_zones (s : State) (c : Instr) :
    (s.hand c).zones = s.zones := rfl

@[simp] theorem State.hand_filters (s : State) (c : Instr) :
    (s.hand c).filters = s.filters := rfl

@[simp] theorem State.hand_reg (s : State) (c : Instr) :
    (s.hand c).reg = s.reg := rfl

@[simp] theorem State.hand_docks (s : State) (c : Instr) :
    (s.hand c).docks = s.docks := rfl

@[simp] theorem State.hand_idle (s : State) (c : Instr) :
    (s.hand c).idle = s.idle := rfl

@[simp] theorem State.hand_queues (s : State) (c : Instr) :
    (s.hand c).queues = s.queues := rfl

@[simp] theorem State.hand_lines (s : State) (c : Instr) :
    (s.hand c).lines = s.lines := rfl

@[simp] theorem State.hand_conds (s : State) (c : Instr) :
    (s.hand c).conds = s.conds := rfl

@[simp] theorem State.hand_profiles (s : State) (c : Instr) :
    (s.hand c).profiles = s.profiles := rfl

@[simp] theorem State.hand_segments (s : State) (c : Instr) :
    (s.hand c).segments = s.segments := rfl

@[simp] theorem State.hand_cadence (s : State) (c : Instr) :
    (s.hand c).cadence = s.cadence := rfl

@[simp] theorem State.hand_inputs (s : State) (c : Instr) :
    (s.hand c).inputs = s.inputs := rfl

@[simp] theorem State.hand_verifier (s : State) (c : Instr) :
    (s.hand c).verifier = s.verifier := rfl

@[simp] theorem State.hand_events (s : State) (c : Instr) :
    (s.hand c).events = s.events := rfl

@[simp] theorem State.hand_us (s : State) (c : Instr) :
    (s.hand c).us = s.us := rfl

@[simp] theorem State.hand_phase (s : State) (c : Instr) :
    (s.hand c).phase = s.phase := rfl

@[simp] theorem State.hand_free (s : State) (c : Instr) :
    (s.hand c).free = s.free := rfl

@[simp] theorem State.hand_portB (s : State) (c : Instr) :
    (s.hand c).portB = s.portB := rfl

@[simp] theorem State.hand_regulatorOut (s : State) (c : Instr) :
    (s.hand c).regulatorOut = s.regulatorOut := rfl

@[simp] theorem State.hand_pumpOut (s : State) (c : Instr) :
    (s.hand c).pumpOut = s.pumpOut := rfl

/-! ### `handAll` -/

@[simp] theorem State.handAll_pending (s : State) (cs : List Instr) :
    (s.handAll cs).pending = s.pending := rfl

@[simp] theorem State.handAll_handed (s : State) (cs : List Instr) :
    (s.handAll cs).handed = s.handed ++ cs := rfl

@[simp] theorem State.handAll_awaiting (s : State) (cs : List Instr) :
    (s.handAll cs).awaiting = s.awaiting := rfl

@[simp] theorem State.handAll_written (s : State) (cs : List Instr) :
    (s.handAll cs).written = s.written := rfl

@[simp] theorem State.handAll_ring (s : State) (cs : List Instr) :
    (s.handAll cs).ring = s.ring := rfl

@[simp] theorem State.handAll_map (s : State) (cs : List Instr) :
    (s.handAll cs).map = s.map := rfl

@[simp] theorem State.handAll_store (s : State) (cs : List Instr) :
    (s.handAll cs).store = s.store := rfl

@[simp] theorem State.handAll_heads (s : State) (cs : List Instr) :
    (s.handAll cs).heads = s.heads := rfl

@[simp] theorem State.handAll_zones (s : State) (cs : List Instr) :
    (s.handAll cs).zones = s.zones := rfl

@[simp] theorem State.handAll_filters (s : State) (cs : List Instr) :
    (s.handAll cs).filters = s.filters := rfl

@[simp] theorem State.handAll_reg (s : State) (cs : List Instr) :
    (s.handAll cs).reg = s.reg := rfl

@[simp] theorem State.handAll_docks (s : State) (cs : List Instr) :
    (s.handAll cs).docks = s.docks := rfl

@[simp] theorem State.handAll_idle (s : State) (cs : List Instr) :
    (s.handAll cs).idle = s.idle := rfl

@[simp] theorem State.handAll_queues (s : State) (cs : List Instr) :
    (s.handAll cs).queues = s.queues := rfl

@[simp] theorem State.handAll_lines (s : State) (cs : List Instr) :
    (s.handAll cs).lines = s.lines := rfl

@[simp] theorem State.handAll_conds (s : State) (cs : List Instr) :
    (s.handAll cs).conds = s.conds := rfl

@[simp] theorem State.handAll_profiles (s : State) (cs : List Instr) :
    (s.handAll cs).profiles = s.profiles := rfl

@[simp] theorem State.handAll_segments (s : State) (cs : List Instr) :
    (s.handAll cs).segments = s.segments := rfl

@[simp] theorem State.handAll_cadence (s : State) (cs : List Instr) :
    (s.handAll cs).cadence = s.cadence := rfl

@[simp] theorem State.handAll_inputs (s : State) (cs : List Instr) :
    (s.handAll cs).inputs = s.inputs := rfl

@[simp] theorem State.handAll_verifier (s : State) (cs : List Instr) :
    (s.handAll cs).verifier = s.verifier := rfl

@[simp] theorem State.handAll_events (s : State) (cs : List Instr) :
    (s.handAll cs).events = s.events := rfl

@[simp] theorem State.handAll_us (s : State) (cs : List Instr) :
    (s.handAll cs).us = s.us := rfl

@[simp] theorem State.handAll_phase (s : State) (cs : List Instr) :
    (s.handAll cs).phase = s.phase := rfl

@[simp] theorem State.handAll_free (s : State) (cs : List Instr) :
    (s.handAll cs).free = s.free := rfl

@[simp] theorem State.handAll_portB (s : State) (cs : List Instr) :
    (s.handAll cs).portB = s.portB := rfl

@[simp] theorem State.handAll_regulatorOut (s : State) (cs : List Instr) :
    (s.handAll cs).regulatorOut = s.regulatorOut := rfl

@[simp] theorem State.handAll_pumpOut (s : State) (cs : List Instr) :
    (s.handAll cs).pumpOut = s.pumpOut := rfl

/-! ### `takeUp` -/

@[simp] theorem State.takeUp_pending (s : State) (c : Instr) :
    (s.takeUp c).pending = s.pending := rfl

@[simp] theorem State.takeUp_handed (s : State) (c : Instr) :
    (s.takeUp c).handed = s.handed.erase c := rfl

@[simp] theorem State.takeUp_awaiting (s : State) (c : Instr) :
    (s.takeUp c).awaiting =
      if c ∈ s.handed then s.awaiting.eraseP (fun x => x.event == c) else s.awaiting :=
    rfl

@[simp] theorem State.takeUp_written (s : State) (c : Instr) :
    (s.takeUp c).written =
      if c ∈ s.handed then s.written.eraseP (fun x => c == .writeNotice (WrittenEntry.group x)) else s.written :=
    rfl

@[simp] theorem State.takeUp_ring (s : State) (c : Instr) :
    (s.takeUp c).ring = s.ring := rfl

@[simp] theorem State.takeUp_map (s : State) (c : Instr) :
    (s.takeUp c).map = s.map := rfl

@[simp] theorem State.takeUp_store (s : State) (c : Instr) :
    (s.takeUp c).store = s.store := rfl

@[simp] theorem State.takeUp_heads (s : State) (c : Instr) :
    (s.takeUp c).heads = s.heads := rfl

@[simp] theorem State.takeUp_zones (s : State) (c : Instr) :
    (s.takeUp c).zones = s.zones := rfl

@[simp] theorem State.takeUp_filters (s : State) (c : Instr) :
    (s.takeUp c).filters = s.filters := rfl

@[simp] theorem State.takeUp_reg (s : State) (c : Instr) :
    (s.takeUp c).reg = s.reg := rfl

@[simp] theorem State.takeUp_docks (s : State) (c : Instr) :
    (s.takeUp c).docks = s.docks := rfl

@[simp] theorem State.takeUp_idle (s : State) (c : Instr) :
    (s.takeUp c).idle = s.idle := rfl

@[simp] theorem State.takeUp_queues (s : State) (c : Instr) :
    (s.takeUp c).queues = s.queues := rfl

@[simp] theorem State.takeUp_lines (s : State) (c : Instr) :
    (s.takeUp c).lines = s.lines := rfl

@[simp] theorem State.takeUp_conds (s : State) (c : Instr) :
    (s.takeUp c).conds = s.conds := rfl

@[simp] theorem State.takeUp_profiles (s : State) (c : Instr) :
    (s.takeUp c).profiles = s.profiles := rfl

@[simp] theorem State.takeUp_segments (s : State) (c : Instr) :
    (s.takeUp c).segments = s.segments := rfl

@[simp] theorem State.takeUp_cadence (s : State) (c : Instr) :
    (s.takeUp c).cadence = s.cadence := rfl

@[simp] theorem State.takeUp_inputs (s : State) (c : Instr) :
    (s.takeUp c).inputs = s.inputs := rfl

@[simp] theorem State.takeUp_verifier (s : State) (c : Instr) :
    (s.takeUp c).verifier = s.verifier := rfl

@[simp] theorem State.takeUp_events (s : State) (c : Instr) :
    (s.takeUp c).events = s.events := rfl

@[simp] theorem State.takeUp_us (s : State) (c : Instr) :
    (s.takeUp c).us = s.us := rfl

@[simp] theorem State.takeUp_phase (s : State) (c : Instr) :
    (s.takeUp c).phase = s.phase := rfl

@[simp] theorem State.takeUp_free (s : State) (c : Instr) :
    (s.takeUp c).free = s.free := rfl

@[simp] theorem State.takeUp_portB (s : State) (c : Instr) :
    (s.takeUp c).portB = s.portB := rfl

@[simp] theorem State.takeUp_regulatorOut (s : State) (c : Instr) :
    (s.takeUp c).regulatorOut = s.regulatorOut := rfl

@[simp] theorem State.takeUp_pumpOut (s : State) (c : Instr) :
    (s.takeUp c).pumpOut = s.pumpOut := rfl

/-! ### `handWriteNotice` -/

@[simp] theorem State.handWriteNotice_pending (s : State) (x : WrittenEntry) :
    (s.handWriteNotice x).pending = s.pending := rfl

@[simp] theorem State.handWriteNotice_handed (s : State) (x : WrittenEntry) :
    (s.handWriteNotice x).handed = s.handed ++ [.writeNotice (WrittenEntry.group x)] := rfl

@[simp] theorem State.handWriteNotice_awaiting (s : State) (x : WrittenEntry) :
    (s.handWriteNotice x).awaiting = s.awaiting := rfl

@[simp] theorem State.handWriteNotice_written (s : State) (x : WrittenEntry) :
    (s.handWriteNotice x).written = s.written ++ [x] := rfl

@[simp] theorem State.handWriteNotice_ring (s : State) (x : WrittenEntry) :
    (s.handWriteNotice x).ring = s.ring := rfl

@[simp] theorem State.handWriteNotice_map (s : State) (x : WrittenEntry) :
    (s.handWriteNotice x).map = s.map := rfl

@[simp] theorem State.handWriteNotice_store (s : State) (x : WrittenEntry) :
    (s.handWriteNotice x).store = s.store := rfl

@[simp] theorem State.handWriteNotice_heads (s : State) (x : WrittenEntry) :
    (s.handWriteNotice x).heads = s.heads := rfl

@[simp] theorem State.handWriteNotice_zones (s : State) (x : WrittenEntry) :
    (s.handWriteNotice x).zones = s.zones := rfl

@[simp] theorem State.handWriteNotice_filters (s : State) (x : WrittenEntry) :
    (s.handWriteNotice x).filters = s.filters := rfl

@[simp] theorem State.handWriteNotice_reg (s : State) (x : WrittenEntry) :
    (s.handWriteNotice x).reg = s.reg := rfl

@[simp] theorem State.handWriteNotice_docks (s : State) (x : WrittenEntry) :
    (s.handWriteNotice x).docks = s.docks := rfl

@[simp] theorem State.handWriteNotice_idle (s : State) (x : WrittenEntry) :
    (s.handWriteNotice x).idle = s.idle := rfl

@[simp] theorem State.handWriteNotice_queues (s : State) (x : WrittenEntry) :
    (s.handWriteNotice x).queues = s.queues := rfl

@[simp] theorem State.handWriteNotice_lines (s : State) (x : WrittenEntry) :
    (s.handWriteNotice x).lines = s.lines := rfl

@[simp] theorem State.handWriteNotice_conds (s : State) (x : WrittenEntry) :
    (s.handWriteNotice x).conds = s.conds := rfl

@[simp] theorem State.handWriteNotice_profiles (s : State) (x : WrittenEntry) :
    (s.handWriteNotice x).profiles = s.profiles := rfl

@[simp] theorem State.handWriteNotice_segments (s : State) (x : WrittenEntry) :
    (s.handWriteNotice x).segments = s.segments := rfl

@[simp] theorem State.handWriteNotice_cadence (s : State) (x : WrittenEntry) :
    (s.handWriteNotice x).cadence = s.cadence := rfl

@[simp] theorem State.handWriteNotice_inputs (s : State) (x : WrittenEntry) :
    (s.handWriteNotice x).inputs = s.inputs := rfl

@[simp] theorem State.handWriteNotice_verifier (s : State) (x : WrittenEntry) :
    (s.handWriteNotice x).verifier = s.verifier := rfl

@[simp] theorem State.handWriteNotice_events (s : State) (x : WrittenEntry) :
    (s.handWriteNotice x).events = s.events := rfl

@[simp] theorem State.handWriteNotice_us (s : State) (x : WrittenEntry) :
    (s.handWriteNotice x).us = s.us := rfl

@[simp] theorem State.handWriteNotice_phase (s : State) (x : WrittenEntry) :
    (s.handWriteNotice x).phase = s.phase := rfl

@[simp] theorem State.handWriteNotice_free (s : State) (x : WrittenEntry) :
    (s.handWriteNotice x).free = s.free := rfl

@[simp] theorem State.handWriteNotice_portB (s : State) (x : WrittenEntry) :
    (s.handWriteNotice x).portB = s.portB := rfl

@[simp] theorem State.handWriteNotice_regulatorOut (s : State) (x : WrittenEntry) :
    (s.handWriteNotice x).regulatorOut = s.regulatorOut := rfl

@[simp] theorem State.handWriteNotice_pumpOut (s : State) (x : WrittenEntry) :
    (s.handWriteNotice x).pumpOut = s.pumpOut := rfl

/-! ### `await` -/

@[simp] theorem State.await_pending (s : State) (n : Nat) (cs : List Instr) :
    (s.await n cs).pending = s.pending := rfl

@[simp] theorem State.await_handed (s : State) (n : Nat) (cs : List Instr) :
    (s.await n cs).handed = s.handed := rfl

@[simp] theorem State.await_awaiting (s : State) (n : Nat) (cs : List Instr) :
    (s.await n cs).awaiting = s.awaiting ++ cs.map fun c => ⟨n, c⟩ := rfl

@[simp] theorem State.await_written (s : State) (n : Nat) (cs : List Instr) :
    (s.await n cs).written = s.written := rfl

@[simp] theorem State.await_ring (s : State) (n : Nat) (cs : List Instr) :
    (s.await n cs).ring = s.ring := rfl

@[simp] theorem State.await_map (s : State) (n : Nat) (cs : List Instr) :
    (s.await n cs).map = s.map := rfl

@[simp] theorem State.await_store (s : State) (n : Nat) (cs : List Instr) :
    (s.await n cs).store = s.store := rfl

@[simp] theorem State.await_heads (s : State) (n : Nat) (cs : List Instr) :
    (s.await n cs).heads = s.heads := rfl

@[simp] theorem State.await_zones (s : State) (n : Nat) (cs : List Instr) :
    (s.await n cs).zones = s.zones := rfl

@[simp] theorem State.await_filters (s : State) (n : Nat) (cs : List Instr) :
    (s.await n cs).filters = s.filters := rfl

@[simp] theorem State.await_reg (s : State) (n : Nat) (cs : List Instr) :
    (s.await n cs).reg = s.reg := rfl

@[simp] theorem State.await_docks (s : State) (n : Nat) (cs : List Instr) :
    (s.await n cs).docks = s.docks := rfl

@[simp] theorem State.await_idle (s : State) (n : Nat) (cs : List Instr) :
    (s.await n cs).idle = s.idle := rfl

@[simp] theorem State.await_queues (s : State) (n : Nat) (cs : List Instr) :
    (s.await n cs).queues = s.queues := rfl

@[simp] theorem State.await_lines (s : State) (n : Nat) (cs : List Instr) :
    (s.await n cs).lines = s.lines := rfl

@[simp] theorem State.await_conds (s : State) (n : Nat) (cs : List Instr) :
    (s.await n cs).conds = s.conds := rfl

@[simp] theorem State.await_profiles (s : State) (n : Nat) (cs : List Instr) :
    (s.await n cs).profiles = s.profiles := rfl

@[simp] theorem State.await_segments (s : State) (n : Nat) (cs : List Instr) :
    (s.await n cs).segments = s.segments := rfl

@[simp] theorem State.await_cadence (s : State) (n : Nat) (cs : List Instr) :
    (s.await n cs).cadence = s.cadence := rfl

@[simp] theorem State.await_inputs (s : State) (n : Nat) (cs : List Instr) :
    (s.await n cs).inputs = s.inputs := rfl

@[simp] theorem State.await_verifier (s : State) (n : Nat) (cs : List Instr) :
    (s.await n cs).verifier = s.verifier := rfl

@[simp] theorem State.await_events (s : State) (n : Nat) (cs : List Instr) :
    (s.await n cs).events = s.events := rfl

@[simp] theorem State.await_us (s : State) (n : Nat) (cs : List Instr) :
    (s.await n cs).us = s.us := rfl

@[simp] theorem State.await_phase (s : State) (n : Nat) (cs : List Instr) :
    (s.await n cs).phase = s.phase := rfl

@[simp] theorem State.await_free (s : State) (n : Nat) (cs : List Instr) :
    (s.await n cs).free = s.free := rfl

@[simp] theorem State.await_portB (s : State) (n : Nat) (cs : List Instr) :
    (s.await n cs).portB = s.portB := rfl

@[simp] theorem State.await_regulatorOut (s : State) (n : Nat) (cs : List Instr) :
    (s.await n cs).regulatorOut = s.regulatorOut := rfl

@[simp] theorem State.await_pumpOut (s : State) (n : Nat) (cs : List Instr) :
    (s.await n cs).pumpOut = s.pumpOut := rfl

/-! ### `idles` -/

@[simp] theorem State.idles_pending (s : State) :
    (s.idles).pending = s.pending := rfl

@[simp] theorem State.idles_handed (s : State) :
    (s.idles).handed = s.handed := rfl

@[simp] theorem State.idles_awaiting (s : State) :
    (s.idles).awaiting = s.awaiting := rfl

@[simp] theorem State.idles_written (s : State) :
    (s.idles).written = s.written := rfl

@[simp] theorem State.idles_ring (s : State) :
    (s.idles).ring = s.ring := rfl

@[simp] theorem State.idles_map (s : State) :
    (s.idles).map = s.map := rfl

@[simp] theorem State.idles_store (s : State) :
    (s.idles).store = s.store := rfl

@[simp] theorem State.idles_heads (s : State) :
    (s.idles).heads = s.heads := rfl

@[simp] theorem State.idles_zones (s : State) :
    (s.idles).zones = s.zones := rfl

@[simp] theorem State.idles_filters (s : State) :
    (s.idles).filters = s.filters := rfl

@[simp] theorem State.idles_reg (s : State) :
    (s.idles).reg = s.reg := rfl

@[simp] theorem State.idles_docks (s : State) :
    (s.idles).docks = s.docks := rfl

@[simp] theorem State.idles_idle (s : State) :
    (s.idles).idle = s.idle := rfl

@[simp] theorem State.idles_queues (s : State) :
    (s.idles).queues = s.queues := rfl

@[simp] theorem State.idles_lines (s : State) :
    (s.idles).lines = s.lines := rfl

@[simp] theorem State.idles_conds (s : State) :
    (s.idles).conds = s.conds := rfl

@[simp] theorem State.idles_profiles (s : State) :
    (s.idles).profiles = s.profiles := rfl

@[simp] theorem State.idles_segments (s : State) :
    (s.idles).segments = s.segments := rfl

@[simp] theorem State.idles_cadence (s : State) :
    (s.idles).cadence = s.cadence := rfl

@[simp] theorem State.idles_inputs (s : State) :
    (s.idles).inputs = s.inputs := rfl

@[simp] theorem State.idles_verifier (s : State) :
    (s.idles).verifier = s.verifier := rfl

@[simp] theorem State.idles_events (s : State) :
    (s.idles).events = s.events := rfl

@[simp] theorem State.idles_us (s : State) :
    (s.idles).us = s.us := rfl

@[simp] theorem State.idles_phase (s : State) :
    (s.idles).phase = s.phase := rfl

@[simp] theorem State.idles_free (s : State) :
    (s.idles).free = s.free := rfl

@[simp] theorem State.idles_portB (s : State) :
    (s.idles).portB = s.portB ++ [.idleSymbol] := rfl

@[simp] theorem State.idles_regulatorOut (s : State) :
    (s.idles).regulatorOut = s.regulatorOut := rfl

@[simp] theorem State.idles_pumpOut (s : State) :
    (s.idles).pumpOut = s.pumpOut := rfl

/-! ### `raise` -/

@[simp] theorem State.raise_pending (s : State) (k : EventKind) (src : Source) (d e : Word16) :
    (s.raise k src d e).pending = s.pending := rfl

@[simp] theorem State.raise_handed (s : State) (k : EventKind) (src : Source) (d e : Word16) :
    (s.raise k src d e).handed = s.handed ++ [.eventRaise k src d e] := rfl

@[simp] theorem State.raise_awaiting (s : State) (k : EventKind) (src : Source) (d e : Word16) :
    (s.raise k src d e).awaiting = s.awaiting := rfl

@[simp] theorem State.raise_written (s : State) (k : EventKind) (src : Source) (d e : Word16) :
    (s.raise k src d e).written = s.written := rfl

@[simp] theorem State.raise_ring (s : State) (k : EventKind) (src : Source) (d e : Word16) :
    (s.raise k src d e).ring = s.ring := rfl

@[simp] theorem State.raise_map (s : State) (k : EventKind) (src : Source) (d e : Word16) :
    (s.raise k src d e).map = s.map := rfl

@[simp] theorem State.raise_store (s : State) (k : EventKind) (src : Source) (d e : Word16) :
    (s.raise k src d e).store = s.store := rfl

@[simp] theorem State.raise_heads (s : State) (k : EventKind) (src : Source) (d e : Word16) :
    (s.raise k src d e).heads = s.heads := rfl

@[simp] theorem State.raise_zones (s : State) (k : EventKind) (src : Source) (d e : Word16) :
    (s.raise k src d e).zones = s.zones := rfl

@[simp] theorem State.raise_filters (s : State) (k : EventKind) (src : Source) (d e : Word16) :
    (s.raise k src d e).filters = s.filters := rfl

@[simp] theorem State.raise_reg (s : State) (k : EventKind) (src : Source) (d e : Word16) :
    (s.raise k src d e).reg = s.reg := rfl

@[simp] theorem State.raise_docks (s : State) (k : EventKind) (src : Source) (d e : Word16) :
    (s.raise k src d e).docks = s.docks := rfl

@[simp] theorem State.raise_idle (s : State) (k : EventKind) (src : Source) (d e : Word16) :
    (s.raise k src d e).idle = s.idle := rfl

@[simp] theorem State.raise_queues (s : State) (k : EventKind) (src : Source) (d e : Word16) :
    (s.raise k src d e).queues = s.queues := rfl

@[simp] theorem State.raise_lines (s : State) (k : EventKind) (src : Source) (d e : Word16) :
    (s.raise k src d e).lines = s.lines := rfl

@[simp] theorem State.raise_conds (s : State) (k : EventKind) (src : Source) (d e : Word16) :
    (s.raise k src d e).conds = s.conds := rfl

@[simp] theorem State.raise_profiles (s : State) (k : EventKind) (src : Source) (d e : Word16) :
    (s.raise k src d e).profiles = s.profiles := rfl

@[simp] theorem State.raise_segments (s : State) (k : EventKind) (src : Source) (d e : Word16) :
    (s.raise k src d e).segments = s.segments := rfl

@[simp] theorem State.raise_cadence (s : State) (k : EventKind) (src : Source) (d e : Word16) :
    (s.raise k src d e).cadence = s.cadence := rfl

@[simp] theorem State.raise_inputs (s : State) (k : EventKind) (src : Source) (d e : Word16) :
    (s.raise k src d e).inputs = s.inputs := rfl

@[simp] theorem State.raise_verifier (s : State) (k : EventKind) (src : Source) (d e : Word16) :
    (s.raise k src d e).verifier = s.verifier := rfl

@[simp] theorem State.raise_events (s : State) (k : EventKind) (src : Source) (d e : Word16) :
    (s.raise k src d e).events = s.events := rfl

@[simp] theorem State.raise_us (s : State) (k : EventKind) (src : Source) (d e : Word16) :
    (s.raise k src d e).us = s.us := rfl

@[simp] theorem State.raise_phase (s : State) (k : EventKind) (src : Source) (d e : Word16) :
    (s.raise k src d e).phase = s.phase := rfl

@[simp] theorem State.raise_free (s : State) (k : EventKind) (src : Source) (d e : Word16) :
    (s.raise k src d e).free = s.free := rfl

@[simp] theorem State.raise_portB (s : State) (k : EventKind) (src : Source) (d e : Word16) :
    (s.raise k src d e).portB = s.portB := rfl

@[simp] theorem State.raise_regulatorOut (s : State) (k : EventKind) (src : Source) (d e : Word16) :
    (s.raise k src d e).regulatorOut = s.regulatorOut := rfl

@[simp] theorem State.raise_pumpOut (s : State) (k : EventKind) (src : Source) (d e : Word16) :
    (s.raise k src d e).pumpOut = s.pumpOut := rfl

/-! ### `raiseDropped` -/

@[simp] theorem State.raiseDropped_pending (s : State) (g : Group) (t : TableId) (b : Bool) (n : Nat) :
    (s.raiseDropped g t b n).pending = s.pending := rfl

@[simp] theorem State.raiseDropped_handed (s : State) (g : Group) (t : TableId) (b : Bool) (n : Nat) :
    (s.raiseDropped g t b n).handed =
      s.handed ++ [.eventRaise .writeDropped (.group g) (dropDetail t b) (w16 n)] :=
    rfl

@[simp] theorem State.raiseDropped_awaiting (s : State) (g : Group) (t : TableId) (b : Bool) (n : Nat) :
    (s.raiseDropped g t b n).awaiting = s.awaiting := rfl

@[simp] theorem State.raiseDropped_written (s : State) (g : Group) (t : TableId) (b : Bool) (n : Nat) :
    (s.raiseDropped g t b n).written = s.written := rfl

@[simp] theorem State.raiseDropped_ring (s : State) (g : Group) (t : TableId) (b : Bool) (n : Nat) :
    (s.raiseDropped g t b n).ring = s.ring := rfl

@[simp] theorem State.raiseDropped_map (s : State) (g : Group) (t : TableId) (b : Bool) (n : Nat) :
    (s.raiseDropped g t b n).map = s.map := rfl

@[simp] theorem State.raiseDropped_store (s : State) (g : Group) (t : TableId) (b : Bool) (n : Nat) :
    (s.raiseDropped g t b n).store = s.store := rfl

@[simp] theorem State.raiseDropped_heads (s : State) (g : Group) (t : TableId) (b : Bool) (n : Nat) :
    (s.raiseDropped g t b n).heads = s.heads := rfl

@[simp] theorem State.raiseDropped_zones (s : State) (g : Group) (t : TableId) (b : Bool) (n : Nat) :
    (s.raiseDropped g t b n).zones = s.zones := rfl

@[simp] theorem State.raiseDropped_filters (s : State) (g : Group) (t : TableId) (b : Bool) (n : Nat) :
    (s.raiseDropped g t b n).filters = s.filters := rfl

@[simp] theorem State.raiseDropped_reg (s : State) (g : Group) (t : TableId) (b : Bool) (n : Nat) :
    (s.raiseDropped g t b n).reg = s.reg := rfl

@[simp] theorem State.raiseDropped_docks (s : State) (g : Group) (t : TableId) (b : Bool) (n : Nat) :
    (s.raiseDropped g t b n).docks = s.docks := rfl

@[simp] theorem State.raiseDropped_idle (s : State) (g : Group) (t : TableId) (b : Bool) (n : Nat) :
    (s.raiseDropped g t b n).idle = s.idle := rfl

@[simp] theorem State.raiseDropped_queues (s : State) (g : Group) (t : TableId) (b : Bool) (n : Nat) :
    (s.raiseDropped g t b n).queues = s.queues := rfl

@[simp] theorem State.raiseDropped_lines (s : State) (g : Group) (t : TableId) (b : Bool) (n : Nat) :
    (s.raiseDropped g t b n).lines = s.lines := rfl

@[simp] theorem State.raiseDropped_conds (s : State) (g : Group) (t : TableId) (b : Bool) (n : Nat) :
    (s.raiseDropped g t b n).conds = s.conds := rfl

@[simp] theorem State.raiseDropped_profiles (s : State) (g : Group) (t : TableId) (b : Bool) (n : Nat) :
    (s.raiseDropped g t b n).profiles = s.profiles := rfl

@[simp] theorem State.raiseDropped_segments (s : State) (g : Group) (t : TableId) (b : Bool) (n : Nat) :
    (s.raiseDropped g t b n).segments = s.segments := rfl

@[simp] theorem State.raiseDropped_cadence (s : State) (g : Group) (t : TableId) (b : Bool) (n : Nat) :
    (s.raiseDropped g t b n).cadence = s.cadence := rfl

@[simp] theorem State.raiseDropped_inputs (s : State) (g : Group) (t : TableId) (b : Bool) (n : Nat) :
    (s.raiseDropped g t b n).inputs = s.inputs := rfl

@[simp] theorem State.raiseDropped_verifier (s : State) (g : Group) (t : TableId) (b : Bool) (n : Nat) :
    (s.raiseDropped g t b n).verifier = s.verifier := rfl

@[simp] theorem State.raiseDropped_events (s : State) (g : Group) (t : TableId) (b : Bool) (n : Nat) :
    (s.raiseDropped g t b n).events = s.events := rfl

@[simp] theorem State.raiseDropped_us (s : State) (g : Group) (t : TableId) (b : Bool) (n : Nat) :
    (s.raiseDropped g t b n).us = s.us := rfl

@[simp] theorem State.raiseDropped_phase (s : State) (g : Group) (t : TableId) (b : Bool) (n : Nat) :
    (s.raiseDropped g t b n).phase = s.phase := rfl

@[simp] theorem State.raiseDropped_free (s : State) (g : Group) (t : TableId) (b : Bool) (n : Nat) :
    (s.raiseDropped g t b n).free = s.free := rfl

@[simp] theorem State.raiseDropped_portB (s : State) (g : Group) (t : TableId) (b : Bool) (n : Nat) :
    (s.raiseDropped g t b n).portB = s.portB := rfl

@[simp] theorem State.raiseDropped_regulatorOut (s : State) (g : Group) (t : TableId) (b : Bool) (n : Nat) :
    (s.raiseDropped g t b n).regulatorOut = s.regulatorOut := rfl

@[simp] theorem State.raiseDropped_pumpOut (s : State) (g : Group) (t : TableId) (b : Bool) (n : Nat) :
    (s.raiseDropped g t b n).pumpOut = s.pumpOut := rfl

/-! ### `emit` -/

@[simp] theorem State.emit_pending (s : State) (xs : List PortSymbol) :
    (s.emit xs).pending = s.pending := rfl

@[simp] theorem State.emit_handed (s : State) (xs : List PortSymbol) :
    (s.emit xs).handed = s.handed := rfl

@[simp] theorem State.emit_awaiting (s : State) (xs : List PortSymbol) :
    (s.emit xs).awaiting = s.awaiting := rfl

@[simp] theorem State.emit_written (s : State) (xs : List PortSymbol) :
    (s.emit xs).written = s.written := rfl

@[simp] theorem State.emit_ring (s : State) (xs : List PortSymbol) :
    (s.emit xs).ring = s.ring := rfl

@[simp] theorem State.emit_map (s : State) (xs : List PortSymbol) :
    (s.emit xs).map = s.map := rfl

@[simp] theorem State.emit_store (s : State) (xs : List PortSymbol) :
    (s.emit xs).store = s.store := rfl

@[simp] theorem State.emit_heads (s : State) (xs : List PortSymbol) :
    (s.emit xs).heads = s.heads := rfl

@[simp] theorem State.emit_zones (s : State) (xs : List PortSymbol) :
    (s.emit xs).zones = s.zones := rfl

@[simp] theorem State.emit_filters (s : State) (xs : List PortSymbol) :
    (s.emit xs).filters = s.filters := rfl

@[simp] theorem State.emit_reg (s : State) (xs : List PortSymbol) :
    (s.emit xs).reg = s.reg := rfl

@[simp] theorem State.emit_docks (s : State) (xs : List PortSymbol) :
    (s.emit xs).docks = s.docks := rfl

@[simp] theorem State.emit_idle (s : State) (xs : List PortSymbol) :
    (s.emit xs).idle = s.idle := rfl

@[simp] theorem State.emit_queues (s : State) (xs : List PortSymbol) :
    (s.emit xs).queues = s.queues := rfl

@[simp] theorem State.emit_lines (s : State) (xs : List PortSymbol) :
    (s.emit xs).lines = s.lines := rfl

@[simp] theorem State.emit_conds (s : State) (xs : List PortSymbol) :
    (s.emit xs).conds = s.conds := rfl

@[simp] theorem State.emit_profiles (s : State) (xs : List PortSymbol) :
    (s.emit xs).profiles = s.profiles := rfl

@[simp] theorem State.emit_segments (s : State) (xs : List PortSymbol) :
    (s.emit xs).segments = s.segments := rfl

@[simp] theorem State.emit_cadence (s : State) (xs : List PortSymbol) :
    (s.emit xs).cadence = s.cadence := rfl

@[simp] theorem State.emit_inputs (s : State) (xs : List PortSymbol) :
    (s.emit xs).inputs = s.inputs := rfl

@[simp] theorem State.emit_verifier (s : State) (xs : List PortSymbol) :
    (s.emit xs).verifier = s.verifier := rfl

@[simp] theorem State.emit_events (s : State) (xs : List PortSymbol) :
    (s.emit xs).events = s.events := rfl

@[simp] theorem State.emit_us (s : State) (xs : List PortSymbol) :
    (s.emit xs).us = s.us := rfl

@[simp] theorem State.emit_phase (s : State) (xs : List PortSymbol) :
    (s.emit xs).phase = s.phase := rfl

@[simp] theorem State.emit_free (s : State) (xs : List PortSymbol) :
    (s.emit xs).free = s.free := rfl

@[simp] theorem State.emit_portB (s : State) (xs : List PortSymbol) :
    (s.emit xs).portB = s.portB ++ xs := rfl

@[simp] theorem State.emit_regulatorOut (s : State) (xs : List PortSymbol) :
    (s.emit xs).regulatorOut = s.regulatorOut := rfl

@[simp] theorem State.emit_pumpOut (s : State) (xs : List PortSymbol) :
    (s.emit xs).pumpOut = s.pumpOut := rfl

/-! ### `emitOctets` -/

@[simp] theorem State.emitOctets_pending (s : State) (os : List Octet) :
    (s.emitOctets os).pending = s.pending := rfl

@[simp] theorem State.emitOctets_handed (s : State) (os : List Octet) :
    (s.emitOctets os).handed = s.handed := rfl

@[simp] theorem State.emitOctets_awaiting (s : State) (os : List Octet) :
    (s.emitOctets os).awaiting = s.awaiting := rfl

@[simp] theorem State.emitOctets_written (s : State) (os : List Octet) :
    (s.emitOctets os).written = s.written := rfl

@[simp] theorem State.emitOctets_ring (s : State) (os : List Octet) :
    (s.emitOctets os).ring = s.ring := rfl

@[simp] theorem State.emitOctets_map (s : State) (os : List Octet) :
    (s.emitOctets os).map = s.map := rfl

@[simp] theorem State.emitOctets_store (s : State) (os : List Octet) :
    (s.emitOctets os).store = s.store := rfl

@[simp] theorem State.emitOctets_heads (s : State) (os : List Octet) :
    (s.emitOctets os).heads = s.heads := rfl

@[simp] theorem State.emitOctets_zones (s : State) (os : List Octet) :
    (s.emitOctets os).zones = s.zones := rfl

@[simp] theorem State.emitOctets_filters (s : State) (os : List Octet) :
    (s.emitOctets os).filters = s.filters := rfl

@[simp] theorem State.emitOctets_reg (s : State) (os : List Octet) :
    (s.emitOctets os).reg = s.reg := rfl

@[simp] theorem State.emitOctets_docks (s : State) (os : List Octet) :
    (s.emitOctets os).docks = s.docks := rfl

@[simp] theorem State.emitOctets_idle (s : State) (os : List Octet) :
    (s.emitOctets os).idle = s.idle := rfl

@[simp] theorem State.emitOctets_queues (s : State) (os : List Octet) :
    (s.emitOctets os).queues = s.queues := rfl

@[simp] theorem State.emitOctets_lines (s : State) (os : List Octet) :
    (s.emitOctets os).lines = s.lines := rfl

@[simp] theorem State.emitOctets_conds (s : State) (os : List Octet) :
    (s.emitOctets os).conds = s.conds := rfl

@[simp] theorem State.emitOctets_profiles (s : State) (os : List Octet) :
    (s.emitOctets os).profiles = s.profiles := rfl

@[simp] theorem State.emitOctets_segments (s : State) (os : List Octet) :
    (s.emitOctets os).segments = s.segments := rfl

@[simp] theorem State.emitOctets_cadence (s : State) (os : List Octet) :
    (s.emitOctets os).cadence = s.cadence := rfl

@[simp] theorem State.emitOctets_inputs (s : State) (os : List Octet) :
    (s.emitOctets os).inputs = s.inputs := rfl

@[simp] theorem State.emitOctets_verifier (s : State) (os : List Octet) :
    (s.emitOctets os).verifier = s.verifier := rfl

@[simp] theorem State.emitOctets_events (s : State) (os : List Octet) :
    (s.emitOctets os).events = s.events := rfl

@[simp] theorem State.emitOctets_us (s : State) (os : List Octet) :
    (s.emitOctets os).us = s.us := rfl

@[simp] theorem State.emitOctets_phase (s : State) (os : List Octet) :
    (s.emitOctets os).phase = s.phase := rfl

@[simp] theorem State.emitOctets_free (s : State) (os : List Octet) :
    (s.emitOctets os).free = s.free := rfl

@[simp] theorem State.emitOctets_portB (s : State) (os : List Octet) :
    (s.emitOctets os).portB = s.portB ++ os.map PortSymbol.octet := rfl

@[simp] theorem State.emitOctets_regulatorOut (s : State) (os : List Octet) :
    (s.emitOctets os).regulatorOut = s.regulatorOut := rfl

@[simp] theorem State.emitOctets_pumpOut (s : State) (os : List Octet) :
    (s.emitOctets os).pumpOut = s.pumpOut := rfl

/-! ### `setFrame` -/

@[simp] theorem State.setFrame_pending (s : State) (f : FrameContext) (st : Reception) :
    (s.setFrame f st).pending = s.pending := rfl

@[simp] theorem State.setFrame_handed (s : State) (f : FrameContext) (st : Reception) :
    (s.setFrame f st).handed = s.handed := rfl

@[simp] theorem State.setFrame_awaiting (s : State) (f : FrameContext) (st : Reception) :
    (s.setFrame f st).awaiting = s.awaiting := rfl

@[simp] theorem State.setFrame_written (s : State) (f : FrameContext) (st : Reception) :
    (s.setFrame f st).written = s.written := rfl

@[simp] theorem State.setFrame_ring (s : State) (f : FrameContext) (st : Reception) :
    (s.setFrame f st).ring = { s.ring with frame := f, reception := st } := rfl

@[simp] theorem State.setFrame_map (s : State) (f : FrameContext) (st : Reception) :
    (s.setFrame f st).map = s.map := rfl

@[simp] theorem State.setFrame_store (s : State) (f : FrameContext) (st : Reception) :
    (s.setFrame f st).store = s.store := rfl

@[simp] theorem State.setFrame_heads (s : State) (f : FrameContext) (st : Reception) :
    (s.setFrame f st).heads = s.heads := rfl

@[simp] theorem State.setFrame_zones (s : State) (f : FrameContext) (st : Reception) :
    (s.setFrame f st).zones = s.zones := rfl

@[simp] theorem State.setFrame_filters (s : State) (f : FrameContext) (st : Reception) :
    (s.setFrame f st).filters = s.filters := rfl

@[simp] theorem State.setFrame_reg (s : State) (f : FrameContext) (st : Reception) :
    (s.setFrame f st).reg = s.reg := rfl

@[simp] theorem State.setFrame_docks (s : State) (f : FrameContext) (st : Reception) :
    (s.setFrame f st).docks = s.docks := rfl

@[simp] theorem State.setFrame_idle (s : State) (f : FrameContext) (st : Reception) :
    (s.setFrame f st).idle = s.idle := rfl

@[simp] theorem State.setFrame_queues (s : State) (f : FrameContext) (st : Reception) :
    (s.setFrame f st).queues = s.queues := rfl

@[simp] theorem State.setFrame_lines (s : State) (f : FrameContext) (st : Reception) :
    (s.setFrame f st).lines = s.lines := rfl

@[simp] theorem State.setFrame_conds (s : State) (f : FrameContext) (st : Reception) :
    (s.setFrame f st).conds = s.conds := rfl

@[simp] theorem State.setFrame_profiles (s : State) (f : FrameContext) (st : Reception) :
    (s.setFrame f st).profiles = s.profiles := rfl

@[simp] theorem State.setFrame_segments (s : State) (f : FrameContext) (st : Reception) :
    (s.setFrame f st).segments = s.segments := rfl

@[simp] theorem State.setFrame_cadence (s : State) (f : FrameContext) (st : Reception) :
    (s.setFrame f st).cadence = s.cadence := rfl

@[simp] theorem State.setFrame_inputs (s : State) (f : FrameContext) (st : Reception) :
    (s.setFrame f st).inputs = s.inputs := rfl

@[simp] theorem State.setFrame_verifier (s : State) (f : FrameContext) (st : Reception) :
    (s.setFrame f st).verifier = s.verifier := rfl

@[simp] theorem State.setFrame_events (s : State) (f : FrameContext) (st : Reception) :
    (s.setFrame f st).events = s.events := rfl

@[simp] theorem State.setFrame_us (s : State) (f : FrameContext) (st : Reception) :
    (s.setFrame f st).us = s.us := rfl

@[simp] theorem State.setFrame_phase (s : State) (f : FrameContext) (st : Reception) :
    (s.setFrame f st).phase = s.phase := rfl

@[simp] theorem State.setFrame_free (s : State) (f : FrameContext) (st : Reception) :
    (s.setFrame f st).free = s.free := rfl

@[simp] theorem State.setFrame_portB (s : State) (f : FrameContext) (st : Reception) :
    (s.setFrame f st).portB = s.portB := rfl

@[simp] theorem State.setFrame_regulatorOut (s : State) (f : FrameContext) (st : Reception) :
    (s.setFrame f st).regulatorOut = s.regulatorOut := rfl

@[simp] theorem State.setFrame_pumpOut (s : State) (f : FrameContext) (st : Reception) :
    (s.setFrame f st).pumpOut = s.pumpOut := rfl

/-! ### `enqueue` -/

@[simp] theorem State.enqueue_pending (s : State) (k : EventKind) (src : Source) (d e : Word16) :
    (s.enqueue k src d e).pending = s.pending := rfl

@[simp] theorem State.enqueue_handed (s : State) (k : EventKind) (src : Source) (d e : Word16) :
    (s.enqueue k src d e).handed = s.handed := rfl

@[simp] theorem State.enqueue_awaiting (s : State) (k : EventKind) (src : Source) (d e : Word16) :
    (s.enqueue k src d e).awaiting = s.awaiting := rfl

@[simp] theorem State.enqueue_written (s : State) (k : EventKind) (src : Source) (d e : Word16) :
    (s.enqueue k src d e).written = s.written := rfl

@[simp] theorem State.enqueue_ring (s : State) (k : EventKind) (src : Source) (d e : Word16) :
    (s.enqueue k src d e).ring = s.ring := rfl

@[simp] theorem State.enqueue_map (s : State) (k : EventKind) (src : Source) (d e : Word16) :
    (s.enqueue k src d e).map = s.map := rfl

@[simp] theorem State.enqueue_store (s : State) (k : EventKind) (src : Source) (d e : Word16) :
    (s.enqueue k src d e).store = s.store := rfl

@[simp] theorem State.enqueue_heads (s : State) (k : EventKind) (src : Source) (d e : Word16) :
    (s.enqueue k src d e).heads = s.heads := rfl

@[simp] theorem State.enqueue_zones (s : State) (k : EventKind) (src : Source) (d e : Word16) :
    (s.enqueue k src d e).zones = s.zones := rfl

@[simp] theorem State.enqueue_filters (s : State) (k : EventKind) (src : Source) (d e : Word16) :
    (s.enqueue k src d e).filters = s.filters := rfl

@[simp] theorem State.enqueue_reg (s : State) (k : EventKind) (src : Source) (d e : Word16) :
    (s.enqueue k src d e).reg = s.reg := rfl

@[simp] theorem State.enqueue_docks (s : State) (k : EventKind) (src : Source) (d e : Word16) :
    (s.enqueue k src d e).docks = s.docks := rfl

@[simp] theorem State.enqueue_idle (s : State) (k : EventKind) (src : Source) (d e : Word16) :
    (s.enqueue k src d e).idle = s.idle := rfl

@[simp] theorem State.enqueue_queues (s : State) (k : EventKind) (src : Source) (d e : Word16) :
    (s.enqueue k src d e).queues = s.queues := rfl

@[simp] theorem State.enqueue_lines (s : State) (k : EventKind) (src : Source) (d e : Word16) :
    (s.enqueue k src d e).lines = s.lines := rfl

@[simp] theorem State.enqueue_conds (s : State) (k : EventKind) (src : Source) (d e : Word16) :
    (s.enqueue k src d e).conds = s.conds := rfl

@[simp] theorem State.enqueue_profiles (s : State) (k : EventKind) (src : Source) (d e : Word16) :
    (s.enqueue k src d e).profiles = s.profiles := rfl

@[simp] theorem State.enqueue_segments (s : State) (k : EventKind) (src : Source) (d e : Word16) :
    (s.enqueue k src d e).segments = s.segments := rfl

@[simp] theorem State.enqueue_cadence (s : State) (k : EventKind) (src : Source) (d e : Word16) :
    (s.enqueue k src d e).cadence = s.cadence := rfl

@[simp] theorem State.enqueue_inputs (s : State) (k : EventKind) (src : Source) (d e : Word16) :
    (s.enqueue k src d e).inputs = s.inputs := rfl

@[simp] theorem State.enqueue_verifier (s : State) (k : EventKind) (src : Source) (d e : Word16) :
    (s.enqueue k src d e).verifier = s.verifier := rfl

@[simp] theorem State.enqueue_events (s : State) (k : EventKind) (src : Source) (d e : Word16) :
    (s.enqueue k src d e).events = raiseInto s.events k src d e s.ring.lastGood := rfl

@[simp] theorem State.enqueue_us (s : State) (k : EventKind) (src : Source) (d e : Word16) :
    (s.enqueue k src d e).us = s.us := rfl

@[simp] theorem State.enqueue_phase (s : State) (k : EventKind) (src : Source) (d e : Word16) :
    (s.enqueue k src d e).phase = s.phase := rfl

@[simp] theorem State.enqueue_free (s : State) (k : EventKind) (src : Source) (d e : Word16) :
    (s.enqueue k src d e).free = s.free := rfl

@[simp] theorem State.enqueue_portB (s : State) (k : EventKind) (src : Source) (d e : Word16) :
    (s.enqueue k src d e).portB = s.portB := rfl

@[simp] theorem State.enqueue_regulatorOut (s : State) (k : EventKind) (src : Source) (d e : Word16) :
    (s.enqueue k src d e).regulatorOut = s.regulatorOut := rfl

@[simp] theorem State.enqueue_pumpOut (s : State) (k : EventKind) (src : Source) (d e : Word16) :
    (s.enqueue k src d e).pumpOut = s.pumpOut := rfl

end Sys2Proof.Machine
end

