-- ==== Sys2Proof/Laws/Frames.lean ====
section
/-! SUPPORT. What each shared operation leaves alone: one lemma per operation, naming every field of
`State` that it does not change. -/

namespace Sys2Proof.Machine

open Sys2Proof

/-- A fold of steps that each leave `f` alone leaves `f` alone. -/
theorem foldl_leaves {σ α β : Type} (f : σ → β) (g : σ → α → σ) (h : ∀ s a, f (g s a) = f s)
    (l : List α) (s : σ) : f (l.foldl g s) = f s := by
  induction l generalizing s with
  | nil => rfl
  | cons a l ih => rw [List.foldl_cons, ih, h]

/-! ### Shared operations -/

@[simp] theorem State.markChange_frame (c : Chan) (a b : Nat) (s : State) :
    (s.markChange c a b).pending = s.pending ∧
      (s.markChange c a b).handed = s.handed ∧
      (s.markChange c a b).awaiting = s.awaiting ∧
      (s.markChange c a b).written = s.written ∧
      (s.markChange c a b).ring = s.ring ∧
      (s.markChange c a b).map = s.map ∧
      (s.markChange c a b).store = s.store ∧
      (s.markChange c a b).heads = s.heads ∧
      (s.markChange c a b).zones = s.zones ∧
      (s.markChange c a b).filters = s.filters ∧
      (s.markChange c a b).docks = s.docks ∧
      (s.markChange c a b).idle = s.idle ∧
      (s.markChange c a b).queues = s.queues ∧
      (s.markChange c a b).lines = s.lines ∧
      (s.markChange c a b).conds = s.conds ∧
      (s.markChange c a b).profiles = s.profiles ∧
      (s.markChange c a b).segments = s.segments ∧
      (s.markChange c a b).cadence = s.cadence ∧
      (s.markChange c a b).inputs = s.inputs ∧
      (s.markChange c a b).verifier = s.verifier ∧
      (s.markChange c a b).events = s.events ∧
      (s.markChange c a b).us = s.us ∧
      (s.markChange c a b).phase = s.phase ∧
      (s.markChange c a b).free = s.free ∧
      (s.markChange c a b).portB = s.portB ∧
      (s.markChange c a b).regulatorOut = s.regulatorOut ∧
      (s.markChange c a b).pumpOut = s.pumpOut := by
  unfold State.markChange
  try dsimp only
  (repeat' split) <;> simp

@[simp] theorem State.kickPort_frame (s : State) :
    (s.kickPort).pending = s.pending ∧
      (s.kickPort).handed = s.handed ∧
      (s.kickPort).awaiting = s.awaiting ∧
      (s.kickPort).written = s.written ∧
      (s.kickPort).ring = s.ring ∧
      (s.kickPort).map = s.map ∧
      (s.kickPort).store = s.store ∧
      (s.kickPort).heads = s.heads ∧
      (s.kickPort).zones = s.zones ∧
      (s.kickPort).filters = s.filters ∧
      (s.kickPort).docks = s.docks ∧
      (s.kickPort).idle = s.idle ∧
      (s.kickPort).queues = s.queues ∧
      (s.kickPort).lines = s.lines ∧
      (s.kickPort).conds = s.conds ∧
      (s.kickPort).profiles = s.profiles ∧
      (s.kickPort).segments = s.segments ∧
      (s.kickPort).cadence = s.cadence ∧
      (s.kickPort).inputs = s.inputs ∧
      (s.kickPort).verifier = s.verifier ∧
      (s.kickPort).events = s.events ∧
      (s.kickPort).us = s.us ∧
      (s.kickPort).phase = s.phase ∧
      (s.kickPort).free = s.free ∧
      (s.kickPort).portB = s.portB ∧
      (s.kickPort).pumpOut = s.pumpOut := by
  unfold State.kickPort
  try dsimp only
  (repeat' split) <;> simp

@[simp] theorem State.setSetpoint_frame (c : ZoneCh) (v : Nat) (s : State) :
    (s.setSetpoint c v).pending = s.pending ∧
      (s.setSetpoint c v).awaiting = s.awaiting ∧
      (s.setSetpoint c v).written = s.written ∧
      (s.setSetpoint c v).ring = s.ring ∧
      (s.setSetpoint c v).map = s.map ∧
      (s.setSetpoint c v).store = s.store ∧
      (s.setSetpoint c v).heads = s.heads ∧
      (s.setSetpoint c v).filters = s.filters ∧
      (s.setSetpoint c v).docks = s.docks ∧
      (s.setSetpoint c v).idle = s.idle ∧
      (s.setSetpoint c v).queues = s.queues ∧
      (s.setSetpoint c v).lines = s.lines ∧
      (s.setSetpoint c v).conds = s.conds ∧
      (s.setSetpoint c v).profiles = s.profiles ∧
      (s.setSetpoint c v).segments = s.segments ∧
      (s.setSetpoint c v).cadence = s.cadence ∧
      (s.setSetpoint c v).inputs = s.inputs ∧
      (s.setSetpoint c v).verifier = s.verifier ∧
      (s.setSetpoint c v).events = s.events ∧
      (s.setSetpoint c v).us = s.us ∧
      (s.setSetpoint c v).phase = s.phase ∧
      (s.setSetpoint c v).free = s.free ∧
      (s.setSetpoint c v).portB = s.portB ∧
      (s.setSetpoint c v).regulatorOut = s.regulatorOut ∧
      (s.setSetpoint c v).pumpOut = s.pumpOut := by
  unfold State.setSetpoint
  try dsimp only
  (repeat' split) <;> simp

/-! ### Program Store -/

@[simp] theorem State.takeRelease_frame (h : Head) (s : State) :
    (s.takeRelease h).pending = s.pending ∧
      (s.takeRelease h).written = s.written ∧
      (s.takeRelease h).ring = s.ring ∧
      (s.takeRelease h).map = s.map ∧
      (s.takeRelease h).heads = s.heads ∧
      (s.takeRelease h).zones = s.zones ∧
      (s.takeRelease h).filters = s.filters ∧
      (s.takeRelease h).reg = s.reg ∧
      (s.takeRelease h).docks = s.docks ∧
      (s.takeRelease h).idle = s.idle ∧
      (s.takeRelease h).queues = s.queues ∧
      (s.takeRelease h).lines = s.lines ∧
      (s.takeRelease h).conds = s.conds ∧
      (s.takeRelease h).profiles = s.profiles ∧
      (s.takeRelease h).segments = s.segments ∧
      (s.takeRelease h).cadence = s.cadence ∧
      (s.takeRelease h).inputs = s.inputs ∧
      (s.takeRelease h).verifier = s.verifier ∧
      (s.takeRelease h).events = s.events ∧
      (s.takeRelease h).us = s.us ∧
      (s.takeRelease h).phase = s.phase ∧
      (s.takeRelease h).free = s.free ∧
      (s.takeRelease h).portB = s.portB ∧
      (s.takeRelease h).regulatorOut = s.regulatorOut ∧
      (s.takeRelease h).pumpOut = s.pumpOut := by
  unfold State.takeRelease
  try dsimp only
  (repeat' split) <;> simp

@[simp] theorem applyDir_frame (b : Bool) (i : Fin 16) (e : DirEntry) (s : State) :
    (applyDir b i e s).pending = s.pending ∧
      (applyDir b i e s).awaiting = s.awaiting ∧
      (applyDir b i e s).written = s.written ∧
      (applyDir b i e s).ring = s.ring ∧
      (applyDir b i e s).map = s.map ∧
      (applyDir b i e s).heads = s.heads ∧
      (applyDir b i e s).zones = s.zones ∧
      (applyDir b i e s).filters = s.filters ∧
      (applyDir b i e s).reg = s.reg ∧
      (applyDir b i e s).docks = s.docks ∧
      (applyDir b i e s).idle = s.idle ∧
      (applyDir b i e s).queues = s.queues ∧
      (applyDir b i e s).lines = s.lines ∧
      (applyDir b i e s).conds = s.conds ∧
      (applyDir b i e s).profiles = s.profiles ∧
      (applyDir b i e s).segments = s.segments ∧
      (applyDir b i e s).cadence = s.cadence ∧
      (applyDir b i e s).inputs = s.inputs ∧
      (applyDir b i e s).verifier = s.verifier ∧
      (applyDir b i e s).events = s.events ∧
      (applyDir b i e s).us = s.us ∧
      (applyDir b i e s).phase = s.phase ∧
      (applyDir b i e s).free = s.free ∧
      (applyDir b i e s).portB = s.portB ∧
      (applyDir b i e s).regulatorOut = s.regulatorOut ∧
      (applyDir b i e s).pumpOut = s.pumpOut := by
  unfold applyDir
  try dsimp only
  (repeat' split) <;> simp

@[simp] theorem applyStep_frame (b : Bool) (i : Fin 96) (e : StepRecord) (s : State) :
    (applyStep b i e s).pending = s.pending ∧
      (applyStep b i e s).awaiting = s.awaiting ∧
      (applyStep b i e s).written = s.written ∧
      (applyStep b i e s).ring = s.ring ∧
      (applyStep b i e s).map = s.map ∧
      (applyStep b i e s).heads = s.heads ∧
      (applyStep b i e s).zones = s.zones ∧
      (applyStep b i e s).filters = s.filters ∧
      (applyStep b i e s).reg = s.reg ∧
      (applyStep b i e s).docks = s.docks ∧
      (applyStep b i e s).idle = s.idle ∧
      (applyStep b i e s).queues = s.queues ∧
      (applyStep b i e s).lines = s.lines ∧
      (applyStep b i e s).conds = s.conds ∧
      (applyStep b i e s).profiles = s.profiles ∧
      (applyStep b i e s).segments = s.segments ∧
      (applyStep b i e s).cadence = s.cadence ∧
      (applyStep b i e s).inputs = s.inputs ∧
      (applyStep b i e s).verifier = s.verifier ∧
      (applyStep b i e s).events = s.events ∧
      (applyStep b i e s).us = s.us ∧
      (applyStep b i e s).phase = s.phase ∧
      (applyStep b i e s).free = s.free ∧
      (applyStep b i e s).portB = s.portB ∧
      (applyStep b i e s).regulatorOut = s.regulatorOut ∧
      (applyStep b i e s).pumpOut = s.pumpOut := by
  unfold applyStep
  try dsimp only
  (repeat' split) <;> simp

/-! ### Zone arithmetic -/

@[simp] theorem deriveZone_frame (h : Head) (r : StepRecord) (t : Tab 7 Int) (s : State) (z : Zone) :
    (deriveZone h r t s z).pending = s.pending ∧
      (deriveZone h r t s z).awaiting = s.awaiting ∧
      (deriveZone h r t s z).written = s.written ∧
      (deriveZone h r t s z).ring = s.ring ∧
      (deriveZone h r t s z).map = s.map ∧
      (deriveZone h r t s z).store = s.store ∧
      (deriveZone h r t s z).heads = s.heads ∧
      (deriveZone h r t s z).filters = s.filters ∧
      (deriveZone h r t s z).docks = s.docks ∧
      (deriveZone h r t s z).idle = s.idle ∧
      (deriveZone h r t s z).queues = s.queues ∧
      (deriveZone h r t s z).lines = s.lines ∧
      (deriveZone h r t s z).conds = s.conds ∧
      (deriveZone h r t s z).profiles = s.profiles ∧
      (deriveZone h r t s z).segments = s.segments ∧
      (deriveZone h r t s z).cadence = s.cadence ∧
      (deriveZone h r t s z).inputs = s.inputs ∧
      (deriveZone h r t s z).verifier = s.verifier ∧
      (deriveZone h r t s z).events = s.events ∧
      (deriveZone h r t s z).us = s.us ∧
      (deriveZone h r t s z).phase = s.phase ∧
      (deriveZone h r t s z).free = s.free ∧
      (deriveZone h r t s z).portB = s.portB ∧
      (deriveZone h r t s z).regulatorOut = s.regulatorOut ∧
      (deriveZone h r t s z).pumpOut = s.pumpOut := by
  unfold deriveZone
  try dsimp only
  (repeat' split) <;> simp

@[simp] theorem deriveZones_frame (h : Head) (r : StepRecord) (t : Tab 7 Int) (s : State) :
    (deriveZones h r t s).pending = s.pending ∧
      (deriveZones h r t s).awaiting = s.awaiting ∧
      (deriveZones h r t s).written = s.written ∧
      (deriveZones h r t s).ring = s.ring ∧
      (deriveZones h r t s).map = s.map ∧
      (deriveZones h r t s).store = s.store ∧
      (deriveZones h r t s).heads = s.heads ∧
      (deriveZones h r t s).filters = s.filters ∧
      (deriveZones h r t s).docks = s.docks ∧
      (deriveZones h r t s).idle = s.idle ∧
      (deriveZones h r t s).queues = s.queues ∧
      (deriveZones h r t s).lines = s.lines ∧
      (deriveZones h r t s).conds = s.conds ∧
      (deriveZones h r t s).profiles = s.profiles ∧
      (deriveZones h r t s).segments = s.segments ∧
      (deriveZones h r t s).cadence = s.cadence ∧
      (deriveZones h r t s).inputs = s.inputs ∧
      (deriveZones h r t s).verifier = s.verifier ∧
      (deriveZones h r t s).events = s.events ∧
      (deriveZones h r t s).us = s.us ∧
      (deriveZones h r t s).phase = s.phase ∧
      (deriveZones h r t s).free = s.free ∧
      (deriveZones h r t s).portB = s.portB ∧
      (deriveZones h r t s).regulatorOut = s.regulatorOut ∧
      (deriveZones h r t s).pumpOut = s.pumpOut := by
  simp [deriveZones, foldl_leaves State.pending, foldl_leaves State.awaiting,
    foldl_leaves State.written, foldl_leaves State.ring, foldl_leaves State.map,
    foldl_leaves State.store, foldl_leaves State.heads, foldl_leaves State.filters,
    foldl_leaves State.docks, foldl_leaves State.idle, foldl_leaves State.queues,
    foldl_leaves State.lines, foldl_leaves State.conds, foldl_leaves State.profiles,
    foldl_leaves State.segments, foldl_leaves State.cadence, foldl_leaves State.inputs,
    foldl_leaves State.verifier, foldl_leaves State.events, foldl_leaves State.us,
    foldl_leaves State.phase, foldl_leaves State.free, foldl_leaves State.portB,
    foldl_leaves State.regulatorOut, foldl_leaves State.pumpOut]

@[simp] theorem countdownZone_frame (h : Head) (s : State) (z : Zone) :
    (countdownZone h s z).pending = s.pending ∧
      (countdownZone h s z).handed = s.handed ∧
      (countdownZone h s z).awaiting = s.awaiting ∧
      (countdownZone h s z).written = s.written ∧
      (countdownZone h s z).ring = s.ring ∧
      (countdownZone h s z).map = s.map ∧
      (countdownZone h s z).store = s.store ∧
      (countdownZone h s z).heads = s.heads ∧
      (countdownZone h s z).filters = s.filters ∧
      (countdownZone h s z).reg = s.reg ∧
      (countdownZone h s z).docks = s.docks ∧
      (countdownZone h s z).idle = s.idle ∧
      (countdownZone h s z).queues = s.queues ∧
      (countdownZone h s z).lines = s.lines ∧
      (countdownZone h s z).conds = s.conds ∧
      (countdownZone h s z).profiles = s.profiles ∧
      (countdownZone h s z).segments = s.segments ∧
      (countdownZone h s z).cadence = s.cadence ∧
      (countdownZone h s z).inputs = s.inputs ∧
      (countdownZone h s z).verifier = s.verifier ∧
      (countdownZone h s z).events = s.events ∧
      (countdownZone h s z).us = s.us ∧
      (countdownZone h s z).phase = s.phase ∧
      (countdownZone h s z).free = s.free ∧
      (countdownZone h s z).portB = s.portB ∧
      (countdownZone h s z).regulatorOut = s.regulatorOut ∧
      (countdownZone h s z).pumpOut = s.pumpOut := by
  simp [countdownZone]

@[simp] theorem maskZone_frame (h : Head) (s : State) (z : Zone) :
    (maskZone h s z).pending = s.pending ∧
      (maskZone h s z).handed = s.handed ∧
      (maskZone h s z).awaiting = s.awaiting ∧
      (maskZone h s z).written = s.written ∧
      (maskZone h s z).ring = s.ring ∧
      (maskZone h s z).map = s.map ∧
      (maskZone h s z).store = s.store ∧
      (maskZone h s z).heads = s.heads ∧
      (maskZone h s z).filters = s.filters ∧
      (maskZone h s z).reg = s.reg ∧
      (maskZone h s z).docks = s.docks ∧
      (maskZone h s z).idle = s.idle ∧
      (maskZone h s z).queues = s.queues ∧
      (maskZone h s z).lines = s.lines ∧
      (maskZone h s z).conds = s.conds ∧
      (maskZone h s z).profiles = s.profiles ∧
      (maskZone h s z).segments = s.segments ∧
      (maskZone h s z).cadence = s.cadence ∧
      (maskZone h s z).inputs = s.inputs ∧
      (maskZone h s z).verifier = s.verifier ∧
      (maskZone h s z).events = s.events ∧
      (maskZone h s z).us = s.us ∧
      (maskZone h s z).phase = s.phase ∧
      (maskZone h s z).free = s.free ∧
      (maskZone h s z).portB = s.portB ∧
      (maskZone h s z).regulatorOut = s.regulatorOut ∧
      (maskZone h s z).pumpOut = s.pumpOut := by
  simp [maskZone]

@[simp] theorem countdownZones_frame (h : Head) (s : State) :
    (countdownZones h s).pending = s.pending ∧
      (countdownZones h s).handed = s.handed ∧
      (countdownZones h s).awaiting = s.awaiting ∧
      (countdownZones h s).written = s.written ∧
      (countdownZones h s).ring = s.ring ∧
      (countdownZones h s).map = s.map ∧
      (countdownZones h s).store = s.store ∧
      (countdownZones h s).heads = s.heads ∧
      (countdownZones h s).filters = s.filters ∧
      (countdownZones h s).reg = s.reg ∧
      (countdownZones h s).docks = s.docks ∧
      (countdownZones h s).idle = s.idle ∧
      (countdownZones h s).queues = s.queues ∧
      (countdownZones h s).lines = s.lines ∧
      (countdownZones h s).conds = s.conds ∧
      (countdownZones h s).profiles = s.profiles ∧
      (countdownZones h s).segments = s.segments ∧
      (countdownZones h s).cadence = s.cadence ∧
      (countdownZones h s).inputs = s.inputs ∧
      (countdownZones h s).verifier = s.verifier ∧
      (countdownZones h s).events = s.events ∧
      (countdownZones h s).us = s.us ∧
      (countdownZones h s).phase = s.phase ∧
      (countdownZones h s).free = s.free ∧
      (countdownZones h s).portB = s.portB ∧
      (countdownZones h s).regulatorOut = s.regulatorOut ∧
      (countdownZones h s).pumpOut = s.pumpOut := by
  simp [countdownZones, foldl_leaves State.pending, foldl_leaves State.handed,
    foldl_leaves State.awaiting, foldl_leaves State.written, foldl_leaves State.ring,
    foldl_leaves State.map, foldl_leaves State.store, foldl_leaves State.heads,
    foldl_leaves State.filters, foldl_leaves State.reg, foldl_leaves State.docks,
    foldl_leaves State.idle, foldl_leaves State.queues, foldl_leaves State.lines,
    foldl_leaves State.conds, foldl_leaves State.profiles, foldl_leaves State.segments,
    foldl_leaves State.cadence, foldl_leaves State.inputs, foldl_leaves State.verifier,
    foldl_leaves State.events, foldl_leaves State.us, foldl_leaves State.phase,
    foldl_leaves State.free, foldl_leaves State.portB, foldl_leaves State.regulatorOut,
    foldl_leaves State.pumpOut]

@[simp] theorem maskZones_frame (h : Head) (s : State) :
    (maskZones h s).pending = s.pending ∧
      (maskZones h s).handed = s.handed ∧
      (maskZones h s).awaiting = s.awaiting ∧
      (maskZones h s).written = s.written ∧
      (maskZones h s).ring = s.ring ∧
      (maskZones h s).map = s.map ∧
      (maskZones h s).store = s.store ∧
      (maskZones h s).heads = s.heads ∧
      (maskZones h s).filters = s.filters ∧
      (maskZones h s).reg = s.reg ∧
      (maskZones h s).docks = s.docks ∧
      (maskZones h s).idle = s.idle ∧
      (maskZones h s).queues = s.queues ∧
      (maskZones h s).lines = s.lines ∧
      (maskZones h s).conds = s.conds ∧
      (maskZones h s).profiles = s.profiles ∧
      (maskZones h s).segments = s.segments ∧
      (maskZones h s).cadence = s.cadence ∧
      (maskZones h s).inputs = s.inputs ∧
      (maskZones h s).verifier = s.verifier ∧
      (maskZones h s).events = s.events ∧
      (maskZones h s).us = s.us ∧
      (maskZones h s).phase = s.phase ∧
      (maskZones h s).free = s.free ∧
      (maskZones h s).portB = s.portB ∧
      (maskZones h s).regulatorOut = s.regulatorOut ∧
      (maskZones h s).pumpOut = s.pumpOut := by
  simp [maskZones, foldl_leaves State.pending, foldl_leaves State.handed,
    foldl_leaves State.awaiting, foldl_leaves State.written, foldl_leaves State.ring,
    foldl_leaves State.map, foldl_leaves State.store, foldl_leaves State.heads,
    foldl_leaves State.filters, foldl_leaves State.reg, foldl_leaves State.docks,
    foldl_leaves State.idle, foldl_leaves State.queues, foldl_leaves State.lines,
    foldl_leaves State.conds, foldl_leaves State.profiles, foldl_leaves State.segments,
    foldl_leaves State.cadence, foldl_leaves State.inputs, foldl_leaves State.verifier,
    foldl_leaves State.events, foldl_leaves State.us, foldl_leaves State.phase,
    foldl_leaves State.free, foldl_leaves State.portB, foldl_leaves State.regulatorOut,
    foldl_leaves State.pumpOut]

@[simp] theorem clearZone_frame (h : Head) (s : State) (z : Zone) :
    (clearZone h s z).pending = s.pending ∧
      (clearZone h s z).awaiting = s.awaiting ∧
      (clearZone h s z).written = s.written ∧
      (clearZone h s z).ring = s.ring ∧
      (clearZone h s z).map = s.map ∧
      (clearZone h s z).store = s.store ∧
      (clearZone h s z).heads = s.heads ∧
      (clearZone h s z).filters = s.filters ∧
      (clearZone h s z).docks = s.docks ∧
      (clearZone h s z).idle = s.idle ∧
      (clearZone h s z).queues = s.queues ∧
      (clearZone h s z).lines = s.lines ∧
      (clearZone h s z).conds = s.conds ∧
      (clearZone h s z).profiles = s.profiles ∧
      (clearZone h s z).segments = s.segments ∧
      (clearZone h s z).cadence = s.cadence ∧
      (clearZone h s z).inputs = s.inputs ∧
      (clearZone h s z).verifier = s.verifier ∧
      (clearZone h s z).events = s.events ∧
      (clearZone h s z).us = s.us ∧
      (clearZone h s z).phase = s.phase ∧
      (clearZone h s z).free = s.free ∧
      (clearZone h s z).portB = s.portB ∧
      (clearZone h s z).regulatorOut = s.regulatorOut ∧
      (clearZone h s z).pumpOut = s.pumpOut := by
  simp [clearZone]

@[simp] theorem clearZones_frame (h : Head) (s : State) :
    (clearZones h s).pending = s.pending ∧
      (clearZones h s).awaiting = s.awaiting ∧
      (clearZones h s).written = s.written ∧
      (clearZones h s).ring = s.ring ∧
      (clearZones h s).map = s.map ∧
      (clearZones h s).store = s.store ∧
      (clearZones h s).heads = s.heads ∧
      (clearZones h s).filters = s.filters ∧
      (clearZones h s).docks = s.docks ∧
      (clearZones h s).idle = s.idle ∧
      (clearZones h s).queues = s.queues ∧
      (clearZones h s).lines = s.lines ∧
      (clearZones h s).conds = s.conds ∧
      (clearZones h s).profiles = s.profiles ∧
      (clearZones h s).segments = s.segments ∧
      (clearZones h s).cadence = s.cadence ∧
      (clearZones h s).inputs = s.inputs ∧
      (clearZones h s).verifier = s.verifier ∧
      (clearZones h s).events = s.events ∧
      (clearZones h s).us = s.us ∧
      (clearZones h s).phase = s.phase ∧
      (clearZones h s).free = s.free ∧
      (clearZones h s).portB = s.portB ∧
      (clearZones h s).regulatorOut = s.regulatorOut ∧
      (clearZones h s).pumpOut = s.pumpOut := by
  simp [clearZones, foldl_leaves State.pending, foldl_leaves State.awaiting,
    foldl_leaves State.written, foldl_leaves State.ring, foldl_leaves State.map,
    foldl_leaves State.store, foldl_leaves State.heads, foldl_leaves State.filters,
    foldl_leaves State.docks, foldl_leaves State.idle, foldl_leaves State.queues,
    foldl_leaves State.lines, foldl_leaves State.conds, foldl_leaves State.profiles,
    foldl_leaves State.segments, foldl_leaves State.cadence, foldl_leaves State.inputs,
    foldl_leaves State.verifier, foldl_leaves State.events, foldl_leaves State.us,
    foldl_leaves State.phase, foldl_leaves State.free, foldl_leaves State.portB,
    foldl_leaves State.regulatorOut, foldl_leaves State.pumpOut]

@[simp] theorem safeMoveZone_frame (h : Head) (s : State) (z : Zone) :
    (safeMoveZone h s z).pending = s.pending ∧
      (safeMoveZone h s z).awaiting = s.awaiting ∧
      (safeMoveZone h s z).written = s.written ∧
      (safeMoveZone h s z).ring = s.ring ∧
      (safeMoveZone h s z).map = s.map ∧
      (safeMoveZone h s z).store = s.store ∧
      (safeMoveZone h s z).heads = s.heads ∧
      (safeMoveZone h s z).filters = s.filters ∧
      (safeMoveZone h s z).docks = s.docks ∧
      (safeMoveZone h s z).idle = s.idle ∧
      (safeMoveZone h s z).queues = s.queues ∧
      (safeMoveZone h s z).lines = s.lines ∧
      (safeMoveZone h s z).conds = s.conds ∧
      (safeMoveZone h s z).profiles = s.profiles ∧
      (safeMoveZone h s z).segments = s.segments ∧
      (safeMoveZone h s z).cadence = s.cadence ∧
      (safeMoveZone h s z).inputs = s.inputs ∧
      (safeMoveZone h s z).verifier = s.verifier ∧
      (safeMoveZone h s z).events = s.events ∧
      (safeMoveZone h s z).us = s.us ∧
      (safeMoveZone h s z).phase = s.phase ∧
      (safeMoveZone h s z).free = s.free ∧
      (safeMoveZone h s z).portB = s.portB ∧
      (safeMoveZone h s z).regulatorOut = s.regulatorOut ∧
      (safeMoveZone h s z).pumpOut = s.pumpOut := by
  simp [safeMoveZone]

@[simp] theorem safeSettle_frame (h : Head) (s : State) :
    (safeSettle h s).pending = s.pending ∧
      (safeSettle h s).awaiting = s.awaiting ∧
      (safeSettle h s).written = s.written ∧
      (safeSettle h s).ring = s.ring ∧
      (safeSettle h s).map = s.map ∧
      (safeSettle h s).store = s.store ∧
      (safeSettle h s).filters = s.filters ∧
      (safeSettle h s).docks = s.docks ∧
      (safeSettle h s).idle = s.idle ∧
      (safeSettle h s).queues = s.queues ∧
      (safeSettle h s).lines = s.lines ∧
      (safeSettle h s).conds = s.conds ∧
      (safeSettle h s).profiles = s.profiles ∧
      (safeSettle h s).segments = s.segments ∧
      (safeSettle h s).cadence = s.cadence ∧
      (safeSettle h s).inputs = s.inputs ∧
      (safeSettle h s).verifier = s.verifier ∧
      (safeSettle h s).events = s.events ∧
      (safeSettle h s).us = s.us ∧
      (safeSettle h s).phase = s.phase ∧
      (safeSettle h s).free = s.free ∧
      (safeSettle h s).portB = s.portB ∧
      (safeSettle h s).regulatorOut = s.regulatorOut ∧
      (safeSettle h s).pumpOut = s.pumpOut := by
  simp [safeSettle, foldl_leaves State.pending, foldl_leaves State.awaiting,
    foldl_leaves State.written, foldl_leaves State.ring, foldl_leaves State.map,
    foldl_leaves State.store, foldl_leaves State.filters, foldl_leaves State.docks,
    foldl_leaves State.idle, foldl_leaves State.queues, foldl_leaves State.lines,
    foldl_leaves State.conds, foldl_leaves State.profiles, foldl_leaves State.segments,
    foldl_leaves State.cadence, foldl_leaves State.inputs, foldl_leaves State.verifier,
    foldl_leaves State.events, foldl_leaves State.us, foldl_leaves State.phase,
    foldl_leaves State.free, foldl_leaves State.portB, foldl_leaves State.regulatorOut,
    foldl_leaves State.pumpOut]

@[simp] theorem bandMonitor_frame (h : Head) (b : Nat) (z : Zone) (s : State) :
    (bandMonitor h b z s).1.pending = s.pending ∧
      (bandMonitor h b z s).1.awaiting = s.awaiting ∧
      (bandMonitor h b z s).1.written = s.written ∧
      (bandMonitor h b z s).1.ring = s.ring ∧
      (bandMonitor h b z s).1.map = s.map ∧
      (bandMonitor h b z s).1.store = s.store ∧
      (bandMonitor h b z s).1.heads = s.heads ∧
      (bandMonitor h b z s).1.filters = s.filters ∧
      (bandMonitor h b z s).1.reg = s.reg ∧
      (bandMonitor h b z s).1.docks = s.docks ∧
      (bandMonitor h b z s).1.idle = s.idle ∧
      (bandMonitor h b z s).1.queues = s.queues ∧
      (bandMonitor h b z s).1.lines = s.lines ∧
      (bandMonitor h b z s).1.conds = s.conds ∧
      (bandMonitor h b z s).1.profiles = s.profiles ∧
      (bandMonitor h b z s).1.segments = s.segments ∧
      (bandMonitor h b z s).1.cadence = s.cadence ∧
      (bandMonitor h b z s).1.inputs = s.inputs ∧
      (bandMonitor h b z s).1.verifier = s.verifier ∧
      (bandMonitor h b z s).1.events = s.events ∧
      (bandMonitor h b z s).1.us = s.us ∧
      (bandMonitor h b z s).1.phase = s.phase ∧
      (bandMonitor h b z s).1.free = s.free ∧
      (bandMonitor h b z s).1.portB = s.portB ∧
      (bandMonitor h b z s).1.regulatorOut = s.regulatorOut ∧
      (bandMonitor h b z s).1.pumpOut = s.pumpOut := by
  unfold bandMonitor
  try dsimp only
  (repeat' split) <;> simp

@[simp] theorem applyZone_frame (b : Bool) (c : ZoneCh) (e : ZoneConfig) (s : State) :
    (applyZone b c e s).pending = s.pending ∧
      (applyZone b c e s).awaiting = s.awaiting ∧
      (applyZone b c e s).ring = s.ring ∧
      (applyZone b c e s).map = s.map ∧
      (applyZone b c e s).store = s.store ∧
      (applyZone b c e s).docks = s.docks ∧
      (applyZone b c e s).idle = s.idle ∧
      (applyZone b c e s).queues = s.queues ∧
      (applyZone b c e s).lines = s.lines ∧
      (applyZone b c e s).conds = s.conds ∧
      (applyZone b c e s).profiles = s.profiles ∧
      (applyZone b c e s).segments = s.segments ∧
      (applyZone b c e s).cadence = s.cadence ∧
      (applyZone b c e s).inputs = s.inputs ∧
      (applyZone b c e s).verifier = s.verifier ∧
      (applyZone b c e s).events = s.events ∧
      (applyZone b c e s).us = s.us ∧
      (applyZone b c e s).phase = s.phase ∧
      (applyZone b c e s).free = s.free ∧
      (applyZone b c e s).portB = s.portB ∧
      (applyZone b c e s).regulatorOut = s.regulatorOut ∧
      (applyZone b c e s).pumpOut = s.pumpOut := by
  unfold applyZone
  try dsimp only
  (repeat' split) <;> simp

/-! ### Slurry dispense -/

@[simp] theorem reportEnd_frame (p : Platen) (x : EndStatus) (s : State) (o : Order) :
    (reportEnd p x s o).pending = s.pending ∧
      (reportEnd p x s o).awaiting = s.awaiting ∧
      (reportEnd p x s o).written = s.written ∧
      (reportEnd p x s o).ring = s.ring ∧
      (reportEnd p x s o).map = s.map ∧
      (reportEnd p x s o).store = s.store ∧
      (reportEnd p x s o).heads = s.heads ∧
      (reportEnd p x s o).zones = s.zones ∧
      (reportEnd p x s o).filters = s.filters ∧
      (reportEnd p x s o).reg = s.reg ∧
      (reportEnd p x s o).docks = s.docks ∧
      (reportEnd p x s o).idle = s.idle ∧
      (reportEnd p x s o).queues = s.queues ∧
      (reportEnd p x s o).conds = s.conds ∧
      (reportEnd p x s o).profiles = s.profiles ∧
      (reportEnd p x s o).segments = s.segments ∧
      (reportEnd p x s o).cadence = s.cadence ∧
      (reportEnd p x s o).inputs = s.inputs ∧
      (reportEnd p x s o).verifier = s.verifier ∧
      (reportEnd p x s o).events = s.events ∧
      (reportEnd p x s o).us = s.us ∧
      (reportEnd p x s o).phase = s.phase ∧
      (reportEnd p x s o).free = s.free ∧
      (reportEnd p x s o).portB = s.portB ∧
      (reportEnd p x s o).regulatorOut = s.regulatorOut ∧
      (reportEnd p x s o).pumpOut = s.pumpOut := by
  unfold reportEnd
  try dsimp only
  (repeat' split) <;> simp

@[simp] theorem endOrders_frame (p : Platen) (w : Order → Bool) (x : EndStatus) (s : State) :
    (endOrders p w x s).pending = s.pending ∧
      (endOrders p w x s).awaiting = s.awaiting ∧
      (endOrders p w x s).written = s.written ∧
      (endOrders p w x s).ring = s.ring ∧
      (endOrders p w x s).map = s.map ∧
      (endOrders p w x s).store = s.store ∧
      (endOrders p w x s).heads = s.heads ∧
      (endOrders p w x s).zones = s.zones ∧
      (endOrders p w x s).filters = s.filters ∧
      (endOrders p w x s).reg = s.reg ∧
      (endOrders p w x s).docks = s.docks ∧
      (endOrders p w x s).idle = s.idle ∧
      (endOrders p w x s).conds = s.conds ∧
      (endOrders p w x s).profiles = s.profiles ∧
      (endOrders p w x s).segments = s.segments ∧
      (endOrders p w x s).cadence = s.cadence ∧
      (endOrders p w x s).inputs = s.inputs ∧
      (endOrders p w x s).verifier = s.verifier ∧
      (endOrders p w x s).events = s.events ∧
      (endOrders p w x s).us = s.us ∧
      (endOrders p w x s).phase = s.phase ∧
      (endOrders p w x s).free = s.free ∧
      (endOrders p w x s).portB = s.portB ∧
      (endOrders p w x s).regulatorOut = s.regulatorOut ∧
      (endOrders p w x s).pumpOut = s.pumpOut := by
  simp [endOrders, foldl_leaves State.pending, foldl_leaves State.awaiting,
    foldl_leaves State.written, foldl_leaves State.ring, foldl_leaves State.map,
    foldl_leaves State.store, foldl_leaves State.heads, foldl_leaves State.zones,
    foldl_leaves State.filters, foldl_leaves State.reg, foldl_leaves State.docks,
    foldl_leaves State.idle, foldl_leaves State.conds, foldl_leaves State.profiles,
    foldl_leaves State.segments, foldl_leaves State.cadence, foldl_leaves State.inputs,
    foldl_leaves State.verifier, foldl_leaves State.events, foldl_leaves State.us,
    foldl_leaves State.phase, foldl_leaves State.free, foldl_leaves State.portB,
    foldl_leaves State.regulatorOut, foldl_leaves State.pumpOut]

@[simp] theorem endFirst_frame (p : Platen) (w : Order → Bool) (x : EndStatus) (s : State) :
    (endFirst p w x s).pending = s.pending ∧
      (endFirst p w x s).awaiting = s.awaiting ∧
      (endFirst p w x s).written = s.written ∧
      (endFirst p w x s).ring = s.ring ∧
      (endFirst p w x s).map = s.map ∧
      (endFirst p w x s).store = s.store ∧
      (endFirst p w x s).heads = s.heads ∧
      (endFirst p w x s).zones = s.zones ∧
      (endFirst p w x s).filters = s.filters ∧
      (endFirst p w x s).reg = s.reg ∧
      (endFirst p w x s).docks = s.docks ∧
      (endFirst p w x s).idle = s.idle ∧
      (endFirst p w x s).conds = s.conds ∧
      (endFirst p w x s).profiles = s.profiles ∧
      (endFirst p w x s).segments = s.segments ∧
      (endFirst p w x s).cadence = s.cadence ∧
      (endFirst p w x s).inputs = s.inputs ∧
      (endFirst p w x s).verifier = s.verifier ∧
      (endFirst p w x s).events = s.events ∧
      (endFirst p w x s).us = s.us ∧
      (endFirst p w x s).phase = s.phase ∧
      (endFirst p w x s).free = s.free ∧
      (endFirst p w x s).portB = s.portB ∧
      (endFirst p w x s).regulatorOut = s.regulatorOut ∧
      (endFirst p w x s).pumpOut = s.pumpOut := by
  unfold endFirst
  try dsimp only
  (repeat' split) <;> simp

@[simp] theorem flowFault_frame (p : Platen) (l : Line) (s : State) :
    (flowFault p l s).pending = s.pending ∧
      (flowFault p l s).awaiting = s.awaiting ∧
      (flowFault p l s).written = s.written ∧
      (flowFault p l s).ring = s.ring ∧
      (flowFault p l s).map = s.map ∧
      (flowFault p l s).store = s.store ∧
      (flowFault p l s).heads = s.heads ∧
      (flowFault p l s).zones = s.zones ∧
      (flowFault p l s).filters = s.filters ∧
      (flowFault p l s).reg = s.reg ∧
      (flowFault p l s).docks = s.docks ∧
      (flowFault p l s).idle = s.idle ∧
      (flowFault p l s).conds = s.conds ∧
      (flowFault p l s).profiles = s.profiles ∧
      (flowFault p l s).segments = s.segments ∧
      (flowFault p l s).cadence = s.cadence ∧
      (flowFault p l s).inputs = s.inputs ∧
      (flowFault p l s).verifier = s.verifier ∧
      (flowFault p l s).events = s.events ∧
      (flowFault p l s).us = s.us ∧
      (flowFault p l s).phase = s.phase ∧
      (flowFault p l s).free = s.free ∧
      (flowFault p l s).portB = s.portB ∧
      (flowFault p l s).regulatorOut = s.regulatorOut ∧
      (flowFault p l s).pumpOut = s.pumpOut := by
  unfold flowFault
  try dsimp only
  (repeat' split) <;> simp

@[simp] theorem closeWindow_frame (p : Platen) (l : Line) (s : State) :
    (closeWindow p l s).pending = s.pending ∧
      (closeWindow p l s).awaiting = s.awaiting ∧
      (closeWindow p l s).written = s.written ∧
      (closeWindow p l s).ring = s.ring ∧
      (closeWindow p l s).map = s.map ∧
      (closeWindow p l s).store = s.store ∧
      (closeWindow p l s).heads = s.heads ∧
      (closeWindow p l s).zones = s.zones ∧
      (closeWindow p l s).filters = s.filters ∧
      (closeWindow p l s).reg = s.reg ∧
      (closeWindow p l s).docks = s.docks ∧
      (closeWindow p l s).idle = s.idle ∧
      (closeWindow p l s).conds = s.conds ∧
      (closeWindow p l s).profiles = s.profiles ∧
      (closeWindow p l s).segments = s.segments ∧
      (closeWindow p l s).cadence = s.cadence ∧
      (closeWindow p l s).inputs = s.inputs ∧
      (closeWindow p l s).verifier = s.verifier ∧
      (closeWindow p l s).events = s.events ∧
      (closeWindow p l s).us = s.us ∧
      (closeWindow p l s).phase = s.phase ∧
      (closeWindow p l s).free = s.free ∧
      (closeWindow p l s).portB = s.portB ∧
      (closeWindow p l s).regulatorOut = s.regulatorOut ∧
      (closeWindow p l s).pumpOut = s.pumpOut := by
  unfold closeWindow
  try dsimp only
  (repeat' split) <;> simp

@[simp] theorem openWindow_frame (p : Platen) (l : Line) (s : State) :
    (openWindow p l s).pending = s.pending ∧
      (openWindow p l s).handed = s.handed ∧
      (openWindow p l s).awaiting = s.awaiting ∧
      (openWindow p l s).written = s.written ∧
      (openWindow p l s).ring = s.ring ∧
      (openWindow p l s).map = s.map ∧
      (openWindow p l s).store = s.store ∧
      (openWindow p l s).heads = s.heads ∧
      (openWindow p l s).zones = s.zones ∧
      (openWindow p l s).filters = s.filters ∧
      (openWindow p l s).reg = s.reg ∧
      (openWindow p l s).docks = s.docks ∧
      (openWindow p l s).idle = s.idle ∧
      (openWindow p l s).queues = s.queues ∧
      (openWindow p l s).conds = s.conds ∧
      (openWindow p l s).profiles = s.profiles ∧
      (openWindow p l s).segments = s.segments ∧
      (openWindow p l s).cadence = s.cadence ∧
      (openWindow p l s).inputs = s.inputs ∧
      (openWindow p l s).verifier = s.verifier ∧
      (openWindow p l s).events = s.events ∧
      (openWindow p l s).us = s.us ∧
      (openWindow p l s).phase = s.phase ∧
      (openWindow p l s).free = s.free ∧
      (openWindow p l s).portB = s.portB ∧
      (openWindow p l s).regulatorOut = s.regulatorOut ∧
      (openWindow p l s).pumpOut = s.pumpOut := by
  simp [openWindow]

@[simp] theorem countStroke_frame (p : Platen) (l : Line) (o : Order) (s : State) :
    (countStroke p l o s).pending = s.pending ∧
      (countStroke p l o s).awaiting = s.awaiting ∧
      (countStroke p l o s).written = s.written ∧
      (countStroke p l o s).ring = s.ring ∧
      (countStroke p l o s).map = s.map ∧
      (countStroke p l o s).store = s.store ∧
      (countStroke p l o s).heads = s.heads ∧
      (countStroke p l o s).zones = s.zones ∧
      (countStroke p l o s).filters = s.filters ∧
      (countStroke p l o s).reg = s.reg ∧
      (countStroke p l o s).docks = s.docks ∧
      (countStroke p l o s).idle = s.idle ∧
      (countStroke p l o s).conds = s.conds ∧
      (countStroke p l o s).profiles = s.profiles ∧
      (countStroke p l o s).segments = s.segments ∧
      (countStroke p l o s).cadence = s.cadence ∧
      (countStroke p l o s).inputs = s.inputs ∧
      (countStroke p l o s).verifier = s.verifier ∧
      (countStroke p l o s).events = s.events ∧
      (countStroke p l o s).us = s.us ∧
      (countStroke p l o s).phase = s.phase ∧
      (countStroke p l o s).free = s.free ∧
      (countStroke p l o s).portB = s.portB ∧
      (countStroke p l o s).regulatorOut = s.regulatorOut ∧
      (countStroke p l o s).pumpOut = s.pumpOut := by
  unfold countStroke
  try dsimp only
  (repeat' split) <;> simp

@[simp] theorem issueStroke_frame (p : Platen) (l : Line) (s : State) :
    (issueStroke p l s).pending = s.pending ∧
      (issueStroke p l s).awaiting = s.awaiting ∧
      (issueStroke p l s).written = s.written ∧
      (issueStroke p l s).ring = s.ring ∧
      (issueStroke p l s).map = s.map ∧
      (issueStroke p l s).store = s.store ∧
      (issueStroke p l s).heads = s.heads ∧
      (issueStroke p l s).zones = s.zones ∧
      (issueStroke p l s).filters = s.filters ∧
      (issueStroke p l s).reg = s.reg ∧
      (issueStroke p l s).docks = s.docks ∧
      (issueStroke p l s).idle = s.idle ∧
      (issueStroke p l s).conds = s.conds ∧
      (issueStroke p l s).profiles = s.profiles ∧
      (issueStroke p l s).segments = s.segments ∧
      (issueStroke p l s).cadence = s.cadence ∧
      (issueStroke p l s).inputs = s.inputs ∧
      (issueStroke p l s).verifier = s.verifier ∧
      (issueStroke p l s).events = s.events ∧
      (issueStroke p l s).us = s.us ∧
      (issueStroke p l s).phase = s.phase ∧
      (issueStroke p l s).free = s.free ∧
      (issueStroke p l s).portB = s.portB ∧
      (issueStroke p l s).regulatorOut = s.regulatorOut := by
  unfold issueStroke
  try dsimp only
  (repeat' split) <;> simp

@[simp] theorem judgeLine_frame (p : Platen) (l : Line) (n : Nat) (s : State) :
    (judgeLine p l n s).pending = s.pending ∧
      (judgeLine p l n s).awaiting = s.awaiting ∧
      (judgeLine p l n s).written = s.written ∧
      (judgeLine p l n s).ring = s.ring ∧
      (judgeLine p l n s).map = s.map ∧
      (judgeLine p l n s).store = s.store ∧
      (judgeLine p l n s).heads = s.heads ∧
      (judgeLine p l n s).zones = s.zones ∧
      (judgeLine p l n s).filters = s.filters ∧
      (judgeLine p l n s).reg = s.reg ∧
      (judgeLine p l n s).docks = s.docks ∧
      (judgeLine p l n s).idle = s.idle ∧
      (judgeLine p l n s).conds = s.conds ∧
      (judgeLine p l n s).profiles = s.profiles ∧
      (judgeLine p l n s).segments = s.segments ∧
      (judgeLine p l n s).cadence = s.cadence ∧
      (judgeLine p l n s).inputs = s.inputs ∧
      (judgeLine p l n s).verifier = s.verifier ∧
      (judgeLine p l n s).events = s.events ∧
      (judgeLine p l n s).us = s.us ∧
      (judgeLine p l n s).phase = s.phase ∧
      (judgeLine p l n s).free = s.free ∧
      (judgeLine p l n s).portB = s.portB ∧
      (judgeLine p l n s).regulatorOut = s.regulatorOut := by
  induction n generalizing s with
  | zero => simp [judgeLine]
  | succ n ih =>
    unfold judgeLine
    dsimp only
    (repeat' split) <;> simp [ih]

@[simp] theorem judgeOrders_frame (p : Platen) (s : State) :
    (judgeOrders p s).pending = s.pending ∧
      (judgeOrders p s).awaiting = s.awaiting ∧
      (judgeOrders p s).written = s.written ∧
      (judgeOrders p s).ring = s.ring ∧
      (judgeOrders p s).map = s.map ∧
      (judgeOrders p s).store = s.store ∧
      (judgeOrders p s).heads = s.heads ∧
      (judgeOrders p s).zones = s.zones ∧
      (judgeOrders p s).filters = s.filters ∧
      (judgeOrders p s).reg = s.reg ∧
      (judgeOrders p s).docks = s.docks ∧
      (judgeOrders p s).idle = s.idle ∧
      (judgeOrders p s).conds = s.conds ∧
      (judgeOrders p s).profiles = s.profiles ∧
      (judgeOrders p s).segments = s.segments ∧
      (judgeOrders p s).cadence = s.cadence ∧
      (judgeOrders p s).inputs = s.inputs ∧
      (judgeOrders p s).verifier = s.verifier ∧
      (judgeOrders p s).events = s.events ∧
      (judgeOrders p s).us = s.us ∧
      (judgeOrders p s).phase = s.phase ∧
      (judgeOrders p s).free = s.free ∧
      (judgeOrders p s).portB = s.portB ∧
      (judgeOrders p s).regulatorOut = s.regulatorOut := by
  simp [judgeOrders, foldl_leaves State.pending, foldl_leaves State.awaiting,
    foldl_leaves State.written, foldl_leaves State.ring, foldl_leaves State.map,
    foldl_leaves State.store, foldl_leaves State.heads, foldl_leaves State.zones,
    foldl_leaves State.filters, foldl_leaves State.reg, foldl_leaves State.docks,
    foldl_leaves State.idle, foldl_leaves State.conds, foldl_leaves State.profiles,
    foldl_leaves State.segments, foldl_leaves State.cadence, foldl_leaves State.inputs,
    foldl_leaves State.verifier, foldl_leaves State.events, foldl_leaves State.us,
    foldl_leaves State.phase, foldl_leaves State.free, foldl_leaves State.portB,
    foldl_leaves State.regulatorOut]

@[simp] theorem judgeIfEnded_frame (p : Platen) (n : Nat) (s : State) :
    (judgeIfEnded p n s).pending = s.pending ∧
      (judgeIfEnded p n s).awaiting = s.awaiting ∧
      (judgeIfEnded p n s).written = s.written ∧
      (judgeIfEnded p n s).ring = s.ring ∧
      (judgeIfEnded p n s).map = s.map ∧
      (judgeIfEnded p n s).store = s.store ∧
      (judgeIfEnded p n s).heads = s.heads ∧
      (judgeIfEnded p n s).zones = s.zones ∧
      (judgeIfEnded p n s).filters = s.filters ∧
      (judgeIfEnded p n s).reg = s.reg ∧
      (judgeIfEnded p n s).docks = s.docks ∧
      (judgeIfEnded p n s).idle = s.idle ∧
      (judgeIfEnded p n s).conds = s.conds ∧
      (judgeIfEnded p n s).profiles = s.profiles ∧
      (judgeIfEnded p n s).segments = s.segments ∧
      (judgeIfEnded p n s).cadence = s.cadence ∧
      (judgeIfEnded p n s).inputs = s.inputs ∧
      (judgeIfEnded p n s).verifier = s.verifier ∧
      (judgeIfEnded p n s).events = s.events ∧
      (judgeIfEnded p n s).us = s.us ∧
      (judgeIfEnded p n s).phase = s.phase ∧
      (judgeIfEnded p n s).free = s.free ∧
      (judgeIfEnded p n s).portB = s.portB ∧
      (judgeIfEnded p n s).regulatorOut = s.regulatorOut := by
  unfold judgeIfEnded
  try dsimp only
  (repeat' split) <;> simp

@[simp] theorem raiseOrderDropped_frame (p : Platen) (n : Nat) (o : Offer) (s : State) :
    (raiseOrderDropped p n o s).pending = s.pending ∧
      (raiseOrderDropped p n o s).awaiting = s.awaiting ∧
      (raiseOrderDropped p n o s).written = s.written ∧
      (raiseOrderDropped p n o s).ring = s.ring ∧
      (raiseOrderDropped p n o s).map = s.map ∧
      (raiseOrderDropped p n o s).store = s.store ∧
      (raiseOrderDropped p n o s).heads = s.heads ∧
      (raiseOrderDropped p n o s).zones = s.zones ∧
      (raiseOrderDropped p n o s).filters = s.filters ∧
      (raiseOrderDropped p n o s).reg = s.reg ∧
      (raiseOrderDropped p n o s).docks = s.docks ∧
      (raiseOrderDropped p n o s).idle = s.idle ∧
      (raiseOrderDropped p n o s).queues = s.queues ∧
      (raiseOrderDropped p n o s).lines = s.lines ∧
      (raiseOrderDropped p n o s).conds = s.conds ∧
      (raiseOrderDropped p n o s).profiles = s.profiles ∧
      (raiseOrderDropped p n o s).segments = s.segments ∧
      (raiseOrderDropped p n o s).cadence = s.cadence ∧
      (raiseOrderDropped p n o s).inputs = s.inputs ∧
      (raiseOrderDropped p n o s).verifier = s.verifier ∧
      (raiseOrderDropped p n o s).events = s.events ∧
      (raiseOrderDropped p n o s).us = s.us ∧
      (raiseOrderDropped p n o s).phase = s.phase ∧
      (raiseOrderDropped p n o s).free = s.free ∧
      (raiseOrderDropped p n o s).portB = s.portB ∧
      (raiseOrderDropped p n o s).regulatorOut = s.regulatorOut ∧
      (raiseOrderDropped p n o s).pumpOut = s.pumpOut := by
  simp [raiseOrderDropped]

@[simp] theorem offerOrder_frame (p : Platen) (o : Offer) (s : State) :
    (offerOrder p o s).pending = s.pending ∧
      (offerOrder p o s).awaiting = s.awaiting ∧
      (offerOrder p o s).written = s.written ∧
      (offerOrder p o s).ring = s.ring ∧
      (offerOrder p o s).map = s.map ∧
      (offerOrder p o s).store = s.store ∧
      (offerOrder p o s).heads = s.heads ∧
      (offerOrder p o s).zones = s.zones ∧
      (offerOrder p o s).filters = s.filters ∧
      (offerOrder p o s).reg = s.reg ∧
      (offerOrder p o s).docks = s.docks ∧
      (offerOrder p o s).idle = s.idle ∧
      (offerOrder p o s).conds = s.conds ∧
      (offerOrder p o s).profiles = s.profiles ∧
      (offerOrder p o s).segments = s.segments ∧
      (offerOrder p o s).cadence = s.cadence ∧
      (offerOrder p o s).inputs = s.inputs ∧
      (offerOrder p o s).verifier = s.verifier ∧
      (offerOrder p o s).events = s.events ∧
      (offerOrder p o s).us = s.us ∧
      (offerOrder p o s).phase = s.phase ∧
      (offerOrder p o s).free = s.free ∧
      (offerOrder p o s).portB = s.portB ∧
      (offerOrder p o s).regulatorOut = s.regulatorOut := by
  unfold offerOrder
  try dsimp only
  (repeat' split) <;> simp

@[simp] theorem reloadIdle_frame (p : Platen) (s : State) :
    (reloadIdle p s).pending = s.pending ∧
      (reloadIdle p s).handed = s.handed ∧
      (reloadIdle p s).awaiting = s.awaiting ∧
      (reloadIdle p s).written = s.written ∧
      (reloadIdle p s).ring = s.ring ∧
      (reloadIdle p s).map = s.map ∧
      (reloadIdle p s).store = s.store ∧
      (reloadIdle p s).heads = s.heads ∧
      (reloadIdle p s).zones = s.zones ∧
      (reloadIdle p s).filters = s.filters ∧
      (reloadIdle p s).reg = s.reg ∧
      (reloadIdle p s).docks = s.docks ∧
      (reloadIdle p s).queues = s.queues ∧
      (reloadIdle p s).lines = s.lines ∧
      (reloadIdle p s).conds = s.conds ∧
      (reloadIdle p s).profiles = s.profiles ∧
      (reloadIdle p s).segments = s.segments ∧
      (reloadIdle p s).cadence = s.cadence ∧
      (reloadIdle p s).inputs = s.inputs ∧
      (reloadIdle p s).verifier = s.verifier ∧
      (reloadIdle p s).events = s.events ∧
      (reloadIdle p s).us = s.us ∧
      (reloadIdle p s).phase = s.phase ∧
      (reloadIdle p s).free = s.free ∧
      (reloadIdle p s).portB = s.portB ∧
      (reloadIdle p s).regulatorOut = s.regulatorOut ∧
      (reloadIdle p s).pumpOut = s.pumpOut := by
  simp [reloadIdle]

@[simp] theorem triggerLine_frame (p : Platen) (h : Head) (s : State) (l : Line) :
    (triggerLine p h s l).pending = s.pending ∧
      (triggerLine p h s l).awaiting = s.awaiting ∧
      (triggerLine p h s l).written = s.written ∧
      (triggerLine p h s l).ring = s.ring ∧
      (triggerLine p h s l).map = s.map ∧
      (triggerLine p h s l).store = s.store ∧
      (triggerLine p h s l).heads = s.heads ∧
      (triggerLine p h s l).zones = s.zones ∧
      (triggerLine p h s l).filters = s.filters ∧
      (triggerLine p h s l).reg = s.reg ∧
      (triggerLine p h s l).docks = s.docks ∧
      (triggerLine p h s l).idle = s.idle ∧
      (triggerLine p h s l).conds = s.conds ∧
      (triggerLine p h s l).profiles = s.profiles ∧
      (triggerLine p h s l).segments = s.segments ∧
      (triggerLine p h s l).cadence = s.cadence ∧
      (triggerLine p h s l).inputs = s.inputs ∧
      (triggerLine p h s l).verifier = s.verifier ∧
      (triggerLine p h s l).events = s.events ∧
      (triggerLine p h s l).us = s.us ∧
      (triggerLine p h s l).phase = s.phase ∧
      (triggerLine p h s l).free = s.free ∧
      (triggerLine p h s l).portB = s.portB ∧
      (triggerLine p h s l).regulatorOut = s.regulatorOut := by
  unfold triggerLine
  try dsimp only
  (repeat' split) <;> simp

@[simp] theorem cycleNoticeAt_frame (p : Platen) (h : Head) (s : State) :
    (cycleNoticeAt p h s).pending = s.pending ∧
      (cycleNoticeAt p h s).awaiting = s.awaiting ∧
      (cycleNoticeAt p h s).written = s.written ∧
      (cycleNoticeAt p h s).ring = s.ring ∧
      (cycleNoticeAt p h s).map = s.map ∧
      (cycleNoticeAt p h s).store = s.store ∧
      (cycleNoticeAt p h s).heads = s.heads ∧
      (cycleNoticeAt p h s).zones = s.zones ∧
      (cycleNoticeAt p h s).filters = s.filters ∧
      (cycleNoticeAt p h s).reg = s.reg ∧
      (cycleNoticeAt p h s).docks = s.docks ∧
      (cycleNoticeAt p h s).conds = s.conds ∧
      (cycleNoticeAt p h s).profiles = s.profiles ∧
      (cycleNoticeAt p h s).segments = s.segments ∧
      (cycleNoticeAt p h s).cadence = s.cadence ∧
      (cycleNoticeAt p h s).inputs = s.inputs ∧
      (cycleNoticeAt p h s).verifier = s.verifier ∧
      (cycleNoticeAt p h s).events = s.events ∧
      (cycleNoticeAt p h s).us = s.us ∧
      (cycleNoticeAt p h s).phase = s.phase ∧
      (cycleNoticeAt p h s).free = s.free ∧
      (cycleNoticeAt p h s).portB = s.portB ∧
      (cycleNoticeAt p h s).regulatorOut = s.regulatorOut := by
  unfold cycleNoticeAt
  (repeat' split) <;>
    simp [foldl_leaves State.pending, foldl_leaves State.awaiting, foldl_leaves State.written,
    foldl_leaves State.ring, foldl_leaves State.map, foldl_leaves State.store,
    foldl_leaves State.heads, foldl_leaves State.zones, foldl_leaves State.filters,
    foldl_leaves State.reg, foldl_leaves State.docks, foldl_leaves State.conds,
    foldl_leaves State.profiles, foldl_leaves State.segments, foldl_leaves State.cadence,
    foldl_leaves State.inputs, foldl_leaves State.verifier, foldl_leaves State.events,
    foldl_leaves State.us, foldl_leaves State.phase, foldl_leaves State.free,
    foldl_leaves State.portB, foldl_leaves State.regulatorOut]

@[simp] theorem burstStroke_frame (p : Platen) (l : Line) (s : State) :
    (burstStroke p l s).pending = s.pending ∧
      (burstStroke p l s).awaiting = s.awaiting ∧
      (burstStroke p l s).written = s.written ∧
      (burstStroke p l s).ring = s.ring ∧
      (burstStroke p l s).map = s.map ∧
      (burstStroke p l s).store = s.store ∧
      (burstStroke p l s).heads = s.heads ∧
      (burstStroke p l s).zones = s.zones ∧
      (burstStroke p l s).filters = s.filters ∧
      (burstStroke p l s).reg = s.reg ∧
      (burstStroke p l s).docks = s.docks ∧
      (burstStroke p l s).idle = s.idle ∧
      (burstStroke p l s).conds = s.conds ∧
      (burstStroke p l s).profiles = s.profiles ∧
      (burstStroke p l s).segments = s.segments ∧
      (burstStroke p l s).cadence = s.cadence ∧
      (burstStroke p l s).inputs = s.inputs ∧
      (burstStroke p l s).verifier = s.verifier ∧
      (burstStroke p l s).events = s.events ∧
      (burstStroke p l s).us = s.us ∧
      (burstStroke p l s).phase = s.phase ∧
      (burstStroke p l s).free = s.free ∧
      (burstStroke p l s).portB = s.portB ∧
      (burstStroke p l s).regulatorOut = s.regulatorOut := by
  unfold burstStroke
  try dsimp only
  (repeat' split) <;> simp

@[simp] theorem owedStroke_frame (p : Platen) (l : Line) (s : State) :
    (owedStroke p l s).pending = s.pending ∧
      (owedStroke p l s).awaiting = s.awaiting ∧
      (owedStroke p l s).written = s.written ∧
      (owedStroke p l s).ring = s.ring ∧
      (owedStroke p l s).map = s.map ∧
      (owedStroke p l s).store = s.store ∧
      (owedStroke p l s).heads = s.heads ∧
      (owedStroke p l s).zones = s.zones ∧
      (owedStroke p l s).filters = s.filters ∧
      (owedStroke p l s).reg = s.reg ∧
      (owedStroke p l s).docks = s.docks ∧
      (owedStroke p l s).idle = s.idle ∧
      (owedStroke p l s).conds = s.conds ∧
      (owedStroke p l s).profiles = s.profiles ∧
      (owedStroke p l s).segments = s.segments ∧
      (owedStroke p l s).cadence = s.cadence ∧
      (owedStroke p l s).inputs = s.inputs ∧
      (owedStroke p l s).verifier = s.verifier ∧
      (owedStroke p l s).events = s.events ∧
      (owedStroke p l s).us = s.us ∧
      (owedStroke p l s).phase = s.phase ∧
      (owedStroke p l s).free = s.free ∧
      (owedStroke p l s).portB = s.portB ∧
      (owedStroke p l s).regulatorOut = s.regulatorOut := by
  unfold owedStroke
  try dsimp only
  (repeat' split) <;> simp

@[simp] theorem creditPulse_frame (p : Platen) (l : Line) (s : State) :
    (creditPulse p l s).pending = s.pending ∧
      (creditPulse p l s).handed = s.handed ∧
      (creditPulse p l s).awaiting = s.awaiting ∧
      (creditPulse p l s).written = s.written ∧
      (creditPulse p l s).ring = s.ring ∧
      (creditPulse p l s).map = s.map ∧
      (creditPulse p l s).store = s.store ∧
      (creditPulse p l s).heads = s.heads ∧
      (creditPulse p l s).zones = s.zones ∧
      (creditPulse p l s).filters = s.filters ∧
      (creditPulse p l s).reg = s.reg ∧
      (creditPulse p l s).docks = s.docks ∧
      (creditPulse p l s).idle = s.idle ∧
      (creditPulse p l s).queues = s.queues ∧
      (creditPulse p l s).conds = s.conds ∧
      (creditPulse p l s).profiles = s.profiles ∧
      (creditPulse p l s).segments = s.segments ∧
      (creditPulse p l s).cadence = s.cadence ∧
      (creditPulse p l s).inputs = s.inputs ∧
      (creditPulse p l s).verifier = s.verifier ∧
      (creditPulse p l s).events = s.events ∧
      (creditPulse p l s).us = s.us ∧
      (creditPulse p l s).phase = s.phase ∧
      (creditPulse p l s).free = s.free ∧
      (creditPulse p l s).portB = s.portB ∧
      (creditPulse p l s).regulatorOut = s.regulatorOut ∧
      (creditPulse p l s).pumpOut = s.pumpOut := by
  unfold creditPulse
  try dsimp only
  (repeat' split) <;> simp

@[simp] theorem tickWindow_frame (p : Platen) (l : Line) (s : State) :
    (tickWindow p l s).pending = s.pending ∧
      (tickWindow p l s).awaiting = s.awaiting ∧
      (tickWindow p l s).written = s.written ∧
      (tickWindow p l s).ring = s.ring ∧
      (tickWindow p l s).map = s.map ∧
      (tickWindow p l s).store = s.store ∧
      (tickWindow p l s).heads = s.heads ∧
      (tickWindow p l s).zones = s.zones ∧
      (tickWindow p l s).filters = s.filters ∧
      (tickWindow p l s).reg = s.reg ∧
      (tickWindow p l s).docks = s.docks ∧
      (tickWindow p l s).idle = s.idle ∧
      (tickWindow p l s).conds = s.conds ∧
      (tickWindow p l s).profiles = s.profiles ∧
      (tickWindow p l s).segments = s.segments ∧
      (tickWindow p l s).cadence = s.cadence ∧
      (tickWindow p l s).inputs = s.inputs ∧
      (tickWindow p l s).verifier = s.verifier ∧
      (tickWindow p l s).events = s.events ∧
      (tickWindow p l s).us = s.us ∧
      (tickWindow p l s).phase = s.phase ∧
      (tickWindow p l s).free = s.free ∧
      (tickWindow p l s).portB = s.portB ∧
      (tickWindow p l s).regulatorOut = s.regulatorOut ∧
      (tickWindow p l s).pumpOut = s.pumpOut := by
  unfold tickWindow
  try dsimp only
  (repeat' split) <;> simp

@[simp] theorem tickLine_frame (p : Platen) (s : State) (l : Line) :
    (tickLine p s l).pending = s.pending ∧
      (tickLine p s l).awaiting = s.awaiting ∧
      (tickLine p s l).written = s.written ∧
      (tickLine p s l).ring = s.ring ∧
      (tickLine p s l).map = s.map ∧
      (tickLine p s l).store = s.store ∧
      (tickLine p s l).heads = s.heads ∧
      (tickLine p s l).zones = s.zones ∧
      (tickLine p s l).filters = s.filters ∧
      (tickLine p s l).reg = s.reg ∧
      (tickLine p s l).docks = s.docks ∧
      (tickLine p s l).idle = s.idle ∧
      (tickLine p s l).conds = s.conds ∧
      (tickLine p s l).profiles = s.profiles ∧
      (tickLine p s l).segments = s.segments ∧
      (tickLine p s l).cadence = s.cadence ∧
      (tickLine p s l).inputs = s.inputs ∧
      (tickLine p s l).verifier = s.verifier ∧
      (tickLine p s l).events = s.events ∧
      (tickLine p s l).us = s.us ∧
      (tickLine p s l).phase = s.phase ∧
      (tickLine p s l).free = s.free ∧
      (tickLine p s l).portB = s.portB ∧
      (tickLine p s l).regulatorOut = s.regulatorOut := by
  simp [tickLine]

@[simp] theorem tickDispense_frame (s : State) (p : Platen) :
    (tickDispense s p).pending = s.pending ∧
      (tickDispense s p).awaiting = s.awaiting ∧
      (tickDispense s p).written = s.written ∧
      (tickDispense s p).ring = s.ring ∧
      (tickDispense s p).map = s.map ∧
      (tickDispense s p).store = s.store ∧
      (tickDispense s p).heads = s.heads ∧
      (tickDispense s p).zones = s.zones ∧
      (tickDispense s p).filters = s.filters ∧
      (tickDispense s p).reg = s.reg ∧
      (tickDispense s p).docks = s.docks ∧
      (tickDispense s p).idle = s.idle ∧
      (tickDispense s p).conds = s.conds ∧
      (tickDispense s p).profiles = s.profiles ∧
      (tickDispense s p).segments = s.segments ∧
      (tickDispense s p).cadence = s.cadence ∧
      (tickDispense s p).inputs = s.inputs ∧
      (tickDispense s p).verifier = s.verifier ∧
      (tickDispense s p).events = s.events ∧
      (tickDispense s p).us = s.us ∧
      (tickDispense s p).phase = s.phase ∧
      (tickDispense s p).free = s.free ∧
      (tickDispense s p).portB = s.portB ∧
      (tickDispense s p).regulatorOut = s.regulatorOut := by
  simp [tickDispense, foldl_leaves State.pending, foldl_leaves State.awaiting,
    foldl_leaves State.written, foldl_leaves State.ring, foldl_leaves State.map,
    foldl_leaves State.store, foldl_leaves State.heads, foldl_leaves State.zones,
    foldl_leaves State.filters, foldl_leaves State.reg, foldl_leaves State.docks,
    foldl_leaves State.idle, foldl_leaves State.conds, foldl_leaves State.profiles,
    foldl_leaves State.segments, foldl_leaves State.cadence, foldl_leaves State.inputs,
    foldl_leaves State.verifier, foldl_leaves State.events, foldl_leaves State.us,
    foldl_leaves State.phase, foldl_leaves State.free, foldl_leaves State.portB,
    foldl_leaves State.regulatorOut]

@[simp] theorem applyLine_frame (b : Bool) (i : LineIx) (e : LineConfig) (s : State) :
    (applyLine b i e s).pending = s.pending ∧
      (applyLine b i e s).awaiting = s.awaiting ∧
      (applyLine b i e s).ring = s.ring ∧
      (applyLine b i e s).map = s.map ∧
      (applyLine b i e s).store = s.store ∧
      (applyLine b i e s).heads = s.heads ∧
      (applyLine b i e s).zones = s.zones ∧
      (applyLine b i e s).filters = s.filters ∧
      (applyLine b i e s).reg = s.reg ∧
      (applyLine b i e s).docks = s.docks ∧
      (applyLine b i e s).idle = s.idle ∧
      (applyLine b i e s).queues = s.queues ∧
      (applyLine b i e s).conds = s.conds ∧
      (applyLine b i e s).profiles = s.profiles ∧
      (applyLine b i e s).segments = s.segments ∧
      (applyLine b i e s).cadence = s.cadence ∧
      (applyLine b i e s).inputs = s.inputs ∧
      (applyLine b i e s).verifier = s.verifier ∧
      (applyLine b i e s).events = s.events ∧
      (applyLine b i e s).us = s.us ∧
      (applyLine b i e s).phase = s.phase ∧
      (applyLine b i e s).free = s.free ∧
      (applyLine b i e s).portB = s.portB ∧
      (applyLine b i e s).regulatorOut = s.regulatorOut ∧
      (applyLine b i e s).pumpOut = s.pumpOut := by
  unfold applyLine
  try dsimp only
  (repeat' split) <;> simp

/-! ### Pad conditioning -/

@[simp] theorem State.driveCond_frame (p : Platen) (c : Conditioner) (s : State) :
    (s.driveCond p c).pending = s.pending ∧
      (s.driveCond p c).handed = s.handed ∧
      (s.driveCond p c).awaiting = s.awaiting ∧
      (s.driveCond p c).written = s.written ∧
      (s.driveCond p c).ring = s.ring ∧
      (s.driveCond p c).map = s.map ∧
      (s.driveCond p c).store = s.store ∧
      (s.driveCond p c).heads = s.heads ∧
      (s.driveCond p c).zones = s.zones ∧
      (s.driveCond p c).filters = s.filters ∧
      (s.driveCond p c).docks = s.docks ∧
      (s.driveCond p c).idle = s.idle ∧
      (s.driveCond p c).queues = s.queues ∧
      (s.driveCond p c).lines = s.lines ∧
      (s.driveCond p c).profiles = s.profiles ∧
      (s.driveCond p c).segments = s.segments ∧
      (s.driveCond p c).cadence = s.cadence ∧
      (s.driveCond p c).inputs = s.inputs ∧
      (s.driveCond p c).verifier = s.verifier ∧
      (s.driveCond p c).events = s.events ∧
      (s.driveCond p c).us = s.us ∧
      (s.driveCond p c).phase = s.phase ∧
      (s.driveCond p c).free = s.free ∧
      (s.driveCond p c).portB = s.portB ∧
      (s.driveCond p c).regulatorOut = s.regulatorOut ∧
      (s.driveCond p c).pumpOut = s.pumpOut := by
  simp [State.driveCond]

@[simp] theorem enterParking_frame (p : Platen) (b : Bool) (s : State) :
    (enterParking p b s).pending = s.pending ∧
      (enterParking p b s).handed = s.handed ∧
      (enterParking p b s).awaiting = s.awaiting ∧
      (enterParking p b s).written = s.written ∧
      (enterParking p b s).ring = s.ring ∧
      (enterParking p b s).map = s.map ∧
      (enterParking p b s).store = s.store ∧
      (enterParking p b s).heads = s.heads ∧
      (enterParking p b s).zones = s.zones ∧
      (enterParking p b s).filters = s.filters ∧
      (enterParking p b s).docks = s.docks ∧
      (enterParking p b s).idle = s.idle ∧
      (enterParking p b s).queues = s.queues ∧
      (enterParking p b s).lines = s.lines ∧
      (enterParking p b s).profiles = s.profiles ∧
      (enterParking p b s).segments = s.segments ∧
      (enterParking p b s).cadence = s.cadence ∧
      (enterParking p b s).inputs = s.inputs ∧
      (enterParking p b s).verifier = s.verifier ∧
      (enterParking p b s).events = s.events ∧
      (enterParking p b s).us = s.us ∧
      (enterParking p b s).phase = s.phase ∧
      (enterParking p b s).free = s.free ∧
      (enterParking p b s).portB = s.portB ∧
      (enterParking p b s).regulatorOut = s.regulatorOut ∧
      (enterParking p b s).pumpOut = s.pumpOut := by
  simp [enterParking]

@[simp] theorem enterFaulted_frame (p : Platen) (c : CondFaultCause) (d : Nat) (s : State) :
    (enterFaulted p c d s).pending = s.pending ∧
      (enterFaulted p c d s).awaiting = s.awaiting ∧
      (enterFaulted p c d s).written = s.written ∧
      (enterFaulted p c d s).ring = s.ring ∧
      (enterFaulted p c d s).map = s.map ∧
      (enterFaulted p c d s).store = s.store ∧
      (enterFaulted p c d s).heads = s.heads ∧
      (enterFaulted p c d s).zones = s.zones ∧
      (enterFaulted p c d s).filters = s.filters ∧
      (enterFaulted p c d s).docks = s.docks ∧
      (enterFaulted p c d s).idle = s.idle ∧
      (enterFaulted p c d s).queues = s.queues ∧
      (enterFaulted p c d s).lines = s.lines ∧
      (enterFaulted p c d s).profiles = s.profiles ∧
      (enterFaulted p c d s).segments = s.segments ∧
      (enterFaulted p c d s).cadence = s.cadence ∧
      (enterFaulted p c d s).inputs = s.inputs ∧
      (enterFaulted p c d s).verifier = s.verifier ∧
      (enterFaulted p c d s).events = s.events ∧
      (enterFaulted p c d s).us = s.us ∧
      (enterFaulted p c d s).phase = s.phase ∧
      (enterFaulted p c d s).free = s.free ∧
      (enterFaulted p c d s).portB = s.portB ∧
      (enterFaulted p c d s).regulatorOut = s.regulatorOut ∧
      (enterFaulted p c d s).pumpOut = s.pumpOut := by
  simp [enterFaulted]

@[simp] theorem startSegment_frame (p : Platen) (k : Fin 8) (n : Nat) (s : State) :
    (startSegment p k n s).pending = s.pending ∧
      (startSegment p k n s).awaiting = s.awaiting ∧
      (startSegment p k n s).written = s.written ∧
      (startSegment p k n s).ring = s.ring ∧
      (startSegment p k n s).map = s.map ∧
      (startSegment p k n s).store = s.store ∧
      (startSegment p k n s).heads = s.heads ∧
      (startSegment p k n s).zones = s.zones ∧
      (startSegment p k n s).filters = s.filters ∧
      (startSegment p k n s).docks = s.docks ∧
      (startSegment p k n s).idle = s.idle ∧
      (startSegment p k n s).queues = s.queues ∧
      (startSegment p k n s).lines = s.lines ∧
      (startSegment p k n s).profiles = s.profiles ∧
      (startSegment p k n s).segments = s.segments ∧
      (startSegment p k n s).cadence = s.cadence ∧
      (startSegment p k n s).inputs = s.inputs ∧
      (startSegment p k n s).verifier = s.verifier ∧
      (startSegment p k n s).events = s.events ∧
      (startSegment p k n s).us = s.us ∧
      (startSegment p k n s).phase = s.phase ∧
      (startSegment p k n s).free = s.free ∧
      (startSegment p k n s).portB = s.portB ∧
      (startSegment p k n s).regulatorOut = s.regulatorOut ∧
      (startSegment p k n s).pumpOut = s.pumpOut := by
  simp [startSegment]

@[simp] theorem beginSweep_frame (p : Platen) (k : Fin 8) (s : State) :
    (beginSweep p k s).pending = s.pending ∧
      (beginSweep p k s).awaiting = s.awaiting ∧
      (beginSweep p k s).written = s.written ∧
      (beginSweep p k s).ring = s.ring ∧
      (beginSweep p k s).map = s.map ∧
      (beginSweep p k s).store = s.store ∧
      (beginSweep p k s).heads = s.heads ∧
      (beginSweep p k s).zones = s.zones ∧
      (beginSweep p k s).filters = s.filters ∧
      (beginSweep p k s).docks = s.docks ∧
      (beginSweep p k s).idle = s.idle ∧
      (beginSweep p k s).queues = s.queues ∧
      (beginSweep p k s).lines = s.lines ∧
      (beginSweep p k s).profiles = s.profiles ∧
      (beginSweep p k s).segments = s.segments ∧
      (beginSweep p k s).cadence = s.cadence ∧
      (beginSweep p k s).inputs = s.inputs ∧
      (beginSweep p k s).verifier = s.verifier ∧
      (beginSweep p k s).events = s.events ∧
      (beginSweep p k s).us = s.us ∧
      (beginSweep p k s).phase = s.phase ∧
      (beginSweep p k s).free = s.free ∧
      (beginSweep p k s).portB = s.portB ∧
      (beginSweep p k s).regulatorOut = s.regulatorOut ∧
      (beginSweep p k s).pumpOut = s.pumpOut := by
  simp [beginSweep]

@[simp] theorem endSegment_frame (p : Platen) (s : State) :
    (endSegment p s).pending = s.pending ∧
      (endSegment p s).awaiting = s.awaiting ∧
      (endSegment p s).written = s.written ∧
      (endSegment p s).ring = s.ring ∧
      (endSegment p s).map = s.map ∧
      (endSegment p s).store = s.store ∧
      (endSegment p s).heads = s.heads ∧
      (endSegment p s).zones = s.zones ∧
      (endSegment p s).filters = s.filters ∧
      (endSegment p s).docks = s.docks ∧
      (endSegment p s).idle = s.idle ∧
      (endSegment p s).queues = s.queues ∧
      (endSegment p s).lines = s.lines ∧
      (endSegment p s).profiles = s.profiles ∧
      (endSegment p s).segments = s.segments ∧
      (endSegment p s).cadence = s.cadence ∧
      (endSegment p s).inputs = s.inputs ∧
      (endSegment p s).verifier = s.verifier ∧
      (endSegment p s).events = s.events ∧
      (endSegment p s).us = s.us ∧
      (endSegment p s).phase = s.phase ∧
      (endSegment p s).free = s.free ∧
      (endSegment p s).portB = s.portB ∧
      (endSegment p s).regulatorOut = s.regulatorOut ∧
      (endSegment p s).pumpOut = s.pumpOut := by
  unfold endSegment
  try dsimp only
  (repeat' split) <;> simp

@[simp] theorem applyCondCommand_frame (p : Platen) (c : CondCommand) (s : State) :
    (applyCondCommand p c s).1.pending = s.pending ∧
      (applyCondCommand p c s).1.awaiting = s.awaiting ∧
      (applyCondCommand p c s).1.written = s.written ∧
      (applyCondCommand p c s).1.ring = s.ring ∧
      (applyCondCommand p c s).1.map = s.map ∧
      (applyCondCommand p c s).1.store = s.store ∧
      (applyCondCommand p c s).1.heads = s.heads ∧
      (applyCondCommand p c s).1.zones = s.zones ∧
      (applyCondCommand p c s).1.filters = s.filters ∧
      (applyCondCommand p c s).1.docks = s.docks ∧
      (applyCondCommand p c s).1.idle = s.idle ∧
      (applyCondCommand p c s).1.queues = s.queues ∧
      (applyCondCommand p c s).1.lines = s.lines ∧
      (applyCondCommand p c s).1.profiles = s.profiles ∧
      (applyCondCommand p c s).1.segments = s.segments ∧
      (applyCondCommand p c s).1.cadence = s.cadence ∧
      (applyCondCommand p c s).1.inputs = s.inputs ∧
      (applyCondCommand p c s).1.verifier = s.verifier ∧
      (applyCondCommand p c s).1.events = s.events ∧
      (applyCondCommand p c s).1.us = s.us ∧
      (applyCondCommand p c s).1.phase = s.phase ∧
      (applyCondCommand p c s).1.free = s.free ∧
      (applyCondCommand p c s).1.portB = s.portB ∧
      (applyCondCommand p c s).1.regulatorOut = s.regulatorOut ∧
      (applyCondCommand p c s).1.pumpOut = s.pumpOut := by
  unfold applyCondCommand
  try dsimp only
  (repeat' split) <;> simp

@[simp] theorem raiseCondRefusal_frame (p : Platen) (x : Octet) (o : CondOutcome) (s : State) :
    (raiseCondRefusal p x o s).pending = s.pending ∧
      (raiseCondRefusal p x o s).awaiting = s.awaiting ∧
      (raiseCondRefusal p x o s).written = s.written ∧
      (raiseCondRefusal p x o s).ring = s.ring ∧
      (raiseCondRefusal p x o s).map = s.map ∧
      (raiseCondRefusal p x o s).store = s.store ∧
      (raiseCondRefusal p x o s).heads = s.heads ∧
      (raiseCondRefusal p x o s).zones = s.zones ∧
      (raiseCondRefusal p x o s).filters = s.filters ∧
      (raiseCondRefusal p x o s).reg = s.reg ∧
      (raiseCondRefusal p x o s).docks = s.docks ∧
      (raiseCondRefusal p x o s).idle = s.idle ∧
      (raiseCondRefusal p x o s).queues = s.queues ∧
      (raiseCondRefusal p x o s).lines = s.lines ∧
      (raiseCondRefusal p x o s).conds = s.conds ∧
      (raiseCondRefusal p x o s).profiles = s.profiles ∧
      (raiseCondRefusal p x o s).segments = s.segments ∧
      (raiseCondRefusal p x o s).cadence = s.cadence ∧
      (raiseCondRefusal p x o s).inputs = s.inputs ∧
      (raiseCondRefusal p x o s).verifier = s.verifier ∧
      (raiseCondRefusal p x o s).events = s.events ∧
      (raiseCondRefusal p x o s).us = s.us ∧
      (raiseCondRefusal p x o s).phase = s.phase ∧
      (raiseCondRefusal p x o s).free = s.free ∧
      (raiseCondRefusal p x o s).portB = s.portB ∧
      (raiseCondRefusal p x o s).regulatorOut = s.regulatorOut ∧
      (raiseCondRefusal p x o s).pumpOut = s.pumpOut := by
  unfold raiseCondRefusal
  try dsimp only
  (repeat' split) <;> simp

@[simp] theorem newCondCommand_frame (p : Platen) (v : CommandValue) (s : State) :
    (newCondCommand p v s).pending = s.pending ∧
      (newCondCommand p v s).awaiting = s.awaiting ∧
      (newCondCommand p v s).written = s.written ∧
      (newCondCommand p v s).ring = s.ring ∧
      (newCondCommand p v s).store = s.store ∧
      (newCondCommand p v s).heads = s.heads ∧
      (newCondCommand p v s).zones = s.zones ∧
      (newCondCommand p v s).filters = s.filters ∧
      (newCondCommand p v s).docks = s.docks ∧
      (newCondCommand p v s).idle = s.idle ∧
      (newCondCommand p v s).queues = s.queues ∧
      (newCondCommand p v s).lines = s.lines ∧
      (newCondCommand p v s).profiles = s.profiles ∧
      (newCondCommand p v s).segments = s.segments ∧
      (newCondCommand p v s).cadence = s.cadence ∧
      (newCondCommand p v s).inputs = s.inputs ∧
      (newCondCommand p v s).verifier = s.verifier ∧
      (newCondCommand p v s).events = s.events ∧
      (newCondCommand p v s).us = s.us ∧
      (newCondCommand p v s).phase = s.phase ∧
      (newCondCommand p v s).free = s.free ∧
      (newCondCommand p v s).portB = s.portB ∧
      (newCondCommand p v s).regulatorOut = s.regulatorOut ∧
      (newCondCommand p v s).pumpOut = s.pumpOut := by
  simp [newCondCommand]

@[simp] theorem deliverCondCommand_frame (p : Platen) (v : CommandValue) (s : State) :
    (deliverCondCommand p v s).pending = s.pending ∧
      (deliverCondCommand p v s).awaiting = s.awaiting ∧
      (deliverCondCommand p v s).written = s.written ∧
      (deliverCondCommand p v s).ring = s.ring ∧
      (deliverCondCommand p v s).store = s.store ∧
      (deliverCondCommand p v s).heads = s.heads ∧
      (deliverCondCommand p v s).zones = s.zones ∧
      (deliverCondCommand p v s).filters = s.filters ∧
      (deliverCondCommand p v s).docks = s.docks ∧
      (deliverCondCommand p v s).idle = s.idle ∧
      (deliverCondCommand p v s).queues = s.queues ∧
      (deliverCondCommand p v s).lines = s.lines ∧
      (deliverCondCommand p v s).profiles = s.profiles ∧
      (deliverCondCommand p v s).segments = s.segments ∧
      (deliverCondCommand p v s).cadence = s.cadence ∧
      (deliverCondCommand p v s).inputs = s.inputs ∧
      (deliverCondCommand p v s).verifier = s.verifier ∧
      (deliverCondCommand p v s).events = s.events ∧
      (deliverCondCommand p v s).us = s.us ∧
      (deliverCondCommand p v s).phase = s.phase ∧
      (deliverCondCommand p v s).free = s.free ∧
      (deliverCondCommand p v s).portB = s.portB ∧
      (deliverCondCommand p v s).regulatorOut = s.regulatorOut ∧
      (deliverCondCommand p v s).pumpOut = s.pumpOut := by
  unfold deliverCondCommand
  try dsimp only
  (repeat' split) <;> simp

@[simp] theorem stepCommandAt_frame (p : Platen) (c : StepCommand) (s : State) :
    (stepCommandAt p c s).pending = s.pending ∧
      (stepCommandAt p c s).awaiting = s.awaiting ∧
      (stepCommandAt p c s).written = s.written ∧
      (stepCommandAt p c s).ring = s.ring ∧
      (stepCommandAt p c s).map = s.map ∧
      (stepCommandAt p c s).store = s.store ∧
      (stepCommandAt p c s).heads = s.heads ∧
      (stepCommandAt p c s).zones = s.zones ∧
      (stepCommandAt p c s).filters = s.filters ∧
      (stepCommandAt p c s).docks = s.docks ∧
      (stepCommandAt p c s).idle = s.idle ∧
      (stepCommandAt p c s).queues = s.queues ∧
      (stepCommandAt p c s).lines = s.lines ∧
      (stepCommandAt p c s).profiles = s.profiles ∧
      (stepCommandAt p c s).segments = s.segments ∧
      (stepCommandAt p c s).cadence = s.cadence ∧
      (stepCommandAt p c s).inputs = s.inputs ∧
      (stepCommandAt p c s).verifier = s.verifier ∧
      (stepCommandAt p c s).events = s.events ∧
      (stepCommandAt p c s).us = s.us ∧
      (stepCommandAt p c s).phase = s.phase ∧
      (stepCommandAt p c s).free = s.free ∧
      (stepCommandAt p c s).portB = s.portB ∧
      (stepCommandAt p c s).regulatorOut = s.regulatorOut ∧
      (stepCommandAt p c s).pumpOut = s.pumpOut := by
  unfold stepCommandAt
  try dsimp only
  (repeat' split) <;> simp

@[simp] theorem parkIfSweeping_frame (p : Platen) (s : State) :
    (parkIfSweeping p s).pending = s.pending ∧
      (parkIfSweeping p s).handed = s.handed ∧
      (parkIfSweeping p s).awaiting = s.awaiting ∧
      (parkIfSweeping p s).written = s.written ∧
      (parkIfSweeping p s).ring = s.ring ∧
      (parkIfSweeping p s).map = s.map ∧
      (parkIfSweeping p s).store = s.store ∧
      (parkIfSweeping p s).heads = s.heads ∧
      (parkIfSweeping p s).zones = s.zones ∧
      (parkIfSweeping p s).filters = s.filters ∧
      (parkIfSweeping p s).docks = s.docks ∧
      (parkIfSweeping p s).idle = s.idle ∧
      (parkIfSweeping p s).queues = s.queues ∧
      (parkIfSweeping p s).lines = s.lines ∧
      (parkIfSweeping p s).profiles = s.profiles ∧
      (parkIfSweeping p s).segments = s.segments ∧
      (parkIfSweeping p s).cadence = s.cadence ∧
      (parkIfSweeping p s).inputs = s.inputs ∧
      (parkIfSweeping p s).verifier = s.verifier ∧
      (parkIfSweeping p s).events = s.events ∧
      (parkIfSweeping p s).us = s.us ∧
      (parkIfSweeping p s).phase = s.phase ∧
      (parkIfSweeping p s).free = s.free ∧
      (parkIfSweeping p s).portB = s.portB ∧
      (parkIfSweeping p s).regulatorOut = s.regulatorOut ∧
      (parkIfSweeping p s).pumpOut = s.pumpOut := by
  unfold parkIfSweeping
  try dsimp only
  (repeat' split) <;> simp

@[simp] theorem overloadAt_frame (p : Platen) (s : State) :
    (overloadAt p s).pending = s.pending ∧
      (overloadAt p s).awaiting = s.awaiting ∧
      (overloadAt p s).written = s.written ∧
      (overloadAt p s).ring = s.ring ∧
      (overloadAt p s).map = s.map ∧
      (overloadAt p s).store = s.store ∧
      (overloadAt p s).heads = s.heads ∧
      (overloadAt p s).zones = s.zones ∧
      (overloadAt p s).filters = s.filters ∧
      (overloadAt p s).docks = s.docks ∧
      (overloadAt p s).idle = s.idle ∧
      (overloadAt p s).queues = s.queues ∧
      (overloadAt p s).lines = s.lines ∧
      (overloadAt p s).profiles = s.profiles ∧
      (overloadAt p s).segments = s.segments ∧
      (overloadAt p s).cadence = s.cadence ∧
      (overloadAt p s).inputs = s.inputs ∧
      (overloadAt p s).verifier = s.verifier ∧
      (overloadAt p s).events = s.events ∧
      (overloadAt p s).us = s.us ∧
      (overloadAt p s).phase = s.phase ∧
      (overloadAt p s).free = s.free ∧
      (overloadAt p s).portB = s.portB ∧
      (overloadAt p s).regulatorOut = s.regulatorOut ∧
      (overloadAt p s).pumpOut = s.pumpOut := by
  unfold overloadAt
  try dsimp only
  (repeat' split) <;> simp

@[simp] theorem judgePosition_frame (p : Platen) (n : Nat) (s : State) :
    (judgePosition p n s).pending = s.pending ∧
      (judgePosition p n s).awaiting = s.awaiting ∧
      (judgePosition p n s).written = s.written ∧
      (judgePosition p n s).ring = s.ring ∧
      (judgePosition p n s).map = s.map ∧
      (judgePosition p n s).store = s.store ∧
      (judgePosition p n s).heads = s.heads ∧
      (judgePosition p n s).zones = s.zones ∧
      (judgePosition p n s).filters = s.filters ∧
      (judgePosition p n s).docks = s.docks ∧
      (judgePosition p n s).idle = s.idle ∧
      (judgePosition p n s).queues = s.queues ∧
      (judgePosition p n s).lines = s.lines ∧
      (judgePosition p n s).profiles = s.profiles ∧
      (judgePosition p n s).segments = s.segments ∧
      (judgePosition p n s).cadence = s.cadence ∧
      (judgePosition p n s).inputs = s.inputs ∧
      (judgePosition p n s).verifier = s.verifier ∧
      (judgePosition p n s).events = s.events ∧
      (judgePosition p n s).us = s.us ∧
      (judgePosition p n s).phase = s.phase ∧
      (judgePosition p n s).free = s.free ∧
      (judgePosition p n s).portB = s.portB ∧
      (judgePosition p n s).regulatorOut = s.regulatorOut ∧
      (judgePosition p n s).pumpOut = s.pumpOut := by
  unfold judgePosition
  try dsimp only
  (repeat' split) <;> simp

@[simp] theorem reachTimeoutAt_frame (p : Platen) (s : State) :
    (reachTimeoutAt p s).pending = s.pending ∧
      (reachTimeoutAt p s).awaiting = s.awaiting ∧
      (reachTimeoutAt p s).written = s.written ∧
      (reachTimeoutAt p s).ring = s.ring ∧
      (reachTimeoutAt p s).map = s.map ∧
      (reachTimeoutAt p s).store = s.store ∧
      (reachTimeoutAt p s).heads = s.heads ∧
      (reachTimeoutAt p s).zones = s.zones ∧
      (reachTimeoutAt p s).filters = s.filters ∧
      (reachTimeoutAt p s).docks = s.docks ∧
      (reachTimeoutAt p s).idle = s.idle ∧
      (reachTimeoutAt p s).queues = s.queues ∧
      (reachTimeoutAt p s).lines = s.lines ∧
      (reachTimeoutAt p s).profiles = s.profiles ∧
      (reachTimeoutAt p s).segments = s.segments ∧
      (reachTimeoutAt p s).cadence = s.cadence ∧
      (reachTimeoutAt p s).inputs = s.inputs ∧
      (reachTimeoutAt p s).verifier = s.verifier ∧
      (reachTimeoutAt p s).events = s.events ∧
      (reachTimeoutAt p s).us = s.us ∧
      (reachTimeoutAt p s).phase = s.phase ∧
      (reachTimeoutAt p s).free = s.free ∧
      (reachTimeoutAt p s).portB = s.portB ∧
      (reachTimeoutAt p s).regulatorOut = s.regulatorOut ∧
      (reachTimeoutAt p s).pumpOut = s.pumpOut := by
  unfold reachTimeoutAt
  try dsimp only
  (repeat' split) <;> simp

@[simp] theorem dwellEndAt_frame (p : Platen) (s : State) :
    (dwellEndAt p s).pending = s.pending ∧
      (dwellEndAt p s).awaiting = s.awaiting ∧
      (dwellEndAt p s).written = s.written ∧
      (dwellEndAt p s).ring = s.ring ∧
      (dwellEndAt p s).map = s.map ∧
      (dwellEndAt p s).store = s.store ∧
      (dwellEndAt p s).heads = s.heads ∧
      (dwellEndAt p s).zones = s.zones ∧
      (dwellEndAt p s).filters = s.filters ∧
      (dwellEndAt p s).docks = s.docks ∧
      (dwellEndAt p s).idle = s.idle ∧
      (dwellEndAt p s).queues = s.queues ∧
      (dwellEndAt p s).lines = s.lines ∧
      (dwellEndAt p s).profiles = s.profiles ∧
      (dwellEndAt p s).segments = s.segments ∧
      (dwellEndAt p s).cadence = s.cadence ∧
      (dwellEndAt p s).inputs = s.inputs ∧
      (dwellEndAt p s).verifier = s.verifier ∧
      (dwellEndAt p s).events = s.events ∧
      (dwellEndAt p s).us = s.us ∧
      (dwellEndAt p s).phase = s.phase ∧
      (dwellEndAt p s).free = s.free ∧
      (dwellEndAt p s).portB = s.portB ∧
      (dwellEndAt p s).regulatorOut = s.regulatorOut ∧
      (dwellEndAt p s).pumpOut = s.pumpOut := by
  unfold dwellEndAt
  try dsimp only
  (repeat' split) <;> simp

@[simp] theorem parkTimeoutAt_frame (p : Platen) (s : State) :
    (parkTimeoutAt p s).pending = s.pending ∧
      (parkTimeoutAt p s).awaiting = s.awaiting ∧
      (parkTimeoutAt p s).written = s.written ∧
      (parkTimeoutAt p s).ring = s.ring ∧
      (parkTimeoutAt p s).map = s.map ∧
      (parkTimeoutAt p s).store = s.store ∧
      (parkTimeoutAt p s).heads = s.heads ∧
      (parkTimeoutAt p s).zones = s.zones ∧
      (parkTimeoutAt p s).filters = s.filters ∧
      (parkTimeoutAt p s).docks = s.docks ∧
      (parkTimeoutAt p s).idle = s.idle ∧
      (parkTimeoutAt p s).queues = s.queues ∧
      (parkTimeoutAt p s).lines = s.lines ∧
      (parkTimeoutAt p s).profiles = s.profiles ∧
      (parkTimeoutAt p s).segments = s.segments ∧
      (parkTimeoutAt p s).cadence = s.cadence ∧
      (parkTimeoutAt p s).inputs = s.inputs ∧
      (parkTimeoutAt p s).verifier = s.verifier ∧
      (parkTimeoutAt p s).events = s.events ∧
      (parkTimeoutAt p s).us = s.us ∧
      (parkTimeoutAt p s).phase = s.phase ∧
      (parkTimeoutAt p s).free = s.free ∧
      (parkTimeoutAt p s).portB = s.portB ∧
      (parkTimeoutAt p s).regulatorOut = s.regulatorOut ∧
      (parkTimeoutAt p s).pumpOut = s.pumpOut := by
  unfold parkTimeoutAt
  try dsimp only
  (repeat' split) <;> simp

@[simp] theorem tickCond_frame (s : State) (p : Platen) :
    (tickCond s p).pending = s.pending ∧
      (tickCond s p).awaiting = s.awaiting ∧
      (tickCond s p).written = s.written ∧
      (tickCond s p).ring = s.ring ∧
      (tickCond s p).map = s.map ∧
      (tickCond s p).store = s.store ∧
      (tickCond s p).heads = s.heads ∧
      (tickCond s p).zones = s.zones ∧
      (tickCond s p).filters = s.filters ∧
      (tickCond s p).docks = s.docks ∧
      (tickCond s p).idle = s.idle ∧
      (tickCond s p).queues = s.queues ∧
      (tickCond s p).lines = s.lines ∧
      (tickCond s p).profiles = s.profiles ∧
      (tickCond s p).segments = s.segments ∧
      (tickCond s p).cadence = s.cadence ∧
      (tickCond s p).inputs = s.inputs ∧
      (tickCond s p).verifier = s.verifier ∧
      (tickCond s p).events = s.events ∧
      (tickCond s p).us = s.us ∧
      (tickCond s p).phase = s.phase ∧
      (tickCond s p).free = s.free ∧
      (tickCond s p).portB = s.portB ∧
      (tickCond s p).regulatorOut = s.regulatorOut ∧
      (tickCond s p).pumpOut = s.pumpOut := by
  unfold tickCond
  try dsimp only
  (repeat' split) <;> simp

@[simp] theorem applyProfile_frame (b : Bool) (k : Fin 8) (e : ProfileEntry) (s : State) :
    (applyProfile b k e s).pending = s.pending ∧
      (applyProfile b k e s).awaiting = s.awaiting ∧
      (applyProfile b k e s).ring = s.ring ∧
      (applyProfile b k e s).map = s.map ∧
      (applyProfile b k e s).store = s.store ∧
      (applyProfile b k e s).heads = s.heads ∧
      (applyProfile b k e s).zones = s.zones ∧
      (applyProfile b k e s).filters = s.filters ∧
      (applyProfile b k e s).reg = s.reg ∧
      (applyProfile b k e s).docks = s.docks ∧
      (applyProfile b k e s).idle = s.idle ∧
      (applyProfile b k e s).queues = s.queues ∧
      (applyProfile b k e s).lines = s.lines ∧
      (applyProfile b k e s).conds = s.conds ∧
      (applyProfile b k e s).segments = s.segments ∧
      (applyProfile b k e s).cadence = s.cadence ∧
      (applyProfile b k e s).inputs = s.inputs ∧
      (applyProfile b k e s).verifier = s.verifier ∧
      (applyProfile b k e s).events = s.events ∧
      (applyProfile b k e s).us = s.us ∧
      (applyProfile b k e s).phase = s.phase ∧
      (applyProfile b k e s).free = s.free ∧
      (applyProfile b k e s).portB = s.portB ∧
      (applyProfile b k e s).regulatorOut = s.regulatorOut ∧
      (applyProfile b k e s).pumpOut = s.pumpOut := by
  unfold applyProfile
  try dsimp only
  (repeat' split) <;> simp

@[simp] theorem applySegment_frame (b : Bool) (i : Fin 96) (e : SegmentRecord) (s : State) :
    (applySegment b i e s).pending = s.pending ∧
      (applySegment b i e s).awaiting = s.awaiting ∧
      (applySegment b i e s).ring = s.ring ∧
      (applySegment b i e s).map = s.map ∧
      (applySegment b i e s).store = s.store ∧
      (applySegment b i e s).heads = s.heads ∧
      (applySegment b i e s).zones = s.zones ∧
      (applySegment b i e s).filters = s.filters ∧
      (applySegment b i e s).reg = s.reg ∧
      (applySegment b i e s).docks = s.docks ∧
      (applySegment b i e s).idle = s.idle ∧
      (applySegment b i e s).queues = s.queues ∧
      (applySegment b i e s).lines = s.lines ∧
      (applySegment b i e s).conds = s.conds ∧
      (applySegment b i e s).profiles = s.profiles ∧
      (applySegment b i e s).cadence = s.cadence ∧
      (applySegment b i e s).inputs = s.inputs ∧
      (applySegment b i e s).verifier = s.verifier ∧
      (applySegment b i e s).events = s.events ∧
      (applySegment b i e s).us = s.us ∧
      (applySegment b i e s).phase = s.phase ∧
      (applySegment b i e s).free = s.free ∧
      (applySegment b i e s).portB = s.portB ∧
      (applySegment b i e s).regulatorOut = s.regulatorOut ∧
      (applySegment b i e s).pumpOut = s.pumpOut := by
  unfold applySegment
  try dsimp only
  (repeat' split) <;> simp

/-! ### Head engines -/

@[simp] theorem enterSafeHold_frame (h : Head) (c : SafeCause) (s : State) :
    (enterSafeHold h c s).pending = s.pending ∧
      (enterSafeHold h c s).awaiting = s.awaiting ∧
      (enterSafeHold h c s).written = s.written ∧
      (enterSafeHold h c s).ring = s.ring ∧
      (enterSafeHold h c s).map = s.map ∧
      (enterSafeHold h c s).store = s.store ∧
      (enterSafeHold h c s).zones = s.zones ∧
      (enterSafeHold h c s).filters = s.filters ∧
      (enterSafeHold h c s).reg = s.reg ∧
      (enterSafeHold h c s).docks = s.docks ∧
      (enterSafeHold h c s).idle = s.idle ∧
      (enterSafeHold h c s).queues = s.queues ∧
      (enterSafeHold h c s).lines = s.lines ∧
      (enterSafeHold h c s).conds = s.conds ∧
      (enterSafeHold h c s).profiles = s.profiles ∧
      (enterSafeHold h c s).segments = s.segments ∧
      (enterSafeHold h c s).cadence = s.cadence ∧
      (enterSafeHold h c s).inputs = s.inputs ∧
      (enterSafeHold h c s).verifier = s.verifier ∧
      (enterSafeHold h c s).events = s.events ∧
      (enterSafeHold h c s).us = s.us ∧
      (enterSafeHold h c s).phase = s.phase ∧
      (enterSafeHold h c s).free = s.free ∧
      (enterSafeHold h c s).portB = s.portB ∧
      (enterSafeHold h c s).regulatorOut = s.regulatorOut ∧
      (enterSafeHold h c s).pumpOut = s.pumpOut := by
  unfold enterSafeHold
  try dsimp only
  (repeat' split) <;> simp

@[simp] theorem safeHoldCause_frame (h : Head) (c : SafeCause) (s : State) :
    (safeHoldCause h c s).pending = s.pending ∧
      (safeHoldCause h c s).awaiting = s.awaiting ∧
      (safeHoldCause h c s).written = s.written ∧
      (safeHoldCause h c s).ring = s.ring ∧
      (safeHoldCause h c s).map = s.map ∧
      (safeHoldCause h c s).store = s.store ∧
      (safeHoldCause h c s).zones = s.zones ∧
      (safeHoldCause h c s).filters = s.filters ∧
      (safeHoldCause h c s).reg = s.reg ∧
      (safeHoldCause h c s).docks = s.docks ∧
      (safeHoldCause h c s).idle = s.idle ∧
      (safeHoldCause h c s).queues = s.queues ∧
      (safeHoldCause h c s).lines = s.lines ∧
      (safeHoldCause h c s).conds = s.conds ∧
      (safeHoldCause h c s).profiles = s.profiles ∧
      (safeHoldCause h c s).segments = s.segments ∧
      (safeHoldCause h c s).cadence = s.cadence ∧
      (safeHoldCause h c s).inputs = s.inputs ∧
      (safeHoldCause h c s).verifier = s.verifier ∧
      (safeHoldCause h c s).events = s.events ∧
      (safeHoldCause h c s).us = s.us ∧
      (safeHoldCause h c s).phase = s.phase ∧
      (safeHoldCause h c s).free = s.free ∧
      (safeHoldCause h c s).portB = s.portB ∧
      (safeHoldCause h c s).regulatorOut = s.regulatorOut ∧
      (safeHoldCause h c s).pumpOut = s.pumpOut := by
  unfold safeHoldCause
  try dsimp only
  (repeat' split) <;> simp

@[simp] theorem startStep_frame (h : Head) (p : Fin 16) (n : Nat) (s : State) :
    (startStep h p n s).pending = s.pending ∧
      (startStep h p n s).awaiting = s.awaiting ∧
      (startStep h p n s).written = s.written ∧
      (startStep h p n s).ring = s.ring ∧
      (startStep h p n s).map = s.map ∧
      (startStep h p n s).store = s.store ∧
      (startStep h p n s).filters = s.filters ∧
      (startStep h p n s).reg = s.reg ∧
      (startStep h p n s).docks = s.docks ∧
      (startStep h p n s).idle = s.idle ∧
      (startStep h p n s).queues = s.queues ∧
      (startStep h p n s).lines = s.lines ∧
      (startStep h p n s).conds = s.conds ∧
      (startStep h p n s).profiles = s.profiles ∧
      (startStep h p n s).segments = s.segments ∧
      (startStep h p n s).cadence = s.cadence ∧
      (startStep h p n s).inputs = s.inputs ∧
      (startStep h p n s).verifier = s.verifier ∧
      (startStep h p n s).events = s.events ∧
      (startStep h p n s).us = s.us ∧
      (startStep h p n s).phase = s.phase ∧
      (startStep h p n s).free = s.free ∧
      (startStep h p n s).portB = s.portB ∧
      (startStep h p n s).regulatorOut = s.regulatorOut ∧
      (startStep h p n s).pumpOut = s.pumpOut := by
  unfold startStep
  try dsimp only
  (repeat' split) <;> simp

@[simp] theorem startHead_frame (h : Head) (x : Octet) (s : State) :
    (startHead h x s).1.pending = s.pending ∧
      (startHead h x s).1.written = s.written ∧
      (startHead h x s).1.ring = s.ring ∧
      (startHead h x s).1.map = s.map ∧
      (startHead h x s).1.filters = s.filters ∧
      (startHead h x s).1.reg = s.reg ∧
      (startHead h x s).1.docks = s.docks ∧
      (startHead h x s).1.idle = s.idle ∧
      (startHead h x s).1.queues = s.queues ∧
      (startHead h x s).1.lines = s.lines ∧
      (startHead h x s).1.conds = s.conds ∧
      (startHead h x s).1.profiles = s.profiles ∧
      (startHead h x s).1.segments = s.segments ∧
      (startHead h x s).1.cadence = s.cadence ∧
      (startHead h x s).1.inputs = s.inputs ∧
      (startHead h x s).1.verifier = s.verifier ∧
      (startHead h x s).1.events = s.events ∧
      (startHead h x s).1.us = s.us ∧
      (startHead h x s).1.phase = s.phase ∧
      (startHead h x s).1.free = s.free ∧
      (startHead h x s).1.portB = s.portB ∧
      (startHead h x s).1.regulatorOut = s.regulatorOut ∧
      (startHead h x s).1.pumpOut = s.pumpOut := by
  unfold startHead
  try dsimp only
  (repeat' split) <;> simp

@[simp] theorem clearHead_frame (h : Head) (s : State) :
    (clearHead h s).pending = s.pending ∧
      (clearHead h s).awaiting = s.awaiting ∧
      (clearHead h s).written = s.written ∧
      (clearHead h s).ring = s.ring ∧
      (clearHead h s).map = s.map ∧
      (clearHead h s).store = s.store ∧
      (clearHead h s).filters = s.filters ∧
      (clearHead h s).docks = s.docks ∧
      (clearHead h s).idle = s.idle ∧
      (clearHead h s).queues = s.queues ∧
      (clearHead h s).lines = s.lines ∧
      (clearHead h s).conds = s.conds ∧
      (clearHead h s).profiles = s.profiles ∧
      (clearHead h s).segments = s.segments ∧
      (clearHead h s).cadence = s.cadence ∧
      (clearHead h s).inputs = s.inputs ∧
      (clearHead h s).verifier = s.verifier ∧
      (clearHead h s).events = s.events ∧
      (clearHead h s).us = s.us ∧
      (clearHead h s).phase = s.phase ∧
      (clearHead h s).free = s.free ∧
      (clearHead h s).portB = s.portB ∧
      (clearHead h s).regulatorOut = s.regulatorOut ∧
      (clearHead h s).pumpOut = s.pumpOut := by
  simp [clearHead]

@[simp] theorem applyHeadCommand_frame (h : Head) (c : HeadCommand) (s : State) :
    (applyHeadCommand h c s).1.pending = s.pending ∧
      (applyHeadCommand h c s).1.written = s.written ∧
      (applyHeadCommand h c s).1.ring = s.ring ∧
      (applyHeadCommand h c s).1.map = s.map ∧
      (applyHeadCommand h c s).1.filters = s.filters ∧
      (applyHeadCommand h c s).1.docks = s.docks ∧
      (applyHeadCommand h c s).1.idle = s.idle ∧
      (applyHeadCommand h c s).1.queues = s.queues ∧
      (applyHeadCommand h c s).1.lines = s.lines ∧
      (applyHeadCommand h c s).1.conds = s.conds ∧
      (applyHeadCommand h c s).1.profiles = s.profiles ∧
      (applyHeadCommand h c s).1.segments = s.segments ∧
      (applyHeadCommand h c s).1.cadence = s.cadence ∧
      (applyHeadCommand h c s).1.inputs = s.inputs ∧
      (applyHeadCommand h c s).1.verifier = s.verifier ∧
      (applyHeadCommand h c s).1.events = s.events ∧
      (applyHeadCommand h c s).1.us = s.us ∧
      (applyHeadCommand h c s).1.phase = s.phase ∧
      (applyHeadCommand h c s).1.free = s.free ∧
      (applyHeadCommand h c s).1.portB = s.portB ∧
      (applyHeadCommand h c s).1.regulatorOut = s.regulatorOut ∧
      (applyHeadCommand h c s).1.pumpOut = s.pumpOut := by
  unfold applyHeadCommand
  try dsimp only
  (repeat' split) <;> simp

@[simp] theorem raiseHeadRefusal_frame (h : Head) (x : Octet) (o : HeadOutcome) (s : State) :
    (raiseHeadRefusal h x o s).pending = s.pending ∧
      (raiseHeadRefusal h x o s).awaiting = s.awaiting ∧
      (raiseHeadRefusal h x o s).written = s.written ∧
      (raiseHeadRefusal h x o s).ring = s.ring ∧
      (raiseHeadRefusal h x o s).map = s.map ∧
      (raiseHeadRefusal h x o s).store = s.store ∧
      (raiseHeadRefusal h x o s).heads = s.heads ∧
      (raiseHeadRefusal h x o s).zones = s.zones ∧
      (raiseHeadRefusal h x o s).filters = s.filters ∧
      (raiseHeadRefusal h x o s).reg = s.reg ∧
      (raiseHeadRefusal h x o s).docks = s.docks ∧
      (raiseHeadRefusal h x o s).idle = s.idle ∧
      (raiseHeadRefusal h x o s).queues = s.queues ∧
      (raiseHeadRefusal h x o s).lines = s.lines ∧
      (raiseHeadRefusal h x o s).conds = s.conds ∧
      (raiseHeadRefusal h x o s).profiles = s.profiles ∧
      (raiseHeadRefusal h x o s).segments = s.segments ∧
      (raiseHeadRefusal h x o s).cadence = s.cadence ∧
      (raiseHeadRefusal h x o s).inputs = s.inputs ∧
      (raiseHeadRefusal h x o s).verifier = s.verifier ∧
      (raiseHeadRefusal h x o s).events = s.events ∧
      (raiseHeadRefusal h x o s).us = s.us ∧
      (raiseHeadRefusal h x o s).phase = s.phase ∧
      (raiseHeadRefusal h x o s).free = s.free ∧
      (raiseHeadRefusal h x o s).portB = s.portB ∧
      (raiseHeadRefusal h x o s).regulatorOut = s.regulatorOut ∧
      (raiseHeadRefusal h x o s).pumpOut = s.pumpOut := by
  unfold raiseHeadRefusal
  try dsimp only
  (repeat' split) <;> simp

@[simp] theorem newHeadCommand_frame (h : Head) (v : CommandValue) (s : State) :
    (newHeadCommand h v s).pending = s.pending ∧
      (newHeadCommand h v s).written = s.written ∧
      (newHeadCommand h v s).ring = s.ring ∧
      (newHeadCommand h v s).filters = s.filters ∧
      (newHeadCommand h v s).docks = s.docks ∧
      (newHeadCommand h v s).idle = s.idle ∧
      (newHeadCommand h v s).queues = s.queues ∧
      (newHeadCommand h v s).lines = s.lines ∧
      (newHeadCommand h v s).conds = s.conds ∧
      (newHeadCommand h v s).profiles = s.profiles ∧
      (newHeadCommand h v s).segments = s.segments ∧
      (newHeadCommand h v s).cadence = s.cadence ∧
      (newHeadCommand h v s).inputs = s.inputs ∧
      (newHeadCommand h v s).verifier = s.verifier ∧
      (newHeadCommand h v s).events = s.events ∧
      (newHeadCommand h v s).us = s.us ∧
      (newHeadCommand h v s).phase = s.phase ∧
      (newHeadCommand h v s).free = s.free ∧
      (newHeadCommand h v s).portB = s.portB ∧
      (newHeadCommand h v s).regulatorOut = s.regulatorOut ∧
      (newHeadCommand h v s).pumpOut = s.pumpOut := by
  simp [newHeadCommand]

@[simp] theorem stageCommand_frame (h : Head) (v : Option CommandValue) (s : State) :
    (stageCommand h v s).pending = s.pending ∧
      (stageCommand h v s).written = s.written ∧
      (stageCommand h v s).ring = s.ring ∧
      (stageCommand h v s).filters = s.filters ∧
      (stageCommand h v s).docks = s.docks ∧
      (stageCommand h v s).idle = s.idle ∧
      (stageCommand h v s).queues = s.queues ∧
      (stageCommand h v s).lines = s.lines ∧
      (stageCommand h v s).conds = s.conds ∧
      (stageCommand h v s).profiles = s.profiles ∧
      (stageCommand h v s).segments = s.segments ∧
      (stageCommand h v s).cadence = s.cadence ∧
      (stageCommand h v s).inputs = s.inputs ∧
      (stageCommand h v s).verifier = s.verifier ∧
      (stageCommand h v s).events = s.events ∧
      (stageCommand h v s).us = s.us ∧
      (stageCommand h v s).phase = s.phase ∧
      (stageCommand h v s).free = s.free ∧
      (stageCommand h v s).portB = s.portB ∧
      (stageCommand h v s).regulatorOut = s.regulatorOut ∧
      (stageCommand h v s).pumpOut = s.pumpOut := by
  unfold stageCommand
  try dsimp only
  (repeat' split) <;> simp

@[simp] theorem stageInputs_frame (h : Head) (d : Delivery) (b : Bool) (s : State) :
    (stageInputs h d b s).pending = s.pending ∧
      (stageInputs h d b s).handed = s.handed ∧
      (stageInputs h d b s).awaiting = s.awaiting ∧
      (stageInputs h d b s).written = s.written ∧
      (stageInputs h d b s).ring = s.ring ∧
      (stageInputs h d b s).map = s.map ∧
      (stageInputs h d b s).store = s.store ∧
      (stageInputs h d b s).zones = s.zones ∧
      (stageInputs h d b s).filters = s.filters ∧
      (stageInputs h d b s).reg = s.reg ∧
      (stageInputs h d b s).docks = s.docks ∧
      (stageInputs h d b s).idle = s.idle ∧
      (stageInputs h d b s).queues = s.queues ∧
      (stageInputs h d b s).lines = s.lines ∧
      (stageInputs h d b s).conds = s.conds ∧
      (stageInputs h d b s).profiles = s.profiles ∧
      (stageInputs h d b s).segments = s.segments ∧
      (stageInputs h d b s).cadence = s.cadence ∧
      (stageInputs h d b s).inputs = s.inputs ∧
      (stageInputs h d b s).verifier = s.verifier ∧
      (stageInputs h d b s).events = s.events ∧
      (stageInputs h d b s).us = s.us ∧
      (stageInputs h d b s).phase = s.phase ∧
      (stageInputs h d b s).free = s.free ∧
      (stageInputs h d b s).portB = s.portB ∧
      (stageInputs h d b s).regulatorOut = s.regulatorOut ∧
      (stageInputs h d b s).pumpOut = s.pumpOut := by
  unfold stageInputs
  try dsimp only
  (repeat' split) <;> simp

@[simp] theorem applyBandAction_frame (h : Head) (a : BandAction) (s : State) :
    (applyBandAction h a s).pending = s.pending ∧
      (applyBandAction h a s).awaiting = s.awaiting ∧
      (applyBandAction h a s).written = s.written ∧
      (applyBandAction h a s).ring = s.ring ∧
      (applyBandAction h a s).map = s.map ∧
      (applyBandAction h a s).store = s.store ∧
      (applyBandAction h a s).zones = s.zones ∧
      (applyBandAction h a s).filters = s.filters ∧
      (applyBandAction h a s).reg = s.reg ∧
      (applyBandAction h a s).docks = s.docks ∧
      (applyBandAction h a s).idle = s.idle ∧
      (applyBandAction h a s).queues = s.queues ∧
      (applyBandAction h a s).lines = s.lines ∧
      (applyBandAction h a s).conds = s.conds ∧
      (applyBandAction h a s).profiles = s.profiles ∧
      (applyBandAction h a s).segments = s.segments ∧
      (applyBandAction h a s).cadence = s.cadence ∧
      (applyBandAction h a s).inputs = s.inputs ∧
      (applyBandAction h a s).verifier = s.verifier ∧
      (applyBandAction h a s).events = s.events ∧
      (applyBandAction h a s).us = s.us ∧
      (applyBandAction h a s).phase = s.phase ∧
      (applyBandAction h a s).free = s.free ∧
      (applyBandAction h a s).portB = s.portB ∧
      (applyBandAction h a s).regulatorOut = s.regulatorOut ∧
      (applyBandAction h a s).pumpOut = s.pumpOut := by
  unfold applyBandAction
  try dsimp only
  (repeat' split) <;> simp

@[simp] theorem stageBandZone_frame (h : Head) (b : Nat) (a : State × Bool) (z : Zone) :
    (stageBandZone h b a z).1.pending = a.1.pending ∧
      (stageBandZone h b a z).1.awaiting = a.1.awaiting ∧
      (stageBandZone h b a z).1.written = a.1.written ∧
      (stageBandZone h b a z).1.ring = a.1.ring ∧
      (stageBandZone h b a z).1.map = a.1.map ∧
      (stageBandZone h b a z).1.store = a.1.store ∧
      (stageBandZone h b a z).1.filters = a.1.filters ∧
      (stageBandZone h b a z).1.reg = a.1.reg ∧
      (stageBandZone h b a z).1.docks = a.1.docks ∧
      (stageBandZone h b a z).1.idle = a.1.idle ∧
      (stageBandZone h b a z).1.queues = a.1.queues ∧
      (stageBandZone h b a z).1.lines = a.1.lines ∧
      (stageBandZone h b a z).1.conds = a.1.conds ∧
      (stageBandZone h b a z).1.profiles = a.1.profiles ∧
      (stageBandZone h b a z).1.segments = a.1.segments ∧
      (stageBandZone h b a z).1.cadence = a.1.cadence ∧
      (stageBandZone h b a z).1.inputs = a.1.inputs ∧
      (stageBandZone h b a z).1.verifier = a.1.verifier ∧
      (stageBandZone h b a z).1.events = a.1.events ∧
      (stageBandZone h b a z).1.us = a.1.us ∧
      (stageBandZone h b a z).1.phase = a.1.phase ∧
      (stageBandZone h b a z).1.free = a.1.free ∧
      (stageBandZone h b a z).1.portB = a.1.portB ∧
      (stageBandZone h b a z).1.regulatorOut = a.1.regulatorOut ∧
      (stageBandZone h b a z).1.pumpOut = a.1.pumpOut := by
  unfold stageBandZone
  simp only []
  (repeat' split) <;> simp

@[simp] theorem stageBand_frame (h : Head) (s : State) :
    (stageBand h s).1.pending = s.pending ∧
      (stageBand h s).1.awaiting = s.awaiting ∧
      (stageBand h s).1.written = s.written ∧
      (stageBand h s).1.ring = s.ring ∧
      (stageBand h s).1.map = s.map ∧
      (stageBand h s).1.store = s.store ∧
      (stageBand h s).1.filters = s.filters ∧
      (stageBand h s).1.reg = s.reg ∧
      (stageBand h s).1.docks = s.docks ∧
      (stageBand h s).1.idle = s.idle ∧
      (stageBand h s).1.queues = s.queues ∧
      (stageBand h s).1.lines = s.lines ∧
      (stageBand h s).1.conds = s.conds ∧
      (stageBand h s).1.profiles = s.profiles ∧
      (stageBand h s).1.segments = s.segments ∧
      (stageBand h s).1.cadence = s.cadence ∧
      (stageBand h s).1.inputs = s.inputs ∧
      (stageBand h s).1.verifier = s.verifier ∧
      (stageBand h s).1.events = s.events ∧
      (stageBand h s).1.us = s.us ∧
      (stageBand h s).1.phase = s.phase ∧
      (stageBand h s).1.free = s.free ∧
      (stageBand h s).1.portB = s.portB ∧
      (stageBand h s).1.regulatorOut = s.regulatorOut ∧
      (stageBand h s).1.pumpOut = s.pumpOut := by
  simp [stageBand, foldl_leaves (fun a : State × Bool => a.1.pending),
    foldl_leaves (fun a : State × Bool => a.1.awaiting),
    foldl_leaves (fun a : State × Bool => a.1.written),
    foldl_leaves (fun a : State × Bool => a.1.ring),
    foldl_leaves (fun a : State × Bool => a.1.map),
    foldl_leaves (fun a : State × Bool => a.1.store),
    foldl_leaves (fun a : State × Bool => a.1.filters),
    foldl_leaves (fun a : State × Bool => a.1.reg),
    foldl_leaves (fun a : State × Bool => a.1.docks),
    foldl_leaves (fun a : State × Bool => a.1.idle),
    foldl_leaves (fun a : State × Bool => a.1.queues),
    foldl_leaves (fun a : State × Bool => a.1.lines),
    foldl_leaves (fun a : State × Bool => a.1.conds),
    foldl_leaves (fun a : State × Bool => a.1.profiles),
    foldl_leaves (fun a : State × Bool => a.1.segments),
    foldl_leaves (fun a : State × Bool => a.1.cadence),
    foldl_leaves (fun a : State × Bool => a.1.inputs),
    foldl_leaves (fun a : State × Bool => a.1.verifier),
    foldl_leaves (fun a : State × Bool => a.1.events),
    foldl_leaves (fun a : State × Bool => a.1.us),
    foldl_leaves (fun a : State × Bool => a.1.phase),
    foldl_leaves (fun a : State × Bool => a.1.free),
    foldl_leaves (fun a : State × Bool => a.1.portB),
    foldl_leaves (fun a : State × Bool => a.1.regulatorOut),
    foldl_leaves (fun a : State × Bool => a.1.pumpOut)]

@[simp] theorem stageSetpoints_frame (h : Head) (s : State) :
    (stageSetpoints h s).pending = s.pending ∧
      (stageSetpoints h s).awaiting = s.awaiting ∧
      (stageSetpoints h s).written = s.written ∧
      (stageSetpoints h s).ring = s.ring ∧
      (stageSetpoints h s).map = s.map ∧
      (stageSetpoints h s).store = s.store ∧
      (stageSetpoints h s).heads = s.heads ∧
      (stageSetpoints h s).filters = s.filters ∧
      (stageSetpoints h s).docks = s.docks ∧
      (stageSetpoints h s).idle = s.idle ∧
      (stageSetpoints h s).queues = s.queues ∧
      (stageSetpoints h s).lines = s.lines ∧
      (stageSetpoints h s).conds = s.conds ∧
      (stageSetpoints h s).profiles = s.profiles ∧
      (stageSetpoints h s).segments = s.segments ∧
      (stageSetpoints h s).cadence = s.cadence ∧
      (stageSetpoints h s).inputs = s.inputs ∧
      (stageSetpoints h s).verifier = s.verifier ∧
      (stageSetpoints h s).events = s.events ∧
      (stageSetpoints h s).us = s.us ∧
      (stageSetpoints h s).phase = s.phase ∧
      (stageSetpoints h s).free = s.free ∧
      (stageSetpoints h s).portB = s.portB ∧
      (stageSetpoints h s).regulatorOut = s.regulatorOut ∧
      (stageSetpoints h s).pumpOut = s.pumpOut := by
  unfold stageSetpoints
  try dsimp only
  (repeat' split) <;> simp

@[simp] theorem handStepEnd_frame (h : Head) (s : State) :
    (handStepEnd h s).pending = s.pending ∧
      (handStepEnd h s).awaiting = s.awaiting ∧
      (handStepEnd h s).written = s.written ∧
      (handStepEnd h s).ring = s.ring ∧
      (handStepEnd h s).map = s.map ∧
      (handStepEnd h s).store = s.store ∧
      (handStepEnd h s).heads = s.heads ∧
      (handStepEnd h s).zones = s.zones ∧
      (handStepEnd h s).filters = s.filters ∧
      (handStepEnd h s).reg = s.reg ∧
      (handStepEnd h s).docks = s.docks ∧
      (handStepEnd h s).idle = s.idle ∧
      (handStepEnd h s).queues = s.queues ∧
      (handStepEnd h s).lines = s.lines ∧
      (handStepEnd h s).conds = s.conds ∧
      (handStepEnd h s).profiles = s.profiles ∧
      (handStepEnd h s).segments = s.segments ∧
      (handStepEnd h s).cadence = s.cadence ∧
      (handStepEnd h s).inputs = s.inputs ∧
      (handStepEnd h s).verifier = s.verifier ∧
      (handStepEnd h s).events = s.events ∧
      (handStepEnd h s).us = s.us ∧
      (handStepEnd h s).phase = s.phase ∧
      (handStepEnd h s).free = s.free ∧
      (handStepEnd h s).portB = s.portB ∧
      (handStepEnd h s).regulatorOut = s.regulatorOut ∧
      (handStepEnd h s).pumpOut = s.pumpOut := by
  unfold handStepEnd
  try dsimp only
  (repeat' split) <;> simp

@[simp] theorem endStep_frame (h : Head) (s : State) :
    (endStep h s).pending = s.pending ∧
      (endStep h s).awaiting = s.awaiting ∧
      (endStep h s).written = s.written ∧
      (endStep h s).ring = s.ring ∧
      (endStep h s).map = s.map ∧
      (endStep h s).store = s.store ∧
      (endStep h s).filters = s.filters ∧
      (endStep h s).reg = s.reg ∧
      (endStep h s).docks = s.docks ∧
      (endStep h s).idle = s.idle ∧
      (endStep h s).queues = s.queues ∧
      (endStep h s).lines = s.lines ∧
      (endStep h s).conds = s.conds ∧
      (endStep h s).profiles = s.profiles ∧
      (endStep h s).segments = s.segments ∧
      (endStep h s).cadence = s.cadence ∧
      (endStep h s).inputs = s.inputs ∧
      (endStep h s).verifier = s.verifier ∧
      (endStep h s).events = s.events ∧
      (endStep h s).us = s.us ∧
      (endStep h s).phase = s.phase ∧
      (endStep h s).free = s.free ∧
      (endStep h s).portB = s.portB ∧
      (endStep h s).regulatorOut = s.regulatorOut ∧
      (endStep h s).pumpOut = s.pumpOut := by
  unfold endStep
  try dsimp only
  (repeat' split) <;> simp

@[simp] theorem timeoutStep_frame (h : Head) (c : StepRecord) (s : State) :
    (timeoutStep h c s).pending = s.pending ∧
      (timeoutStep h c s).awaiting = s.awaiting ∧
      (timeoutStep h c s).written = s.written ∧
      (timeoutStep h c s).ring = s.ring ∧
      (timeoutStep h c s).map = s.map ∧
      (timeoutStep h c s).store = s.store ∧
      (timeoutStep h c s).filters = s.filters ∧
      (timeoutStep h c s).reg = s.reg ∧
      (timeoutStep h c s).docks = s.docks ∧
      (timeoutStep h c s).idle = s.idle ∧
      (timeoutStep h c s).queues = s.queues ∧
      (timeoutStep h c s).lines = s.lines ∧
      (timeoutStep h c s).conds = s.conds ∧
      (timeoutStep h c s).profiles = s.profiles ∧
      (timeoutStep h c s).segments = s.segments ∧
      (timeoutStep h c s).cadence = s.cadence ∧
      (timeoutStep h c s).inputs = s.inputs ∧
      (timeoutStep h c s).verifier = s.verifier ∧
      (timeoutStep h c s).events = s.events ∧
      (timeoutStep h c s).us = s.us ∧
      (timeoutStep h c s).phase = s.phase ∧
      (timeoutStep h c s).free = s.free ∧
      (timeoutStep h c s).portB = s.portB ∧
      (timeoutStep h c s).regulatorOut = s.regulatorOut ∧
      (timeoutStep h c s).pumpOut = s.pumpOut := by
  unfold timeoutStep
  try dsimp only
  (repeat' split) <;> simp

@[simp] theorem stageEnd_frame (h : Head) (a b : Bool) (s : State) :
    (stageEnd h a b s).pending = s.pending ∧
      (stageEnd h a b s).awaiting = s.awaiting ∧
      (stageEnd h a b s).written = s.written ∧
      (stageEnd h a b s).ring = s.ring ∧
      (stageEnd h a b s).map = s.map ∧
      (stageEnd h a b s).store = s.store ∧
      (stageEnd h a b s).filters = s.filters ∧
      (stageEnd h a b s).reg = s.reg ∧
      (stageEnd h a b s).docks = s.docks ∧
      (stageEnd h a b s).idle = s.idle ∧
      (stageEnd h a b s).queues = s.queues ∧
      (stageEnd h a b s).lines = s.lines ∧
      (stageEnd h a b s).conds = s.conds ∧
      (stageEnd h a b s).profiles = s.profiles ∧
      (stageEnd h a b s).segments = s.segments ∧
      (stageEnd h a b s).cadence = s.cadence ∧
      (stageEnd h a b s).inputs = s.inputs ∧
      (stageEnd h a b s).verifier = s.verifier ∧
      (stageEnd h a b s).events = s.events ∧
      (stageEnd h a b s).us = s.us ∧
      (stageEnd h a b s).phase = s.phase ∧
      (stageEnd h a b s).free = s.free ∧
      (stageEnd h a b s).portB = s.portB ∧
      (stageEnd h a b s).regulatorOut = s.regulatorOut ∧
      (stageEnd h a b s).pumpOut = s.pumpOut := by
  unfold stageEnd
  try dsimp only
  (repeat' split) <;> simp

@[simp] theorem deliverCycle_frame (h : Head) (d : Delivery) (s : State) :
    (deliverCycle h d s).pending = s.pending ∧
      (deliverCycle h d s).written = s.written ∧
      (deliverCycle h d s).ring = s.ring ∧
      (deliverCycle h d s).filters = s.filters ∧
      (deliverCycle h d s).docks = s.docks ∧
      (deliverCycle h d s).idle = s.idle ∧
      (deliverCycle h d s).queues = s.queues ∧
      (deliverCycle h d s).lines = s.lines ∧
      (deliverCycle h d s).conds = s.conds ∧
      (deliverCycle h d s).profiles = s.profiles ∧
      (deliverCycle h d s).segments = s.segments ∧
      (deliverCycle h d s).cadence = s.cadence ∧
      (deliverCycle h d s).inputs = s.inputs ∧
      (deliverCycle h d s).verifier = s.verifier ∧
      (deliverCycle h d s).events = s.events ∧
      (deliverCycle h d s).us = s.us ∧
      (deliverCycle h d s).phase = s.phase ∧
      (deliverCycle h d s).free = s.free ∧
      (deliverCycle h d s).portB = s.portB ∧
      (deliverCycle h d s).regulatorOut = s.regulatorOut ∧
      (deliverCycle h d s).pumpOut = s.pumpOut := by
  unfold deliverCycle
  try dsimp only
  (repeat' split) <;> simp

@[simp] theorem tickHead_frame (s : State) (h : Head) :
    (tickHead s h).pending = s.pending ∧
      (tickHead s h).awaiting = s.awaiting ∧
      (tickHead s h).written = s.written ∧
      (tickHead s h).ring = s.ring ∧
      (tickHead s h).map = s.map ∧
      (tickHead s h).store = s.store ∧
      (tickHead s h).filters = s.filters ∧
      (tickHead s h).docks = s.docks ∧
      (tickHead s h).idle = s.idle ∧
      (tickHead s h).queues = s.queues ∧
      (tickHead s h).lines = s.lines ∧
      (tickHead s h).conds = s.conds ∧
      (tickHead s h).profiles = s.profiles ∧
      (tickHead s h).segments = s.segments ∧
      (tickHead s h).cadence = s.cadence ∧
      (tickHead s h).inputs = s.inputs ∧
      (tickHead s h).verifier = s.verifier ∧
      (tickHead s h).events = s.events ∧
      (tickHead s h).us = s.us ∧
      (tickHead s h).phase = s.phase ∧
      (tickHead s h).free = s.free ∧
      (tickHead s h).portB = s.portB ∧
      (tickHead s h).regulatorOut = s.regulatorOut ∧
      (tickHead s h).pumpOut = s.pumpOut := by
  unfold tickHead
  try dsimp only
  (repeat' split) <;> simp

/-! ### Dock Table and idle timers -/

@[simp] theorem undockAt_frame (h : Head) (s : State) (p : Platen) :
    (undockAt h s p).pending = s.pending ∧
      (undockAt h s p).handed = s.handed ∧
      (undockAt h s p).awaiting = s.awaiting ∧
      (undockAt h s p).written = s.written ∧
      (undockAt h s p).ring = s.ring ∧
      (undockAt h s p).map = s.map ∧
      (undockAt h s p).store = s.store ∧
      (undockAt h s p).heads = s.heads ∧
      (undockAt h s p).zones = s.zones ∧
      (undockAt h s p).filters = s.filters ∧
      (undockAt h s p).reg = s.reg ∧
      (undockAt h s p).idle = s.idle ∧
      (undockAt h s p).queues = s.queues ∧
      (undockAt h s p).lines = s.lines ∧
      (undockAt h s p).conds = s.conds ∧
      (undockAt h s p).profiles = s.profiles ∧
      (undockAt h s p).segments = s.segments ∧
      (undockAt h s p).cadence = s.cadence ∧
      (undockAt h s p).inputs = s.inputs ∧
      (undockAt h s p).verifier = s.verifier ∧
      (undockAt h s p).events = s.events ∧
      (undockAt h s p).us = s.us ∧
      (undockAt h s p).phase = s.phase ∧
      (undockAt h s p).free = s.free ∧
      (undockAt h s p).portB = s.portB ∧
      (undockAt h s p).regulatorOut = s.regulatorOut ∧
      (undockAt h s p).pumpOut = s.pumpOut := by
  unfold undockAt
  try dsimp only
  (repeat' split) <;> simp

@[simp] theorem undock_frame (h : Head) (s : State) :
    (undock h s).pending = s.pending ∧
      (undock h s).handed = s.handed ∧
      (undock h s).awaiting = s.awaiting ∧
      (undock h s).written = s.written ∧
      (undock h s).ring = s.ring ∧
      (undock h s).map = s.map ∧
      (undock h s).store = s.store ∧
      (undock h s).heads = s.heads ∧
      (undock h s).zones = s.zones ∧
      (undock h s).filters = s.filters ∧
      (undock h s).reg = s.reg ∧
      (undock h s).idle = s.idle ∧
      (undock h s).queues = s.queues ∧
      (undock h s).lines = s.lines ∧
      (undock h s).conds = s.conds ∧
      (undock h s).profiles = s.profiles ∧
      (undock h s).segments = s.segments ∧
      (undock h s).cadence = s.cadence ∧
      (undock h s).inputs = s.inputs ∧
      (undock h s).verifier = s.verifier ∧
      (undock h s).events = s.events ∧
      (undock h s).us = s.us ∧
      (undock h s).phase = s.phase ∧
      (undock h s).free = s.free ∧
      (undock h s).portB = s.portB ∧
      (undock h s).regulatorOut = s.regulatorOut ∧
      (undock h s).pumpOut = s.pumpOut := by
  simp [undock, foldl_leaves State.pending, foldl_leaves State.handed,
    foldl_leaves State.awaiting, foldl_leaves State.written, foldl_leaves State.ring,
    foldl_leaves State.map, foldl_leaves State.store, foldl_leaves State.heads,
    foldl_leaves State.zones, foldl_leaves State.filters, foldl_leaves State.reg,
    foldl_leaves State.idle, foldl_leaves State.queues, foldl_leaves State.lines,
    foldl_leaves State.conds, foldl_leaves State.profiles, foldl_leaves State.segments,
    foldl_leaves State.cadence, foldl_leaves State.inputs, foldl_leaves State.verifier,
    foldl_leaves State.events, foldl_leaves State.us, foldl_leaves State.phase,
    foldl_leaves State.free, foldl_leaves State.portB, foldl_leaves State.regulatorOut,
    foldl_leaves State.pumpOut]

@[simp] theorem dockHead_frame (p : Platen) (h : Head) (s : State) :
    (dockHead p h s).1.pending = s.pending ∧
      (dockHead p h s).1.handed = s.handed ∧
      (dockHead p h s).1.awaiting = s.awaiting ∧
      (dockHead p h s).1.written = s.written ∧
      (dockHead p h s).1.ring = s.ring ∧
      (dockHead p h s).1.map = s.map ∧
      (dockHead p h s).1.store = s.store ∧
      (dockHead p h s).1.heads = s.heads ∧
      (dockHead p h s).1.zones = s.zones ∧
      (dockHead p h s).1.filters = s.filters ∧
      (dockHead p h s).1.reg = s.reg ∧
      (dockHead p h s).1.idle = s.idle ∧
      (dockHead p h s).1.queues = s.queues ∧
      (dockHead p h s).1.lines = s.lines ∧
      (dockHead p h s).1.conds = s.conds ∧
      (dockHead p h s).1.profiles = s.profiles ∧
      (dockHead p h s).1.segments = s.segments ∧
      (dockHead p h s).1.cadence = s.cadence ∧
      (dockHead p h s).1.inputs = s.inputs ∧
      (dockHead p h s).1.verifier = s.verifier ∧
      (dockHead p h s).1.events = s.events ∧
      (dockHead p h s).1.us = s.us ∧
      (dockHead p h s).1.phase = s.phase ∧
      (dockHead p h s).1.free = s.free ∧
      (dockHead p h s).1.portB = s.portB ∧
      (dockHead p h s).1.regulatorOut = s.regulatorOut ∧
      (dockHead p h s).1.pumpOut = s.pumpOut := by
  unfold dockHead
  try dsimp only
  (repeat' split) <;> simp

@[simp] theorem dockNone_frame (p : Platen) (s : State) :
    (dockNone p s).1.pending = s.pending ∧
      (dockNone p s).1.handed = s.handed ∧
      (dockNone p s).1.awaiting = s.awaiting ∧
      (dockNone p s).1.written = s.written ∧
      (dockNone p s).1.ring = s.ring ∧
      (dockNone p s).1.map = s.map ∧
      (dockNone p s).1.store = s.store ∧
      (dockNone p s).1.heads = s.heads ∧
      (dockNone p s).1.zones = s.zones ∧
      (dockNone p s).1.filters = s.filters ∧
      (dockNone p s).1.reg = s.reg ∧
      (dockNone p s).1.idle = s.idle ∧
      (dockNone p s).1.queues = s.queues ∧
      (dockNone p s).1.lines = s.lines ∧
      (dockNone p s).1.conds = s.conds ∧
      (dockNone p s).1.profiles = s.profiles ∧
      (dockNone p s).1.segments = s.segments ∧
      (dockNone p s).1.cadence = s.cadence ∧
      (dockNone p s).1.inputs = s.inputs ∧
      (dockNone p s).1.verifier = s.verifier ∧
      (dockNone p s).1.events = s.events ∧
      (dockNone p s).1.us = s.us ∧
      (dockNone p s).1.phase = s.phase ∧
      (dockNone p s).1.free = s.free ∧
      (dockNone p s).1.portB = s.portB ∧
      (dockNone p s).1.regulatorOut = s.regulatorOut ∧
      (dockNone p s).1.pumpOut = s.pumpOut := by
  unfold dockNone
  try dsimp only
  (repeat' split) <;> simp

@[simp] theorem applyDock_frame (p : Platen) (x : Octet) (s : State) :
    (applyDock p x s).1.pending = s.pending ∧
      (applyDock p x s).1.handed = s.handed ∧
      (applyDock p x s).1.awaiting = s.awaiting ∧
      (applyDock p x s).1.written = s.written ∧
      (applyDock p x s).1.ring = s.ring ∧
      (applyDock p x s).1.map = s.map ∧
      (applyDock p x s).1.store = s.store ∧
      (applyDock p x s).1.heads = s.heads ∧
      (applyDock p x s).1.zones = s.zones ∧
      (applyDock p x s).1.filters = s.filters ∧
      (applyDock p x s).1.reg = s.reg ∧
      (applyDock p x s).1.idle = s.idle ∧
      (applyDock p x s).1.queues = s.queues ∧
      (applyDock p x s).1.lines = s.lines ∧
      (applyDock p x s).1.conds = s.conds ∧
      (applyDock p x s).1.profiles = s.profiles ∧
      (applyDock p x s).1.segments = s.segments ∧
      (applyDock p x s).1.cadence = s.cadence ∧
      (applyDock p x s).1.inputs = s.inputs ∧
      (applyDock p x s).1.verifier = s.verifier ∧
      (applyDock p x s).1.events = s.events ∧
      (applyDock p x s).1.us = s.us ∧
      (applyDock p x s).1.phase = s.phase ∧
      (applyDock p x s).1.free = s.free ∧
      (applyDock p x s).1.portB = s.portB ∧
      (applyDock p x s).1.regulatorOut = s.regulatorOut ∧
      (applyDock p x s).1.pumpOut = s.pumpOut := by
  unfold applyDock
  try dsimp only
  (repeat' split) <;> simp

@[simp] theorem newDock_frame (p : Platen) (x : Octet) (q : Word16) (s : State) :
    (newDock p x q s).pending = s.pending ∧
      (newDock p x q s).awaiting = s.awaiting ∧
      (newDock p x q s).written = s.written ∧
      (newDock p x q s).ring = s.ring ∧
      (newDock p x q s).store = s.store ∧
      (newDock p x q s).heads = s.heads ∧
      (newDock p x q s).zones = s.zones ∧
      (newDock p x q s).filters = s.filters ∧
      (newDock p x q s).reg = s.reg ∧
      (newDock p x q s).idle = s.idle ∧
      (newDock p x q s).queues = s.queues ∧
      (newDock p x q s).lines = s.lines ∧
      (newDock p x q s).conds = s.conds ∧
      (newDock p x q s).profiles = s.profiles ∧
      (newDock p x q s).segments = s.segments ∧
      (newDock p x q s).cadence = s.cadence ∧
      (newDock p x q s).inputs = s.inputs ∧
      (newDock p x q s).verifier = s.verifier ∧
      (newDock p x q s).events = s.events ∧
      (newDock p x q s).us = s.us ∧
      (newDock p x q s).phase = s.phase ∧
      (newDock p x q s).free = s.free ∧
      (newDock p x q s).portB = s.portB ∧
      (newDock p x q s).regulatorOut = s.regulatorOut ∧
      (newDock p x q s).pumpOut = s.pumpOut := by
  unfold newDock
  try dsimp only
  (repeat' split) <;> simp

@[simp] theorem deliverDock_frame (p : Platen) (v : DockValue) (s : State) :
    (deliverDock p v s).pending = s.pending ∧
      (deliverDock p v s).awaiting = s.awaiting ∧
      (deliverDock p v s).written = s.written ∧
      (deliverDock p v s).ring = s.ring ∧
      (deliverDock p v s).store = s.store ∧
      (deliverDock p v s).heads = s.heads ∧
      (deliverDock p v s).zones = s.zones ∧
      (deliverDock p v s).filters = s.filters ∧
      (deliverDock p v s).reg = s.reg ∧
      (deliverDock p v s).idle = s.idle ∧
      (deliverDock p v s).queues = s.queues ∧
      (deliverDock p v s).lines = s.lines ∧
      (deliverDock p v s).conds = s.conds ∧
      (deliverDock p v s).profiles = s.profiles ∧
      (deliverDock p v s).segments = s.segments ∧
      (deliverDock p v s).cadence = s.cadence ∧
      (deliverDock p v s).inputs = s.inputs ∧
      (deliverDock p v s).verifier = s.verifier ∧
      (deliverDock p v s).events = s.events ∧
      (deliverDock p v s).us = s.us ∧
      (deliverDock p v s).phase = s.phase ∧
      (deliverDock p v s).free = s.free ∧
      (deliverDock p v s).portB = s.portB ∧
      (deliverDock p v s).regulatorOut = s.regulatorOut ∧
      (deliverDock p v s).pumpOut = s.pumpOut := by
  unfold deliverDock
  try dsimp only
  (repeat' split) <;> simp

@[simp] theorem expireIdle_frame (p : Platen) (s : State) :
    (expireIdle p s).pending = s.pending ∧
      (expireIdle p s).awaiting = s.awaiting ∧
      (expireIdle p s).written = s.written ∧
      (expireIdle p s).ring = s.ring ∧
      (expireIdle p s).map = s.map ∧
      (expireIdle p s).store = s.store ∧
      (expireIdle p s).heads = s.heads ∧
      (expireIdle p s).zones = s.zones ∧
      (expireIdle p s).filters = s.filters ∧
      (expireIdle p s).reg = s.reg ∧
      (expireIdle p s).docks = s.docks ∧
      (expireIdle p s).queues = s.queues ∧
      (expireIdle p s).lines = s.lines ∧
      (expireIdle p s).conds = s.conds ∧
      (expireIdle p s).profiles = s.profiles ∧
      (expireIdle p s).segments = s.segments ∧
      (expireIdle p s).cadence = s.cadence ∧
      (expireIdle p s).inputs = s.inputs ∧
      (expireIdle p s).verifier = s.verifier ∧
      (expireIdle p s).events = s.events ∧
      (expireIdle p s).us = s.us ∧
      (expireIdle p s).phase = s.phase ∧
      (expireIdle p s).free = s.free ∧
      (expireIdle p s).portB = s.portB ∧
      (expireIdle p s).regulatorOut = s.regulatorOut ∧
      (expireIdle p s).pumpOut = s.pumpOut := by
  unfold expireIdle
  try dsimp only
  (repeat' split) <;> simp

@[simp] theorem tickIdle_frame (s : State) (p : Platen) :
    (tickIdle s p).pending = s.pending ∧
      (tickIdle s p).awaiting = s.awaiting ∧
      (tickIdle s p).written = s.written ∧
      (tickIdle s p).ring = s.ring ∧
      (tickIdle s p).map = s.map ∧
      (tickIdle s p).store = s.store ∧
      (tickIdle s p).heads = s.heads ∧
      (tickIdle s p).zones = s.zones ∧
      (tickIdle s p).filters = s.filters ∧
      (tickIdle s p).reg = s.reg ∧
      (tickIdle s p).docks = s.docks ∧
      (tickIdle s p).queues = s.queues ∧
      (tickIdle s p).lines = s.lines ∧
      (tickIdle s p).conds = s.conds ∧
      (tickIdle s p).profiles = s.profiles ∧
      (tickIdle s p).segments = s.segments ∧
      (tickIdle s p).cadence = s.cadence ∧
      (tickIdle s p).inputs = s.inputs ∧
      (tickIdle s p).verifier = s.verifier ∧
      (tickIdle s p).events = s.events ∧
      (tickIdle s p).us = s.us ∧
      (tickIdle s p).phase = s.phase ∧
      (tickIdle s p).free = s.free ∧
      (tickIdle s p).portB = s.portB ∧
      (tickIdle s p).regulatorOut = s.regulatorOut ∧
      (tickIdle s p).pumpOut = s.pumpOut := by
  unfold tickIdle
  try dsimp only
  (repeat' split) <;> simp

/-! ### Gauges and the Regulator Port -/

@[simp] theorem overpressureUpdate_frame (c : ZoneCh) (n : Nat) (s : State) :
    (overpressureUpdate c n s).pending = s.pending ∧
      (overpressureUpdate c n s).awaiting = s.awaiting ∧
      (overpressureUpdate c n s).written = s.written ∧
      (overpressureUpdate c n s).ring = s.ring ∧
      (overpressureUpdate c n s).map = s.map ∧
      (overpressureUpdate c n s).store = s.store ∧
      (overpressureUpdate c n s).heads = s.heads ∧
      (overpressureUpdate c n s).filters = s.filters ∧
      (overpressureUpdate c n s).reg = s.reg ∧
      (overpressureUpdate c n s).docks = s.docks ∧
      (overpressureUpdate c n s).idle = s.idle ∧
      (overpressureUpdate c n s).queues = s.queues ∧
      (overpressureUpdate c n s).lines = s.lines ∧
      (overpressureUpdate c n s).conds = s.conds ∧
      (overpressureUpdate c n s).profiles = s.profiles ∧
      (overpressureUpdate c n s).segments = s.segments ∧
      (overpressureUpdate c n s).cadence = s.cadence ∧
      (overpressureUpdate c n s).inputs = s.inputs ∧
      (overpressureUpdate c n s).verifier = s.verifier ∧
      (overpressureUpdate c n s).events = s.events ∧
      (overpressureUpdate c n s).us = s.us ∧
      (overpressureUpdate c n s).phase = s.phase ∧
      (overpressureUpdate c n s).free = s.free ∧
      (overpressureUpdate c n s).portB = s.portB ∧
      (overpressureUpdate c n s).regulatorOut = s.regulatorOut ∧
      (overpressureUpdate c n s).pumpOut = s.pumpOut := by
  unfold overpressureUpdate
  try dsimp only
  (repeat' split) <;> simp

@[simp] theorem handUpdate_frame (c : Chan) (n : Nat) (s : State) :
    (handUpdate c n s).pending = s.pending ∧
      (handUpdate c n s).awaiting = s.awaiting ∧
      (handUpdate c n s).written = s.written ∧
      (handUpdate c n s).ring = s.ring ∧
      (handUpdate c n s).map = s.map ∧
      (handUpdate c n s).store = s.store ∧
      (handUpdate c n s).heads = s.heads ∧
      (handUpdate c n s).filters = s.filters ∧
      (handUpdate c n s).reg = s.reg ∧
      (handUpdate c n s).docks = s.docks ∧
      (handUpdate c n s).idle = s.idle ∧
      (handUpdate c n s).queues = s.queues ∧
      (handUpdate c n s).lines = s.lines ∧
      (handUpdate c n s).conds = s.conds ∧
      (handUpdate c n s).profiles = s.profiles ∧
      (handUpdate c n s).segments = s.segments ∧
      (handUpdate c n s).cadence = s.cadence ∧
      (handUpdate c n s).inputs = s.inputs ∧
      (handUpdate c n s).verifier = s.verifier ∧
      (handUpdate c n s).events = s.events ∧
      (handUpdate c n s).us = s.us ∧
      (handUpdate c n s).phase = s.phase ∧
      (handUpdate c n s).free = s.free ∧
      (handUpdate c n s).portB = s.portB ∧
      (handUpdate c n s).regulatorOut = s.regulatorOut ∧
      (handUpdate c n s).pumpOut = s.pumpOut := by
  unfold handUpdate
  try dsimp only
  (repeat' split) <;> simp

@[simp] theorem takeSample_frame (c : Chan) (n : Nat) (s : State) :
    (takeSample c n s).pending = s.pending ∧
      (takeSample c n s).awaiting = s.awaiting ∧
      (takeSample c n s).written = s.written ∧
      (takeSample c n s).ring = s.ring ∧
      (takeSample c n s).map = s.map ∧
      (takeSample c n s).store = s.store ∧
      (takeSample c n s).heads = s.heads ∧
      (takeSample c n s).reg = s.reg ∧
      (takeSample c n s).docks = s.docks ∧
      (takeSample c n s).idle = s.idle ∧
      (takeSample c n s).queues = s.queues ∧
      (takeSample c n s).lines = s.lines ∧
      (takeSample c n s).conds = s.conds ∧
      (takeSample c n s).profiles = s.profiles ∧
      (takeSample c n s).segments = s.segments ∧
      (takeSample c n s).cadence = s.cadence ∧
      (takeSample c n s).inputs = s.inputs ∧
      (takeSample c n s).verifier = s.verifier ∧
      (takeSample c n s).events = s.events ∧
      (takeSample c n s).us = s.us ∧
      (takeSample c n s).phase = s.phase ∧
      (takeSample c n s).free = s.free ∧
      (takeSample c n s).portB = s.portB ∧
      (takeSample c n s).regulatorOut = s.regulatorOut ∧
      (takeSample c n s).pumpOut = s.pumpOut := by
  unfold takeSample
  try dsimp only
  (repeat' split) <;> simp

@[simp] theorem arriveWord_frame (w : GaugeBits) (s : State) :
    (arriveWord w s).pending = s.pending ∧
      (arriveWord w s).awaiting = s.awaiting ∧
      (arriveWord w s).written = s.written ∧
      (arriveWord w s).ring = s.ring ∧
      (arriveWord w s).map = s.map ∧
      (arriveWord w s).store = s.store ∧
      (arriveWord w s).heads = s.heads ∧
      (arriveWord w s).reg = s.reg ∧
      (arriveWord w s).docks = s.docks ∧
      (arriveWord w s).idle = s.idle ∧
      (arriveWord w s).queues = s.queues ∧
      (arriveWord w s).lines = s.lines ∧
      (arriveWord w s).conds = s.conds ∧
      (arriveWord w s).profiles = s.profiles ∧
      (arriveWord w s).segments = s.segments ∧
      (arriveWord w s).cadence = s.cadence ∧
      (arriveWord w s).inputs = s.inputs ∧
      (arriveWord w s).verifier = s.verifier ∧
      (arriveWord w s).events = s.events ∧
      (arriveWord w s).us = s.us ∧
      (arriveWord w s).phase = s.phase ∧
      (arriveWord w s).free = s.free ∧
      (arriveWord w s).portB = s.portB ∧
      (arriveWord w s).regulatorOut = s.regulatorOut ∧
      (arriveWord w s).pumpOut = s.pumpOut := by
  unfold arriveWord
  try dsimp only
  (repeat' split) <;> simp

@[simp] theorem judgeStale_frame (c : Chan) (s : State) :
    (judgeStale c s).pending = s.pending ∧
      (judgeStale c s).awaiting = s.awaiting ∧
      (judgeStale c s).written = s.written ∧
      (judgeStale c s).ring = s.ring ∧
      (judgeStale c s).map = s.map ∧
      (judgeStale c s).store = s.store ∧
      (judgeStale c s).heads = s.heads ∧
      (judgeStale c s).zones = s.zones ∧
      (judgeStale c s).reg = s.reg ∧
      (judgeStale c s).docks = s.docks ∧
      (judgeStale c s).idle = s.idle ∧
      (judgeStale c s).queues = s.queues ∧
      (judgeStale c s).lines = s.lines ∧
      (judgeStale c s).conds = s.conds ∧
      (judgeStale c s).profiles = s.profiles ∧
      (judgeStale c s).segments = s.segments ∧
      (judgeStale c s).cadence = s.cadence ∧
      (judgeStale c s).inputs = s.inputs ∧
      (judgeStale c s).verifier = s.verifier ∧
      (judgeStale c s).events = s.events ∧
      (judgeStale c s).us = s.us ∧
      (judgeStale c s).phase = s.phase ∧
      (judgeStale c s).free = s.free ∧
      (judgeStale c s).portB = s.portB ∧
      (judgeStale c s).regulatorOut = s.regulatorOut ∧
      (judgeStale c s).pumpOut = s.pumpOut := by
  unfold judgeStale
  try dsimp only
  (repeat' split) <;> simp

@[simp] theorem tickFilter_frame (s : State) (c : Chan) :
    (tickFilter s c).pending = s.pending ∧
      (tickFilter s c).awaiting = s.awaiting ∧
      (tickFilter s c).written = s.written ∧
      (tickFilter s c).ring = s.ring ∧
      (tickFilter s c).map = s.map ∧
      (tickFilter s c).store = s.store ∧
      (tickFilter s c).heads = s.heads ∧
      (tickFilter s c).zones = s.zones ∧
      (tickFilter s c).reg = s.reg ∧
      (tickFilter s c).docks = s.docks ∧
      (tickFilter s c).idle = s.idle ∧
      (tickFilter s c).queues = s.queues ∧
      (tickFilter s c).lines = s.lines ∧
      (tickFilter s c).conds = s.conds ∧
      (tickFilter s c).profiles = s.profiles ∧
      (tickFilter s c).segments = s.segments ∧
      (tickFilter s c).cadence = s.cadence ∧
      (tickFilter s c).inputs = s.inputs ∧
      (tickFilter s c).verifier = s.verifier ∧
      (tickFilter s c).events = s.events ∧
      (tickFilter s c).us = s.us ∧
      (tickFilter s c).phase = s.phase ∧
      (tickFilter s c).free = s.free ∧
      (tickFilter s c).portB = s.portB ∧
      (tickFilter s c).regulatorOut = s.regulatorOut ∧
      (tickFilter s c).pumpOut = s.pumpOut := by
  simp [tickFilter]

@[simp] theorem refreshPort_frame (s : State) :
    (refreshPort s).pending = s.pending ∧
      (refreshPort s).handed = s.handed ∧
      (refreshPort s).awaiting = s.awaiting ∧
      (refreshPort s).written = s.written ∧
      (refreshPort s).ring = s.ring ∧
      (refreshPort s).map = s.map ∧
      (refreshPort s).store = s.store ∧
      (refreshPort s).heads = s.heads ∧
      (refreshPort s).zones = s.zones ∧
      (refreshPort s).filters = s.filters ∧
      (refreshPort s).docks = s.docks ∧
      (refreshPort s).idle = s.idle ∧
      (refreshPort s).queues = s.queues ∧
      (refreshPort s).lines = s.lines ∧
      (refreshPort s).conds = s.conds ∧
      (refreshPort s).profiles = s.profiles ∧
      (refreshPort s).segments = s.segments ∧
      (refreshPort s).cadence = s.cadence ∧
      (refreshPort s).inputs = s.inputs ∧
      (refreshPort s).verifier = s.verifier ∧
      (refreshPort s).events = s.events ∧
      (refreshPort s).us = s.us ∧
      (refreshPort s).phase = s.phase ∧
      (refreshPort s).free = s.free ∧
      (refreshPort s).portB = s.portB ∧
      (refreshPort s).regulatorOut = s.regulatorOut ∧
      (refreshPort s).pumpOut = s.pumpOut := by
  simp [refreshPort]

@[simp] theorem tickPort_frame (s : State) :
    (tickPort s).pending = s.pending ∧
      (tickPort s).handed = s.handed ∧
      (tickPort s).awaiting = s.awaiting ∧
      (tickPort s).written = s.written ∧
      (tickPort s).ring = s.ring ∧
      (tickPort s).map = s.map ∧
      (tickPort s).store = s.store ∧
      (tickPort s).heads = s.heads ∧
      (tickPort s).zones = s.zones ∧
      (tickPort s).filters = s.filters ∧
      (tickPort s).docks = s.docks ∧
      (tickPort s).idle = s.idle ∧
      (tickPort s).queues = s.queues ∧
      (tickPort s).lines = s.lines ∧
      (tickPort s).conds = s.conds ∧
      (tickPort s).profiles = s.profiles ∧
      (tickPort s).segments = s.segments ∧
      (tickPort s).cadence = s.cadence ∧
      (tickPort s).inputs = s.inputs ∧
      (tickPort s).verifier = s.verifier ∧
      (tickPort s).events = s.events ∧
      (tickPort s).us = s.us ∧
      (tickPort s).phase = s.phase ∧
      (tickPort s).free = s.free ∧
      (tickPort s).portB = s.portB ∧
      (tickPort s).regulatorOut = s.regulatorOut ∧
      (tickPort s).pumpOut = s.pumpOut := by
  unfold tickPort
  try dsimp only
  (repeat' split) <;> simp

/-! ### Discrete inputs -/

@[simp] theorem updateInput_frame (i : Fin 16) (u : InputUnit) (s : State) :
    (updateInput i u s).pending = s.pending ∧
      (updateInput i u s).awaiting = s.awaiting ∧
      (updateInput i u s).written = s.written ∧
      (updateInput i u s).ring = s.ring ∧
      (updateInput i u s).map = s.map ∧
      (updateInput i u s).store = s.store ∧
      (updateInput i u s).heads = s.heads ∧
      (updateInput i u s).zones = s.zones ∧
      (updateInput i u s).filters = s.filters ∧
      (updateInput i u s).reg = s.reg ∧
      (updateInput i u s).docks = s.docks ∧
      (updateInput i u s).idle = s.idle ∧
      (updateInput i u s).queues = s.queues ∧
      (updateInput i u s).lines = s.lines ∧
      (updateInput i u s).conds = s.conds ∧
      (updateInput i u s).profiles = s.profiles ∧
      (updateInput i u s).segments = s.segments ∧
      (updateInput i u s).cadence = s.cadence ∧
      (updateInput i u s).verifier = s.verifier ∧
      (updateInput i u s).events = s.events ∧
      (updateInput i u s).us = s.us ∧
      (updateInput i u s).phase = s.phase ∧
      (updateInput i u s).free = s.free ∧
      (updateInput i u s).portB = s.portB ∧
      (updateInput i u s).regulatorOut = s.regulatorOut ∧
      (updateInput i u s).pumpOut = s.pumpOut := by
  unfold updateInput
  try dsimp only
  (repeat' split) <;> simp

@[simp] theorem settleInput_frame (i : Fin 16) (s : State) :
    (settleInput i s).pending = s.pending ∧
      (settleInput i s).awaiting = s.awaiting ∧
      (settleInput i s).written = s.written ∧
      (settleInput i s).ring = s.ring ∧
      (settleInput i s).map = s.map ∧
      (settleInput i s).store = s.store ∧
      (settleInput i s).heads = s.heads ∧
      (settleInput i s).zones = s.zones ∧
      (settleInput i s).filters = s.filters ∧
      (settleInput i s).reg = s.reg ∧
      (settleInput i s).docks = s.docks ∧
      (settleInput i s).idle = s.idle ∧
      (settleInput i s).queues = s.queues ∧
      (settleInput i s).lines = s.lines ∧
      (settleInput i s).conds = s.conds ∧
      (settleInput i s).profiles = s.profiles ∧
      (settleInput i s).segments = s.segments ∧
      (settleInput i s).cadence = s.cadence ∧
      (settleInput i s).verifier = s.verifier ∧
      (settleInput i s).events = s.events ∧
      (settleInput i s).us = s.us ∧
      (settleInput i s).phase = s.phase ∧
      (settleInput i s).free = s.free ∧
      (settleInput i s).portB = s.portB ∧
      (settleInput i s).regulatorOut = s.regulatorOut ∧
      (settleInput i s).pumpOut = s.pumpOut := by
  simp [settleInput]

@[simp] theorem tickInput_frame (s : State) (i : Fin 16) :
    (tickInput s i).pending = s.pending ∧
      (tickInput s i).awaiting = s.awaiting ∧
      (tickInput s i).written = s.written ∧
      (tickInput s i).ring = s.ring ∧
      (tickInput s i).map = s.map ∧
      (tickInput s i).store = s.store ∧
      (tickInput s i).heads = s.heads ∧
      (tickInput s i).zones = s.zones ∧
      (tickInput s i).filters = s.filters ∧
      (tickInput s i).reg = s.reg ∧
      (tickInput s i).docks = s.docks ∧
      (tickInput s i).idle = s.idle ∧
      (tickInput s i).queues = s.queues ∧
      (tickInput s i).lines = s.lines ∧
      (tickInput s i).conds = s.conds ∧
      (tickInput s i).profiles = s.profiles ∧
      (tickInput s i).segments = s.segments ∧
      (tickInput s i).cadence = s.cadence ∧
      (tickInput s i).verifier = s.verifier ∧
      (tickInput s i).events = s.events ∧
      (tickInput s i).us = s.us ∧
      (tickInput s i).phase = s.phase ∧
      (tickInput s i).free = s.free ∧
      (tickInput s i).portB = s.portB ∧
      (tickInput s i).regulatorOut = s.regulatorOut ∧
      (tickInput s i).pumpOut = s.pumpOut := by
  unfold tickInput
  try dsimp only
  (repeat' split) <;> simp

@[simp] theorem raiseInputDropped_frame (i : Fin 16) (d : Word16) (s : State) :
    (raiseInputDropped i d s).pending = s.pending ∧
      (raiseInputDropped i d s).awaiting = s.awaiting ∧
      (raiseInputDropped i d s).written = s.written ∧
      (raiseInputDropped i d s).ring = s.ring ∧
      (raiseInputDropped i d s).map = s.map ∧
      (raiseInputDropped i d s).store = s.store ∧
      (raiseInputDropped i d s).heads = s.heads ∧
      (raiseInputDropped i d s).zones = s.zones ∧
      (raiseInputDropped i d s).filters = s.filters ∧
      (raiseInputDropped i d s).reg = s.reg ∧
      (raiseInputDropped i d s).docks = s.docks ∧
      (raiseInputDropped i d s).idle = s.idle ∧
      (raiseInputDropped i d s).queues = s.queues ∧
      (raiseInputDropped i d s).lines = s.lines ∧
      (raiseInputDropped i d s).conds = s.conds ∧
      (raiseInputDropped i d s).profiles = s.profiles ∧
      (raiseInputDropped i d s).segments = s.segments ∧
      (raiseInputDropped i d s).cadence = s.cadence ∧
      (raiseInputDropped i d s).inputs = s.inputs ∧
      (raiseInputDropped i d s).verifier = s.verifier ∧
      (raiseInputDropped i d s).events = s.events ∧
      (raiseInputDropped i d s).us = s.us ∧
      (raiseInputDropped i d s).phase = s.phase ∧
      (raiseInputDropped i d s).free = s.free ∧
      (raiseInputDropped i d s).portB = s.portB ∧
      (raiseInputDropped i d s).regulatorOut = s.regulatorOut ∧
      (raiseInputDropped i d s).pumpOut = s.pumpOut := by
  simp [raiseInputDropped]

@[simp] theorem applyInput_frame (b : Bool) (i : Fin 16) (e : InputConfig) (s : State) :
    (applyInput b i e s).pending = s.pending ∧
      (applyInput b i e s).awaiting = s.awaiting ∧
      (applyInput b i e s).written = s.written ∧
      (applyInput b i e s).ring = s.ring ∧
      (applyInput b i e s).map = s.map ∧
      (applyInput b i e s).store = s.store ∧
      (applyInput b i e s).heads = s.heads ∧
      (applyInput b i e s).zones = s.zones ∧
      (applyInput b i e s).filters = s.filters ∧
      (applyInput b i e s).reg = s.reg ∧
      (applyInput b i e s).docks = s.docks ∧
      (applyInput b i e s).idle = s.idle ∧
      (applyInput b i e s).queues = s.queues ∧
      (applyInput b i e s).lines = s.lines ∧
      (applyInput b i e s).conds = s.conds ∧
      (applyInput b i e s).profiles = s.profiles ∧
      (applyInput b i e s).segments = s.segments ∧
      (applyInput b i e s).cadence = s.cadence ∧
      (applyInput b i e s).verifier = s.verifier ∧
      (applyInput b i e s).events = s.events ∧
      (applyInput b i e s).us = s.us ∧
      (applyInput b i e s).phase = s.phase ∧
      (applyInput b i e s).free = s.free ∧
      (applyInput b i e s).portB = s.portB ∧
      (applyInput b i e s).regulatorOut = s.regulatorOut ∧
      (applyInput b i e s).pumpOut = s.pumpOut := by
  unfold applyInput
  try dsimp only
  (repeat' split) <;> simp

@[simp] theorem clearInputAt_frame (i : Fin 16) (s : State) :
    (clearInputAt i s).pending = s.pending ∧
      (clearInputAt i s).awaiting = s.awaiting ∧
      (clearInputAt i s).written = s.written ∧
      (clearInputAt i s).ring = s.ring ∧
      (clearInputAt i s).map = s.map ∧
      (clearInputAt i s).store = s.store ∧
      (clearInputAt i s).heads = s.heads ∧
      (clearInputAt i s).zones = s.zones ∧
      (clearInputAt i s).filters = s.filters ∧
      (clearInputAt i s).reg = s.reg ∧
      (clearInputAt i s).docks = s.docks ∧
      (clearInputAt i s).idle = s.idle ∧
      (clearInputAt i s).queues = s.queues ∧
      (clearInputAt i s).lines = s.lines ∧
      (clearInputAt i s).conds = s.conds ∧
      (clearInputAt i s).profiles = s.profiles ∧
      (clearInputAt i s).segments = s.segments ∧
      (clearInputAt i s).cadence = s.cadence ∧
      (clearInputAt i s).verifier = s.verifier ∧
      (clearInputAt i s).events = s.events ∧
      (clearInputAt i s).us = s.us ∧
      (clearInputAt i s).phase = s.phase ∧
      (clearInputAt i s).free = s.free ∧
      (clearInputAt i s).portB = s.portB ∧
      (clearInputAt i s).regulatorOut = s.regulatorOut ∧
      (clearInputAt i s).pumpOut = s.pumpOut := by
  unfold clearInputAt
  try dsimp only
  (repeat' split) <;> simp

@[simp] theorem refilterInput_frame (s : State) (i : Fin 16) :
    (refilterInput s i).pending = s.pending ∧
      (refilterInput s i).awaiting = s.awaiting ∧
      (refilterInput s i).written = s.written ∧
      (refilterInput s i).ring = s.ring ∧
      (refilterInput s i).map = s.map ∧
      (refilterInput s i).store = s.store ∧
      (refilterInput s i).heads = s.heads ∧
      (refilterInput s i).zones = s.zones ∧
      (refilterInput s i).filters = s.filters ∧
      (refilterInput s i).reg = s.reg ∧
      (refilterInput s i).docks = s.docks ∧
      (refilterInput s i).idle = s.idle ∧
      (refilterInput s i).queues = s.queues ∧
      (refilterInput s i).lines = s.lines ∧
      (refilterInput s i).conds = s.conds ∧
      (refilterInput s i).profiles = s.profiles ∧
      (refilterInput s i).segments = s.segments ∧
      (refilterInput s i).cadence = s.cadence ∧
      (refilterInput s i).verifier = s.verifier ∧
      (refilterInput s i).events = s.events ∧
      (refilterInput s i).us = s.us ∧
      (refilterInput s i).phase = s.phase ∧
      (refilterInput s i).free = s.free ∧
      (refilterInput s i).portB = s.portB ∧
      (refilterInput s i).regulatorOut = s.regulatorOut ∧
      (refilterInput s i).pumpOut = s.pumpOut := by
  unfold refilterInput
  try dsimp only
  (repeat' split) <;> simp

@[simp] theorem refilterInputs_frame (s : State) :
    (refilterInputs s).pending = s.pending ∧
      (refilterInputs s).awaiting = s.awaiting ∧
      (refilterInputs s).written = s.written ∧
      (refilterInputs s).ring = s.ring ∧
      (refilterInputs s).map = s.map ∧
      (refilterInputs s).store = s.store ∧
      (refilterInputs s).heads = s.heads ∧
      (refilterInputs s).zones = s.zones ∧
      (refilterInputs s).filters = s.filters ∧
      (refilterInputs s).reg = s.reg ∧
      (refilterInputs s).docks = s.docks ∧
      (refilterInputs s).idle = s.idle ∧
      (refilterInputs s).queues = s.queues ∧
      (refilterInputs s).lines = s.lines ∧
      (refilterInputs s).conds = s.conds ∧
      (refilterInputs s).profiles = s.profiles ∧
      (refilterInputs s).segments = s.segments ∧
      (refilterInputs s).cadence = s.cadence ∧
      (refilterInputs s).verifier = s.verifier ∧
      (refilterInputs s).events = s.events ∧
      (refilterInputs s).us = s.us ∧
      (refilterInputs s).phase = s.phase ∧
      (refilterInputs s).free = s.free ∧
      (refilterInputs s).portB = s.portB ∧
      (refilterInputs s).regulatorOut = s.regulatorOut ∧
      (refilterInputs s).pumpOut = s.pumpOut := by
  simp [refilterInputs, foldl_leaves State.pending, foldl_leaves State.awaiting,
    foldl_leaves State.written, foldl_leaves State.ring, foldl_leaves State.map,
    foldl_leaves State.store, foldl_leaves State.heads, foldl_leaves State.zones,
    foldl_leaves State.filters, foldl_leaves State.reg, foldl_leaves State.docks,
    foldl_leaves State.idle, foldl_leaves State.queues, foldl_leaves State.lines,
    foldl_leaves State.conds, foldl_leaves State.profiles, foldl_leaves State.segments,
    foldl_leaves State.cadence, foldl_leaves State.verifier, foldl_leaves State.events,
    foldl_leaves State.us, foldl_leaves State.phase, foldl_leaves State.free,
    foldl_leaves State.portB, foldl_leaves State.regulatorOut, foldl_leaves State.pumpOut]

/-! ### Time base and Cadence Monitor -/

@[simp] theorem cadenceViolation_frame (v : Violation) (s : State) :
    (cadenceViolation v s).pending = s.pending ∧
      (cadenceViolation v s).awaiting = s.awaiting ∧
      (cadenceViolation v s).written = s.written ∧
      (cadenceViolation v s).ring = s.ring ∧
      (cadenceViolation v s).map = s.map ∧
      (cadenceViolation v s).store = s.store ∧
      (cadenceViolation v s).heads = s.heads ∧
      (cadenceViolation v s).zones = s.zones ∧
      (cadenceViolation v s).filters = s.filters ∧
      (cadenceViolation v s).reg = s.reg ∧
      (cadenceViolation v s).docks = s.docks ∧
      (cadenceViolation v s).idle = s.idle ∧
      (cadenceViolation v s).queues = s.queues ∧
      (cadenceViolation v s).lines = s.lines ∧
      (cadenceViolation v s).conds = s.conds ∧
      (cadenceViolation v s).profiles = s.profiles ∧
      (cadenceViolation v s).segments = s.segments ∧
      (cadenceViolation v s).inputs = s.inputs ∧
      (cadenceViolation v s).verifier = s.verifier ∧
      (cadenceViolation v s).events = s.events ∧
      (cadenceViolation v s).us = s.us ∧
      (cadenceViolation v s).phase = s.phase ∧
      (cadenceViolation v s).free = s.free ∧
      (cadenceViolation v s).portB = s.portB ∧
      (cadenceViolation v s).regulatorOut = s.regulatorOut ∧
      (cadenceViolation v s).pumpOut = s.pumpOut := by
  unfold cadenceViolation
  try dsimp only
  (repeat' split) <;> simp

@[simp] theorem lateExpiry_frame (e : BitVec 32) (s : State) :
    (lateExpiry e s).pending = s.pending ∧
      (lateExpiry e s).awaiting = s.awaiting ∧
      (lateExpiry e s).written = s.written ∧
      (lateExpiry e s).ring = s.ring ∧
      (lateExpiry e s).map = s.map ∧
      (lateExpiry e s).store = s.store ∧
      (lateExpiry e s).heads = s.heads ∧
      (lateExpiry e s).zones = s.zones ∧
      (lateExpiry e s).filters = s.filters ∧
      (lateExpiry e s).reg = s.reg ∧
      (lateExpiry e s).docks = s.docks ∧
      (lateExpiry e s).idle = s.idle ∧
      (lateExpiry e s).queues = s.queues ∧
      (lateExpiry e s).lines = s.lines ∧
      (lateExpiry e s).conds = s.conds ∧
      (lateExpiry e s).profiles = s.profiles ∧
      (lateExpiry e s).segments = s.segments ∧
      (lateExpiry e s).inputs = s.inputs ∧
      (lateExpiry e s).verifier = s.verifier ∧
      (lateExpiry e s).events = s.events ∧
      (lateExpiry e s).us = s.us ∧
      (lateExpiry e s).phase = s.phase ∧
      (lateExpiry e s).free = s.free ∧
      (lateExpiry e s).portB = s.portB ∧
      (lateExpiry e s).regulatorOut = s.regulatorOut ∧
      (lateExpiry e s).pumpOut = s.pumpOut := by
  simp [lateExpiry]

@[simp] theorem passExpiries_frame (n d : Nat) (s : State) :
    (passExpiries n d s).pending = s.pending ∧
      (passExpiries n d s).awaiting = s.awaiting ∧
      (passExpiries n d s).written = s.written ∧
      (passExpiries n d s).ring = s.ring ∧
      (passExpiries n d s).map = s.map ∧
      (passExpiries n d s).store = s.store ∧
      (passExpiries n d s).heads = s.heads ∧
      (passExpiries n d s).zones = s.zones ∧
      (passExpiries n d s).filters = s.filters ∧
      (passExpiries n d s).reg = s.reg ∧
      (passExpiries n d s).docks = s.docks ∧
      (passExpiries n d s).idle = s.idle ∧
      (passExpiries n d s).queues = s.queues ∧
      (passExpiries n d s).lines = s.lines ∧
      (passExpiries n d s).conds = s.conds ∧
      (passExpiries n d s).profiles = s.profiles ∧
      (passExpiries n d s).segments = s.segments ∧
      (passExpiries n d s).inputs = s.inputs ∧
      (passExpiries n d s).verifier = s.verifier ∧
      (passExpiries n d s).events = s.events ∧
      (passExpiries n d s).phase = s.phase ∧
      (passExpiries n d s).free = s.free ∧
      (passExpiries n d s).portB = s.portB ∧
      (passExpiries n d s).regulatorOut = s.regulatorOut ∧
      (passExpiries n d s).pumpOut = s.pumpOut := by
  induction n generalizing s d with
  | zero => simp [passExpiries]
  | succ n ih =>
    unfold passExpiries
    dsimp only
    (repeat' split) <;> simp [ih]

@[simp] theorem advanceTime_frame (d : Nat) (s : State) :
    (advanceTime d s).pending = s.pending ∧
      (advanceTime d s).awaiting = s.awaiting ∧
      (advanceTime d s).written = s.written ∧
      (advanceTime d s).ring = s.ring ∧
      (advanceTime d s).map = s.map ∧
      (advanceTime d s).store = s.store ∧
      (advanceTime d s).heads = s.heads ∧
      (advanceTime d s).zones = s.zones ∧
      (advanceTime d s).filters = s.filters ∧
      (advanceTime d s).reg = s.reg ∧
      (advanceTime d s).docks = s.docks ∧
      (advanceTime d s).idle = s.idle ∧
      (advanceTime d s).queues = s.queues ∧
      (advanceTime d s).lines = s.lines ∧
      (advanceTime d s).conds = s.conds ∧
      (advanceTime d s).profiles = s.profiles ∧
      (advanceTime d s).segments = s.segments ∧
      (advanceTime d s).inputs = s.inputs ∧
      (advanceTime d s).verifier = s.verifier ∧
      (advanceTime d s).events = s.events ∧
      (advanceTime d s).phase = s.phase ∧
      (advanceTime d s).free = s.free ∧
      (advanceTime d s).portB = s.portB ∧
      (advanceTime d s).regulatorOut = s.regulatorOut ∧
      (advanceTime d s).pumpOut = s.pumpOut := by
  simp [advanceTime]

@[simp] theorem advanceToPhase_frame (d : Nat) (s : State) :
    (advanceToPhase d s).pending = s.pending ∧
      (advanceToPhase d s).awaiting = s.awaiting ∧
      (advanceToPhase d s).written = s.written ∧
      (advanceToPhase d s).ring = s.ring ∧
      (advanceToPhase d s).map = s.map ∧
      (advanceToPhase d s).store = s.store ∧
      (advanceToPhase d s).heads = s.heads ∧
      (advanceToPhase d s).zones = s.zones ∧
      (advanceToPhase d s).filters = s.filters ∧
      (advanceToPhase d s).reg = s.reg ∧
      (advanceToPhase d s).docks = s.docks ∧
      (advanceToPhase d s).idle = s.idle ∧
      (advanceToPhase d s).queues = s.queues ∧
      (advanceToPhase d s).lines = s.lines ∧
      (advanceToPhase d s).conds = s.conds ∧
      (advanceToPhase d s).profiles = s.profiles ∧
      (advanceToPhase d s).segments = s.segments ∧
      (advanceToPhase d s).inputs = s.inputs ∧
      (advanceToPhase d s).verifier = s.verifier ∧
      (advanceToPhase d s).events = s.events ∧
      (advanceToPhase d s).free = s.free ∧
      (advanceToPhase d s).portB = s.portB ∧
      (advanceToPhase d s).regulatorOut = s.regulatorOut ∧
      (advanceToPhase d s).pumpOut = s.pumpOut := by
  unfold advanceToPhase
  try dsimp only
  (repeat' split) <;> simp

@[simp] theorem takeExpiry_frame (s : State) :
    (takeExpiry s).pending = s.pending ∧
      (takeExpiry s).awaiting = s.awaiting ∧
      (takeExpiry s).written = s.written ∧
      (takeExpiry s).ring = s.ring ∧
      (takeExpiry s).map = s.map ∧
      (takeExpiry s).store = s.store ∧
      (takeExpiry s).heads = s.heads ∧
      (takeExpiry s).zones = s.zones ∧
      (takeExpiry s).filters = s.filters ∧
      (takeExpiry s).reg = s.reg ∧
      (takeExpiry s).docks = s.docks ∧
      (takeExpiry s).idle = s.idle ∧
      (takeExpiry s).queues = s.queues ∧
      (takeExpiry s).lines = s.lines ∧
      (takeExpiry s).conds = s.conds ∧
      (takeExpiry s).profiles = s.profiles ∧
      (takeExpiry s).segments = s.segments ∧
      (takeExpiry s).inputs = s.inputs ∧
      (takeExpiry s).verifier = s.verifier ∧
      (takeExpiry s).events = s.events ∧
      (takeExpiry s).free = s.free ∧
      (takeExpiry s).portB = s.portB ∧
      (takeExpiry s).regulatorOut = s.regulatorOut ∧
      (takeExpiry s).pumpOut = s.pumpOut := by
  unfold takeExpiry
  try dsimp only
  (repeat' split) <;> simp

@[simp] theorem inWindow_frame (s : State) :
    (inWindow s).pending = s.pending ∧
      (inWindow s).awaiting = s.awaiting ∧
      (inWindow s).written = s.written ∧
      (inWindow s).ring = s.ring ∧
      (inWindow s).map = s.map ∧
      (inWindow s).store = s.store ∧
      (inWindow s).heads = s.heads ∧
      (inWindow s).zones = s.zones ∧
      (inWindow s).filters = s.filters ∧
      (inWindow s).reg = s.reg ∧
      (inWindow s).docks = s.docks ∧
      (inWindow s).idle = s.idle ∧
      (inWindow s).queues = s.queues ∧
      (inWindow s).lines = s.lines ∧
      (inWindow s).conds = s.conds ∧
      (inWindow s).profiles = s.profiles ∧
      (inWindow s).segments = s.segments ∧
      (inWindow s).inputs = s.inputs ∧
      (inWindow s).verifier = s.verifier ∧
      (inWindow s).events = s.events ∧
      (inWindow s).us = s.us ∧
      (inWindow s).phase = s.phase ∧
      (inWindow s).free = s.free ∧
      (inWindow s).portB = s.portB ∧
      (inWindow s).regulatorOut = s.regulatorOut ∧
      (inWindow s).pumpOut = s.pumpOut := by
  unfold inWindow
  try dsimp only
  (repeat' split) <;> simp

@[simp] theorem judgeInterval_frame (u : BitVec 32) (s : State) :
    (judgeInterval u s).pending = s.pending ∧
      (judgeInterval u s).awaiting = s.awaiting ∧
      (judgeInterval u s).written = s.written ∧
      (judgeInterval u s).ring = s.ring ∧
      (judgeInterval u s).map = s.map ∧
      (judgeInterval u s).store = s.store ∧
      (judgeInterval u s).heads = s.heads ∧
      (judgeInterval u s).zones = s.zones ∧
      (judgeInterval u s).filters = s.filters ∧
      (judgeInterval u s).reg = s.reg ∧
      (judgeInterval u s).docks = s.docks ∧
      (judgeInterval u s).idle = s.idle ∧
      (judgeInterval u s).queues = s.queues ∧
      (judgeInterval u s).lines = s.lines ∧
      (judgeInterval u s).conds = s.conds ∧
      (judgeInterval u s).profiles = s.profiles ∧
      (judgeInterval u s).segments = s.segments ∧
      (judgeInterval u s).inputs = s.inputs ∧
      (judgeInterval u s).verifier = s.verifier ∧
      (judgeInterval u s).events = s.events ∧
      (judgeInterval u s).us = s.us ∧
      (judgeInterval u s).phase = s.phase ∧
      (judgeInterval u s).free = s.free ∧
      (judgeInterval u s).portB = s.portB ∧
      (judgeInterval u s).regulatorOut = s.regulatorOut ∧
      (judgeInterval u s).pumpOut = s.pumpOut := by
  unfold judgeInterval
  try dsimp only
  (repeat' split) <;> simp

@[simp] theorem cycleFrameNotice_frame (u : BitVec 32) (s : State) :
    (cycleFrameNotice u s).pending = s.pending ∧
      (cycleFrameNotice u s).awaiting = s.awaiting ∧
      (cycleFrameNotice u s).written = s.written ∧
      (cycleFrameNotice u s).ring = s.ring ∧
      (cycleFrameNotice u s).map = s.map ∧
      (cycleFrameNotice u s).store = s.store ∧
      (cycleFrameNotice u s).heads = s.heads ∧
      (cycleFrameNotice u s).zones = s.zones ∧
      (cycleFrameNotice u s).filters = s.filters ∧
      (cycleFrameNotice u s).reg = s.reg ∧
      (cycleFrameNotice u s).docks = s.docks ∧
      (cycleFrameNotice u s).idle = s.idle ∧
      (cycleFrameNotice u s).queues = s.queues ∧
      (cycleFrameNotice u s).lines = s.lines ∧
      (cycleFrameNotice u s).conds = s.conds ∧
      (cycleFrameNotice u s).profiles = s.profiles ∧
      (cycleFrameNotice u s).segments = s.segments ∧
      (cycleFrameNotice u s).inputs = s.inputs ∧
      (cycleFrameNotice u s).verifier = s.verifier ∧
      (cycleFrameNotice u s).events = s.events ∧
      (cycleFrameNotice u s).us = s.us ∧
      (cycleFrameNotice u s).phase = s.phase ∧
      (cycleFrameNotice u s).free = s.free ∧
      (cycleFrameNotice u s).portB = s.portB ∧
      (cycleFrameNotice u s).regulatorOut = s.regulatorOut ∧
      (cycleFrameNotice u s).pumpOut = s.pumpOut := by
  simp [cycleFrameNotice]

/-! ### Table Verifier -/

@[simp] theorem failGroup_frame (g : Group) (c : BitVec 16) (s : State) :
    (failGroup g c s).pending = s.pending ∧
      (failGroup g c s).awaiting = s.awaiting ∧
      (failGroup g c s).written = s.written ∧
      (failGroup g c s).ring = s.ring ∧
      (failGroup g c s).map = s.map ∧
      (failGroup g c s).store = s.store ∧
      (failGroup g c s).heads = s.heads ∧
      (failGroup g c s).zones = s.zones ∧
      (failGroup g c s).filters = s.filters ∧
      (failGroup g c s).reg = s.reg ∧
      (failGroup g c s).docks = s.docks ∧
      (failGroup g c s).idle = s.idle ∧
      (failGroup g c s).queues = s.queues ∧
      (failGroup g c s).lines = s.lines ∧
      (failGroup g c s).conds = s.conds ∧
      (failGroup g c s).profiles = s.profiles ∧
      (failGroup g c s).segments = s.segments ∧
      (failGroup g c s).cadence = s.cadence ∧
      (failGroup g c s).inputs = s.inputs ∧
      (failGroup g c s).events = s.events ∧
      (failGroup g c s).us = s.us ∧
      (failGroup g c s).phase = s.phase ∧
      (failGroup g c s).free = s.free ∧
      (failGroup g c s).portB = s.portB ∧
      (failGroup g c s).regulatorOut = s.regulatorOut ∧
      (failGroup g c s).pumpOut = s.pumpOut := by
  simp [failGroup]

@[simp] theorem completeScan_frame (g : Group) (s : State) :
    (completeScan g s).pending = s.pending ∧
      (completeScan g s).awaiting = s.awaiting ∧
      (completeScan g s).written = s.written ∧
      (completeScan g s).ring = s.ring ∧
      (completeScan g s).map = s.map ∧
      (completeScan g s).store = s.store ∧
      (completeScan g s).heads = s.heads ∧
      (completeScan g s).zones = s.zones ∧
      (completeScan g s).filters = s.filters ∧
      (completeScan g s).reg = s.reg ∧
      (completeScan g s).docks = s.docks ∧
      (completeScan g s).idle = s.idle ∧
      (completeScan g s).queues = s.queues ∧
      (completeScan g s).lines = s.lines ∧
      (completeScan g s).conds = s.conds ∧
      (completeScan g s).profiles = s.profiles ∧
      (completeScan g s).segments = s.segments ∧
      (completeScan g s).cadence = s.cadence ∧
      (completeScan g s).inputs = s.inputs ∧
      (completeScan g s).events = s.events ∧
      (completeScan g s).us = s.us ∧
      (completeScan g s).phase = s.phase ∧
      (completeScan g s).portB = s.portB ∧
      (completeScan g s).regulatorOut = s.regulatorOut ∧
      (completeScan g s).pumpOut = s.pumpOut := by
  unfold completeScan
  try dsimp only
  (repeat' split) <;> simp

@[simp] theorem completeRescan_frame (g : Group) (s : State) :
    (completeRescan g s).pending = s.pending ∧
      (completeRescan g s).awaiting = s.awaiting ∧
      (completeRescan g s).written = s.written ∧
      (completeRescan g s).ring = s.ring ∧
      (completeRescan g s).map = s.map ∧
      (completeRescan g s).store = s.store ∧
      (completeRescan g s).heads = s.heads ∧
      (completeRescan g s).zones = s.zones ∧
      (completeRescan g s).filters = s.filters ∧
      (completeRescan g s).reg = s.reg ∧
      (completeRescan g s).docks = s.docks ∧
      (completeRescan g s).idle = s.idle ∧
      (completeRescan g s).queues = s.queues ∧
      (completeRescan g s).lines = s.lines ∧
      (completeRescan g s).conds = s.conds ∧
      (completeRescan g s).profiles = s.profiles ∧
      (completeRescan g s).segments = s.segments ∧
      (completeRescan g s).cadence = s.cadence ∧
      (completeRescan g s).inputs = s.inputs ∧
      (completeRescan g s).events = s.events ∧
      (completeRescan g s).us = s.us ∧
      (completeRescan g s).phase = s.phase ∧
      (completeRescan g s).free = s.free ∧
      (completeRescan g s).portB = s.portB ∧
      (completeRescan g s).regulatorOut = s.regulatorOut ∧
      (completeRescan g s).pumpOut = s.pumpOut := by
  unfold completeRescan
  try dsimp only
  (repeat' split) <;> simp

@[simp] theorem completeAt_frame (g : Group) (s : State) :
    (completeAt g s).pending = s.pending ∧
      (completeAt g s).awaiting = s.awaiting ∧
      (completeAt g s).written = s.written ∧
      (completeAt g s).ring = s.ring ∧
      (completeAt g s).map = s.map ∧
      (completeAt g s).store = s.store ∧
      (completeAt g s).heads = s.heads ∧
      (completeAt g s).zones = s.zones ∧
      (completeAt g s).filters = s.filters ∧
      (completeAt g s).reg = s.reg ∧
      (completeAt g s).docks = s.docks ∧
      (completeAt g s).idle = s.idle ∧
      (completeAt g s).queues = s.queues ∧
      (completeAt g s).lines = s.lines ∧
      (completeAt g s).conds = s.conds ∧
      (completeAt g s).profiles = s.profiles ∧
      (completeAt g s).segments = s.segments ∧
      (completeAt g s).cadence = s.cadence ∧
      (completeAt g s).inputs = s.inputs ∧
      (completeAt g s).events = s.events ∧
      (completeAt g s).us = s.us ∧
      (completeAt g s).phase = s.phase ∧
      (completeAt g s).portB = s.portB ∧
      (completeAt g s).regulatorOut = s.regulatorOut ∧
      (completeAt g s).pumpOut = s.pumpOut := by
  unfold completeAt
  try dsimp only
  (repeat' split) <;> simp

@[simp] theorem tickGroup_frame (s : State) (g : Group) :
    (tickGroup s g).pending = s.pending ∧
      (tickGroup s g).awaiting = s.awaiting ∧
      (tickGroup s g).written = s.written ∧
      (tickGroup s g).ring = s.ring ∧
      (tickGroup s g).map = s.map ∧
      (tickGroup s g).store = s.store ∧
      (tickGroup s g).heads = s.heads ∧
      (tickGroup s g).zones = s.zones ∧
      (tickGroup s g).filters = s.filters ∧
      (tickGroup s g).reg = s.reg ∧
      (tickGroup s g).docks = s.docks ∧
      (tickGroup s g).idle = s.idle ∧
      (tickGroup s g).queues = s.queues ∧
      (tickGroup s g).lines = s.lines ∧
      (tickGroup s g).conds = s.conds ∧
      (tickGroup s g).profiles = s.profiles ∧
      (tickGroup s g).segments = s.segments ∧
      (tickGroup s g).cadence = s.cadence ∧
      (tickGroup s g).inputs = s.inputs ∧
      (tickGroup s g).events = s.events ∧
      (tickGroup s g).us = s.us ∧
      (tickGroup s g).phase = s.phase ∧
      (tickGroup s g).portB = s.portB ∧
      (tickGroup s g).regulatorOut = s.regulatorOut ∧
      (tickGroup s g).pumpOut = s.pumpOut := by
  unfold tickGroup
  try dsimp only
  (repeat' split) <;> simp

@[simp] theorem tickVerifier_frame (s : State) :
    (tickVerifier s).pending = s.pending ∧
      (tickVerifier s).awaiting = s.awaiting ∧
      (tickVerifier s).written = s.written ∧
      (tickVerifier s).ring = s.ring ∧
      (tickVerifier s).map = s.map ∧
      (tickVerifier s).store = s.store ∧
      (tickVerifier s).heads = s.heads ∧
      (tickVerifier s).zones = s.zones ∧
      (tickVerifier s).filters = s.filters ∧
      (tickVerifier s).reg = s.reg ∧
      (tickVerifier s).docks = s.docks ∧
      (tickVerifier s).idle = s.idle ∧
      (tickVerifier s).queues = s.queues ∧
      (tickVerifier s).lines = s.lines ∧
      (tickVerifier s).conds = s.conds ∧
      (tickVerifier s).profiles = s.profiles ∧
      (tickVerifier s).segments = s.segments ∧
      (tickVerifier s).cadence = s.cadence ∧
      (tickVerifier s).inputs = s.inputs ∧
      (tickVerifier s).events = s.events ∧
      (tickVerifier s).us = s.us ∧
      (tickVerifier s).phase = s.phase ∧
      (tickVerifier s).portB = s.portB ∧
      (tickVerifier s).regulatorOut = s.regulatorOut ∧
      (tickVerifier s).pumpOut = s.pumpOut := by
  simp [tickVerifier]

/-! ### Cells and frames -/

@[simp] theorem State.setEntry_frame (i : Fin 128) (e : MapEntry) (s : State) :
    (s.setEntry i e).pending = s.pending ∧
      (s.setEntry i e).handed = s.handed ∧
      (s.setEntry i e).awaiting = s.awaiting ∧
      (s.setEntry i e).written = s.written ∧
      (s.setEntry i e).ring = s.ring ∧
      (s.setEntry i e).store = s.store ∧
      (s.setEntry i e).heads = s.heads ∧
      (s.setEntry i e).zones = s.zones ∧
      (s.setEntry i e).filters = s.filters ∧
      (s.setEntry i e).reg = s.reg ∧
      (s.setEntry i e).docks = s.docks ∧
      (s.setEntry i e).idle = s.idle ∧
      (s.setEntry i e).queues = s.queues ∧
      (s.setEntry i e).lines = s.lines ∧
      (s.setEntry i e).conds = s.conds ∧
      (s.setEntry i e).profiles = s.profiles ∧
      (s.setEntry i e).segments = s.segments ∧
      (s.setEntry i e).cadence = s.cadence ∧
      (s.setEntry i e).inputs = s.inputs ∧
      (s.setEntry i e).verifier = s.verifier ∧
      (s.setEntry i e).events = s.events ∧
      (s.setEntry i e).us = s.us ∧
      (s.setEntry i e).phase = s.phase ∧
      (s.setEntry i e).free = s.free ∧
      (s.setEntry i e).portB = s.portB ∧
      (s.setEntry i e).regulatorOut = s.regulatorOut ∧
      (s.setEntry i e).pumpOut = s.pumpOut := by
  simp [State.setEntry]

@[simp] theorem State.stage_frame (i : Option Instr) (s : State) :
    (s.stage i).pending = s.pending ∧
      (s.stage i).handed = s.handed ∧
      (s.stage i).awaiting = s.awaiting ∧
      (s.stage i).written = s.written ∧
      (s.stage i).map = s.map ∧
      (s.stage i).store = s.store ∧
      (s.stage i).heads = s.heads ∧
      (s.stage i).zones = s.zones ∧
      (s.stage i).filters = s.filters ∧
      (s.stage i).reg = s.reg ∧
      (s.stage i).docks = s.docks ∧
      (s.stage i).idle = s.idle ∧
      (s.stage i).queues = s.queues ∧
      (s.stage i).lines = s.lines ∧
      (s.stage i).conds = s.conds ∧
      (s.stage i).profiles = s.profiles ∧
      (s.stage i).segments = s.segments ∧
      (s.stage i).cadence = s.cadence ∧
      (s.stage i).inputs = s.inputs ∧
      (s.stage i).verifier = s.verifier ∧
      (s.stage i).events = s.events ∧
      (s.stage i).us = s.us ∧
      (s.stage i).phase = s.phase ∧
      (s.stage i).free = s.free ∧
      (s.stage i).portB = s.portB ∧
      (s.stage i).regulatorOut = s.regulatorOut ∧
      (s.stage i).pumpOut = s.pumpOut := by
  unfold State.stage
  try dsimp only
  (repeat' split) <;> simp

@[simp] theorem State.raiseCellFault_frame (e : Fin 128) (n : Nat) (c : Cell) (s : State) :
    (s.raiseCellFault e n c).pending = s.pending ∧
      (s.raiseCellFault e n c).awaiting = s.awaiting ∧
      (s.raiseCellFault e n c).written = s.written ∧
      (s.raiseCellFault e n c).ring = s.ring ∧
      (s.raiseCellFault e n c).map = s.map ∧
      (s.raiseCellFault e n c).store = s.store ∧
      (s.raiseCellFault e n c).heads = s.heads ∧
      (s.raiseCellFault e n c).zones = s.zones ∧
      (s.raiseCellFault e n c).filters = s.filters ∧
      (s.raiseCellFault e n c).reg = s.reg ∧
      (s.raiseCellFault e n c).docks = s.docks ∧
      (s.raiseCellFault e n c).idle = s.idle ∧
      (s.raiseCellFault e n c).queues = s.queues ∧
      (s.raiseCellFault e n c).lines = s.lines ∧
      (s.raiseCellFault e n c).conds = s.conds ∧
      (s.raiseCellFault e n c).profiles = s.profiles ∧
      (s.raiseCellFault e n c).segments = s.segments ∧
      (s.raiseCellFault e n c).cadence = s.cadence ∧
      (s.raiseCellFault e n c).inputs = s.inputs ∧
      (s.raiseCellFault e n c).verifier = s.verifier ∧
      (s.raiseCellFault e n c).events = s.events ∧
      (s.raiseCellFault e n c).us = s.us ∧
      (s.raiseCellFault e n c).phase = s.phase ∧
      (s.raiseCellFault e n c).free = s.free ∧
      (s.raiseCellFault e n c).portB = s.portB ∧
      (s.raiseCellFault e n c).regulatorOut = s.regulatorOut ∧
      (s.raiseCellFault e n c).pumpOut = s.pumpOut := by
  simp [State.raiseCellFault]

@[simp] theorem takeCell_frame (e : Fin 128) (c : Cell) (s : State) :
    (takeCell e c s).1.pending = s.pending ∧
      (takeCell e c s).1.awaiting = s.awaiting ∧
      (takeCell e c s).1.written = s.written ∧
      (takeCell e c s).1.map = s.map ∧
      (takeCell e c s).1.store = s.store ∧
      (takeCell e c s).1.heads = s.heads ∧
      (takeCell e c s).1.zones = s.zones ∧
      (takeCell e c s).1.filters = s.filters ∧
      (takeCell e c s).1.reg = s.reg ∧
      (takeCell e c s).1.docks = s.docks ∧
      (takeCell e c s).1.idle = s.idle ∧
      (takeCell e c s).1.queues = s.queues ∧
      (takeCell e c s).1.lines = s.lines ∧
      (takeCell e c s).1.conds = s.conds ∧
      (takeCell e c s).1.profiles = s.profiles ∧
      (takeCell e c s).1.segments = s.segments ∧
      (takeCell e c s).1.cadence = s.cadence ∧
      (takeCell e c s).1.inputs = s.inputs ∧
      (takeCell e c s).1.verifier = s.verifier ∧
      (takeCell e c s).1.events = s.events ∧
      (takeCell e c s).1.us = s.us ∧
      (takeCell e c s).1.phase = s.phase ∧
      (takeCell e c s).1.free = s.free ∧
      (takeCell e c s).1.portB = s.portB ∧
      (takeCell e c s).1.regulatorOut = s.regulatorOut ∧
      (takeCell e c s).1.pumpOut = s.pumpOut := by
  unfold takeCell
  try dsimp only
  (repeat' split) <;> simp

@[simp] theorem giveCell_frame (e : Fin 128) (c : Cell) (s : State) :
    (giveCell e c s).1.pending = s.pending ∧
      (giveCell e c s).1.awaiting = s.awaiting ∧
      (giveCell e c s).1.written = s.written ∧
      (giveCell e c s).1.ring = s.ring ∧
      (giveCell e c s).1.map = s.map ∧
      (giveCell e c s).1.store = s.store ∧
      (giveCell e c s).1.heads = s.heads ∧
      (giveCell e c s).1.zones = s.zones ∧
      (giveCell e c s).1.filters = s.filters ∧
      (giveCell e c s).1.reg = s.reg ∧
      (giveCell e c s).1.docks = s.docks ∧
      (giveCell e c s).1.idle = s.idle ∧
      (giveCell e c s).1.queues = s.queues ∧
      (giveCell e c s).1.lines = s.lines ∧
      (giveCell e c s).1.conds = s.conds ∧
      (giveCell e c s).1.profiles = s.profiles ∧
      (giveCell e c s).1.segments = s.segments ∧
      (giveCell e c s).1.cadence = s.cadence ∧
      (giveCell e c s).1.inputs = s.inputs ∧
      (giveCell e c s).1.verifier = s.verifier ∧
      (giveCell e c s).1.events = s.events ∧
      (giveCell e c s).1.us = s.us ∧
      (giveCell e c s).1.phase = s.phase ∧
      (giveCell e c s).1.free = s.free ∧
      (giveCell e c s).1.portB = s.portB ∧
      (giveCell e c s).1.regulatorOut = s.regulatorOut ∧
      (giveCell e c s).1.pumpOut = s.pumpOut := by
  unfold giveCell
  try dsimp only
  (repeat' split) <;> simp

@[simp] theorem passData_frame (c : Cell) (s : State) :
    (passData c s).1.pending = s.pending ∧
      (passData c s).1.awaiting = s.awaiting ∧
      (passData c s).1.written = s.written ∧
      (passData c s).1.map = s.map ∧
      (passData c s).1.store = s.store ∧
      (passData c s).1.heads = s.heads ∧
      (passData c s).1.zones = s.zones ∧
      (passData c s).1.filters = s.filters ∧
      (passData c s).1.reg = s.reg ∧
      (passData c s).1.docks = s.docks ∧
      (passData c s).1.idle = s.idle ∧
      (passData c s).1.queues = s.queues ∧
      (passData c s).1.lines = s.lines ∧
      (passData c s).1.conds = s.conds ∧
      (passData c s).1.profiles = s.profiles ∧
      (passData c s).1.segments = s.segments ∧
      (passData c s).1.cadence = s.cadence ∧
      (passData c s).1.inputs = s.inputs ∧
      (passData c s).1.verifier = s.verifier ∧
      (passData c s).1.events = s.events ∧
      (passData c s).1.us = s.us ∧
      (passData c s).1.phase = s.phase ∧
      (passData c s).1.free = s.free ∧
      (passData c s).1.portB = s.portB ∧
      (passData c s).1.regulatorOut = s.regulatorOut ∧
      (passData c s).1.pumpOut = s.pumpOut := by
  unfold passData
  try dsimp only
  (repeat' split) <;> simp

@[simp] theorem passSlot_frame (c : Cell) (s : State) :
    (passSlot c s).1.pending = s.pending ∧
      (passSlot c s).1.handed = s.handed ∧
      (passSlot c s).1.awaiting = s.awaiting ∧
      (passSlot c s).1.written = s.written ∧
      (passSlot c s).1.ring = s.ring ∧
      (passSlot c s).1.map = s.map ∧
      (passSlot c s).1.store = s.store ∧
      (passSlot c s).1.heads = s.heads ∧
      (passSlot c s).1.zones = s.zones ∧
      (passSlot c s).1.filters = s.filters ∧
      (passSlot c s).1.reg = s.reg ∧
      (passSlot c s).1.docks = s.docks ∧
      (passSlot c s).1.idle = s.idle ∧
      (passSlot c s).1.queues = s.queues ∧
      (passSlot c s).1.lines = s.lines ∧
      (passSlot c s).1.conds = s.conds ∧
      (passSlot c s).1.profiles = s.profiles ∧
      (passSlot c s).1.segments = s.segments ∧
      (passSlot c s).1.cadence = s.cadence ∧
      (passSlot c s).1.inputs = s.inputs ∧
      (passSlot c s).1.verifier = s.verifier ∧
      (passSlot c s).1.us = s.us ∧
      (passSlot c s).1.phase = s.phase ∧
      (passSlot c s).1.free = s.free ∧
      (passSlot c s).1.portB = s.portB ∧
      (passSlot c s).1.regulatorOut = s.regulatorOut ∧
      (passSlot c s).1.pumpOut = s.pumpOut := by
  unfold passSlot
  try dsimp only
  (repeat' split) <;> simp

@[simp] theorem judgeRequired_frame (l : List (Fin 128)) (s : State) (e : Fin 128) :
    (judgeRequired l s e).pending = s.pending ∧
      (judgeRequired l s e).awaiting = s.awaiting ∧
      (judgeRequired l s e).written = s.written ∧
      (judgeRequired l s e).ring = s.ring ∧
      (judgeRequired l s e).store = s.store ∧
      (judgeRequired l s e).heads = s.heads ∧
      (judgeRequired l s e).zones = s.zones ∧
      (judgeRequired l s e).filters = s.filters ∧
      (judgeRequired l s e).reg = s.reg ∧
      (judgeRequired l s e).docks = s.docks ∧
      (judgeRequired l s e).idle = s.idle ∧
      (judgeRequired l s e).queues = s.queues ∧
      (judgeRequired l s e).lines = s.lines ∧
      (judgeRequired l s e).conds = s.conds ∧
      (judgeRequired l s e).profiles = s.profiles ∧
      (judgeRequired l s e).segments = s.segments ∧
      (judgeRequired l s e).cadence = s.cadence ∧
      (judgeRequired l s e).inputs = s.inputs ∧
      (judgeRequired l s e).verifier = s.verifier ∧
      (judgeRequired l s e).events = s.events ∧
      (judgeRequired l s e).us = s.us ∧
      (judgeRequired l s e).phase = s.phase ∧
      (judgeRequired l s e).free = s.free ∧
      (judgeRequired l s e).portB = s.portB ∧
      (judgeRequired l s e).regulatorOut = s.regulatorOut ∧
      (judgeRequired l s e).pumpOut = s.pumpOut := by
  unfold judgeRequired
  try dsimp only
  (repeat' split) <;> simp

@[simp] theorem applyMapWrite_frame (i : Fin 128) (e : MapEntry) (s : State) :
    (applyMapWrite i e s).pending = s.pending ∧
      (applyMapWrite i e s).awaiting = s.awaiting ∧
      (applyMapWrite i e s).written = s.written ∧
      (applyMapWrite i e s).ring = s.ring ∧
      (applyMapWrite i e s).store = s.store ∧
      (applyMapWrite i e s).heads = s.heads ∧
      (applyMapWrite i e s).zones = s.zones ∧
      (applyMapWrite i e s).filters = s.filters ∧
      (applyMapWrite i e s).reg = s.reg ∧
      (applyMapWrite i e s).docks = s.docks ∧
      (applyMapWrite i e s).idle = s.idle ∧
      (applyMapWrite i e s).queues = s.queues ∧
      (applyMapWrite i e s).lines = s.lines ∧
      (applyMapWrite i e s).conds = s.conds ∧
      (applyMapWrite i e s).profiles = s.profiles ∧
      (applyMapWrite i e s).segments = s.segments ∧
      (applyMapWrite i e s).cadence = s.cadence ∧
      (applyMapWrite i e s).inputs = s.inputs ∧
      (applyMapWrite i e s).verifier = s.verifier ∧
      (applyMapWrite i e s).events = s.events ∧
      (applyMapWrite i e s).us = s.us ∧
      (applyMapWrite i e s).phase = s.phase ∧
      (applyMapWrite i e s).free = s.free ∧
      (applyMapWrite i e s).portB = s.portB ∧
      (applyMapWrite i e s).regulatorOut = s.regulatorOut ∧
      (applyMapWrite i e s).pumpOut = s.pumpOut := by
  unfold applyMapWrite
  try dsimp only
  (repeat' split) <;> simp

@[simp] theorem passRequest_frame (c : Cell) (s : State) :
    (passRequest c s).1.pending = s.pending ∧
      (passRequest c s).1.handed = s.handed ∧
      (passRequest c s).1.awaiting = s.awaiting ∧
      (passRequest c s).1.written = s.written ∧
      (passRequest c s).1.map = s.map ∧
      (passRequest c s).1.store = s.store ∧
      (passRequest c s).1.heads = s.heads ∧
      (passRequest c s).1.zones = s.zones ∧
      (passRequest c s).1.filters = s.filters ∧
      (passRequest c s).1.reg = s.reg ∧
      (passRequest c s).1.docks = s.docks ∧
      (passRequest c s).1.idle = s.idle ∧
      (passRequest c s).1.queues = s.queues ∧
      (passRequest c s).1.lines = s.lines ∧
      (passRequest c s).1.conds = s.conds ∧
      (passRequest c s).1.profiles = s.profiles ∧
      (passRequest c s).1.segments = s.segments ∧
      (passRequest c s).1.cadence = s.cadence ∧
      (passRequest c s).1.inputs = s.inputs ∧
      (passRequest c s).1.verifier = s.verifier ∧
      (passRequest c s).1.events = s.events ∧
      (passRequest c s).1.us = s.us ∧
      (passRequest c s).1.phase = s.phase ∧
      (passRequest c s).1.free = s.free ∧
      (passRequest c s).1.portB = s.portB ∧
      (passRequest c s).1.regulatorOut = s.regulatorOut ∧
      (passRequest c s).1.pumpOut = s.pumpOut := by
  unfold passRequest
  try dsimp only
  (repeat' split) <;> simp

@[simp] theorem passMgmt_frame (c : Cell) (s : State) :
    (passMgmt c s).1.pending = s.pending ∧
      (passMgmt c s).1.handed = s.handed ∧
      (passMgmt c s).1.awaiting = s.awaiting ∧
      (passMgmt c s).1.written = s.written ∧
      (passMgmt c s).1.map = s.map ∧
      (passMgmt c s).1.store = s.store ∧
      (passMgmt c s).1.heads = s.heads ∧
      (passMgmt c s).1.zones = s.zones ∧
      (passMgmt c s).1.filters = s.filters ∧
      (passMgmt c s).1.reg = s.reg ∧
      (passMgmt c s).1.docks = s.docks ∧
      (passMgmt c s).1.idle = s.idle ∧
      (passMgmt c s).1.queues = s.queues ∧
      (passMgmt c s).1.lines = s.lines ∧
      (passMgmt c s).1.conds = s.conds ∧
      (passMgmt c s).1.profiles = s.profiles ∧
      (passMgmt c s).1.segments = s.segments ∧
      (passMgmt c s).1.cadence = s.cadence ∧
      (passMgmt c s).1.inputs = s.inputs ∧
      (passMgmt c s).1.verifier = s.verifier ∧
      (passMgmt c s).1.events = s.events ∧
      (passMgmt c s).1.us = s.us ∧
      (passMgmt c s).1.phase = s.phase ∧
      (passMgmt c s).1.free = s.free ∧
      (passMgmt c s).1.portB = s.portB ∧
      (passMgmt c s).1.regulatorOut = s.regulatorOut ∧
      (passMgmt c s).1.pumpOut = s.pumpOut := by
  unfold passMgmt
  try dsimp only
  (repeat' split) <;> simp

@[simp] theorem passCell_frame (c : Cell) (s : State) :
    (passCell c s).1.pending = s.pending ∧
      (passCell c s).1.awaiting = s.awaiting ∧
      (passCell c s).1.written = s.written ∧
      (passCell c s).1.map = s.map ∧
      (passCell c s).1.store = s.store ∧
      (passCell c s).1.heads = s.heads ∧
      (passCell c s).1.zones = s.zones ∧
      (passCell c s).1.filters = s.filters ∧
      (passCell c s).1.reg = s.reg ∧
      (passCell c s).1.docks = s.docks ∧
      (passCell c s).1.idle = s.idle ∧
      (passCell c s).1.queues = s.queues ∧
      (passCell c s).1.lines = s.lines ∧
      (passCell c s).1.conds = s.conds ∧
      (passCell c s).1.profiles = s.profiles ∧
      (passCell c s).1.segments = s.segments ∧
      (passCell c s).1.cadence = s.cadence ∧
      (passCell c s).1.inputs = s.inputs ∧
      (passCell c s).1.verifier = s.verifier ∧
      (passCell c s).1.us = s.us ∧
      (passCell c s).1.phase = s.phase ∧
      (passCell c s).1.free = s.free ∧
      (passCell c s).1.portB = s.portB ∧
      (passCell c s).1.regulatorOut = s.regulatorOut ∧
      (passCell c s).1.pumpOut = s.pumpOut := by
  unfold passCell
  try dsimp only
  (repeat' split) <;> simp

@[simp] theorem badEnd_frame (w : BadEnd) (l : List PortSymbol) (r : Reception) (s : State) :
    (badEnd w l r s).pending = s.pending ∧
      (badEnd w l r s).awaiting = s.awaiting ∧
      (badEnd w l r s).written = s.written ∧
      (badEnd w l r s).map = s.map ∧
      (badEnd w l r s).store = s.store ∧
      (badEnd w l r s).heads = s.heads ∧
      (badEnd w l r s).zones = s.zones ∧
      (badEnd w l r s).filters = s.filters ∧
      (badEnd w l r s).reg = s.reg ∧
      (badEnd w l r s).docks = s.docks ∧
      (badEnd w l r s).idle = s.idle ∧
      (badEnd w l r s).queues = s.queues ∧
      (badEnd w l r s).lines = s.lines ∧
      (badEnd w l r s).conds = s.conds ∧
      (badEnd w l r s).profiles = s.profiles ∧
      (badEnd w l r s).segments = s.segments ∧
      (badEnd w l r s).cadence = s.cadence ∧
      (badEnd w l r s).inputs = s.inputs ∧
      (badEnd w l r s).verifier = s.verifier ∧
      (badEnd w l r s).events = s.events ∧
      (badEnd w l r s).us = s.us ∧
      (badEnd w l r s).phase = s.phase ∧
      (badEnd w l r s).free = s.free ∧
      (badEnd w l r s).regulatorOut = s.regulatorOut ∧
      (badEnd w l r s).pumpOut = s.pumpOut := by
  simp [badEnd]

@[simp] theorem goodEnd_frame (s : State) :
    (goodEnd s).pending = s.pending ∧
      (goodEnd s).written = s.written ∧
      (goodEnd s).map = s.map ∧
      (goodEnd s).store = s.store ∧
      (goodEnd s).heads = s.heads ∧
      (goodEnd s).zones = s.zones ∧
      (goodEnd s).filters = s.filters ∧
      (goodEnd s).reg = s.reg ∧
      (goodEnd s).docks = s.docks ∧
      (goodEnd s).idle = s.idle ∧
      (goodEnd s).queues = s.queues ∧
      (goodEnd s).lines = s.lines ∧
      (goodEnd s).conds = s.conds ∧
      (goodEnd s).profiles = s.profiles ∧
      (goodEnd s).segments = s.segments ∧
      (goodEnd s).cadence = s.cadence ∧
      (goodEnd s).inputs = s.inputs ∧
      (goodEnd s).verifier = s.verifier ∧
      (goodEnd s).events = s.events ∧
      (goodEnd s).us = s.us ∧
      (goodEnd s).phase = s.phase ∧
      (goodEnd s).free = s.free ∧
      (goodEnd s).regulatorOut = s.regulatorOut ∧
      (goodEnd s).pumpOut = s.pumpOut := by
  unfold goodEnd
  try dsimp only
  (repeat' split) <;> simp

@[simp] theorem beginFrame_frame (s : State) :
    (beginFrame s).pending = s.pending ∧
      (beginFrame s).handed = s.handed ∧
      (beginFrame s).awaiting = s.awaiting ∧
      (beginFrame s).written = s.written ∧
      (beginFrame s).map = s.map ∧
      (beginFrame s).store = s.store ∧
      (beginFrame s).heads = s.heads ∧
      (beginFrame s).zones = s.zones ∧
      (beginFrame s).filters = s.filters ∧
      (beginFrame s).reg = s.reg ∧
      (beginFrame s).docks = s.docks ∧
      (beginFrame s).idle = s.idle ∧
      (beginFrame s).queues = s.queues ∧
      (beginFrame s).lines = s.lines ∧
      (beginFrame s).conds = s.conds ∧
      (beginFrame s).profiles = s.profiles ∧
      (beginFrame s).segments = s.segments ∧
      (beginFrame s).cadence = s.cadence ∧
      (beginFrame s).inputs = s.inputs ∧
      (beginFrame s).verifier = s.verifier ∧
      (beginFrame s).events = s.events ∧
      (beginFrame s).us = s.us ∧
      (beginFrame s).phase = s.phase ∧
      (beginFrame s).free = s.free ∧
      (beginFrame s).regulatorOut = s.regulatorOut ∧
      (beginFrame s).pumpOut = s.pumpOut := by
  simp [beginFrame]

@[simp] theorem rxStart_frame (s : State) :
    (rxStart s).pending = s.pending ∧
      (rxStart s).awaiting = s.awaiting ∧
      (rxStart s).written = s.written ∧
      (rxStart s).map = s.map ∧
      (rxStart s).store = s.store ∧
      (rxStart s).heads = s.heads ∧
      (rxStart s).zones = s.zones ∧
      (rxStart s).filters = s.filters ∧
      (rxStart s).reg = s.reg ∧
      (rxStart s).docks = s.docks ∧
      (rxStart s).idle = s.idle ∧
      (rxStart s).queues = s.queues ∧
      (rxStart s).lines = s.lines ∧
      (rxStart s).conds = s.conds ∧
      (rxStart s).profiles = s.profiles ∧
      (rxStart s).segments = s.segments ∧
      (rxStart s).cadence = s.cadence ∧
      (rxStart s).inputs = s.inputs ∧
      (rxStart s).verifier = s.verifier ∧
      (rxStart s).events = s.events ∧
      (rxStart s).us = s.us ∧
      (rxStart s).phase = s.phase ∧
      (rxStart s).free = s.free ∧
      (rxStart s).regulatorOut = s.regulatorOut ∧
      (rxStart s).pumpOut = s.pumpOut := by
  unfold rxStart
  try dsimp only
  (repeat' split) <;> simp

@[simp] theorem rxHeader_frame (o : Octet) (s : State) :
    (rxHeader o s).pending = s.pending ∧
      (rxHeader o s).awaiting = s.awaiting ∧
      (rxHeader o s).written = s.written ∧
      (rxHeader o s).map = s.map ∧
      (rxHeader o s).store = s.store ∧
      (rxHeader o s).heads = s.heads ∧
      (rxHeader o s).zones = s.zones ∧
      (rxHeader o s).filters = s.filters ∧
      (rxHeader o s).reg = s.reg ∧
      (rxHeader o s).docks = s.docks ∧
      (rxHeader o s).idle = s.idle ∧
      (rxHeader o s).queues = s.queues ∧
      (rxHeader o s).lines = s.lines ∧
      (rxHeader o s).conds = s.conds ∧
      (rxHeader o s).profiles = s.profiles ∧
      (rxHeader o s).segments = s.segments ∧
      (rxHeader o s).cadence = s.cadence ∧
      (rxHeader o s).inputs = s.inputs ∧
      (rxHeader o s).verifier = s.verifier ∧
      (rxHeader o s).events = s.events ∧
      (rxHeader o s).us = s.us ∧
      (rxHeader o s).phase = s.phase ∧
      (rxHeader o s).free = s.free ∧
      (rxHeader o s).regulatorOut = s.regulatorOut ∧
      (rxHeader o s).pumpOut = s.pumpOut := by
  unfold rxHeader
  try dsimp only
  (repeat' split) <;> simp

@[simp] theorem completeCell_frame (c : Cell) (s : State) :
    (completeCell c s).pending = s.pending ∧
      (completeCell c s).awaiting = s.awaiting ∧
      (completeCell c s).written = s.written ∧
      (completeCell c s).map = s.map ∧
      (completeCell c s).store = s.store ∧
      (completeCell c s).heads = s.heads ∧
      (completeCell c s).zones = s.zones ∧
      (completeCell c s).filters = s.filters ∧
      (completeCell c s).reg = s.reg ∧
      (completeCell c s).docks = s.docks ∧
      (completeCell c s).idle = s.idle ∧
      (completeCell c s).queues = s.queues ∧
      (completeCell c s).lines = s.lines ∧
      (completeCell c s).conds = s.conds ∧
      (completeCell c s).profiles = s.profiles ∧
      (completeCell c s).segments = s.segments ∧
      (completeCell c s).cadence = s.cadence ∧
      (completeCell c s).inputs = s.inputs ∧
      (completeCell c s).verifier = s.verifier ∧
      (completeCell c s).us = s.us ∧
      (completeCell c s).phase = s.phase ∧
      (completeCell c s).free = s.free ∧
      (completeCell c s).regulatorOut = s.regulatorOut ∧
      (completeCell c s).pumpOut = s.pumpOut := by
  unfold completeCell
  try dsimp only
  (repeat' split) <;> simp

@[simp] theorem rxCell_frame (o : Octet) (s : State) :
    (rxCell o s).pending = s.pending ∧
      (rxCell o s).awaiting = s.awaiting ∧
      (rxCell o s).written = s.written ∧
      (rxCell o s).map = s.map ∧
      (rxCell o s).store = s.store ∧
      (rxCell o s).heads = s.heads ∧
      (rxCell o s).zones = s.zones ∧
      (rxCell o s).filters = s.filters ∧
      (rxCell o s).reg = s.reg ∧
      (rxCell o s).docks = s.docks ∧
      (rxCell o s).idle = s.idle ∧
      (rxCell o s).queues = s.queues ∧
      (rxCell o s).lines = s.lines ∧
      (rxCell o s).conds = s.conds ∧
      (rxCell o s).profiles = s.profiles ∧
      (rxCell o s).segments = s.segments ∧
      (rxCell o s).cadence = s.cadence ∧
      (rxCell o s).inputs = s.inputs ∧
      (rxCell o s).verifier = s.verifier ∧
      (rxCell o s).us = s.us ∧
      (rxCell o s).phase = s.phase ∧
      (rxCell o s).free = s.free ∧
      (rxCell o s).regulatorOut = s.regulatorOut ∧
      (rxCell o s).pumpOut = s.pumpOut := by
  unfold rxCell
  try dsimp only
  (repeat' split) <;> simp

@[simp] theorem rxCheck_frame (o : Octet) (s : State) :
    (rxCheck o s).pending = s.pending ∧
      (rxCheck o s).awaiting = s.awaiting ∧
      (rxCheck o s).written = s.written ∧
      (rxCheck o s).map = s.map ∧
      (rxCheck o s).store = s.store ∧
      (rxCheck o s).heads = s.heads ∧
      (rxCheck o s).zones = s.zones ∧
      (rxCheck o s).filters = s.filters ∧
      (rxCheck o s).reg = s.reg ∧
      (rxCheck o s).docks = s.docks ∧
      (rxCheck o s).idle = s.idle ∧
      (rxCheck o s).queues = s.queues ∧
      (rxCheck o s).lines = s.lines ∧
      (rxCheck o s).conds = s.conds ∧
      (rxCheck o s).profiles = s.profiles ∧
      (rxCheck o s).segments = s.segments ∧
      (rxCheck o s).cadence = s.cadence ∧
      (rxCheck o s).inputs = s.inputs ∧
      (rxCheck o s).verifier = s.verifier ∧
      (rxCheck o s).events = s.events ∧
      (rxCheck o s).us = s.us ∧
      (rxCheck o s).phase = s.phase ∧
      (rxCheck o s).free = s.free ∧
      (rxCheck o s).regulatorOut = s.regulatorOut ∧
      (rxCheck o s).pumpOut = s.pumpOut := by
  unfold rxCheck
  try dsimp only
  (repeat' split) <;> simp

@[simp] theorem forwardOctet_frame (o : Octet) (s : State) :
    (forwardOctet o s).pending = s.pending ∧
      (forwardOctet o s).handed = s.handed ∧
      (forwardOctet o s).awaiting = s.awaiting ∧
      (forwardOctet o s).written = s.written ∧
      (forwardOctet o s).map = s.map ∧
      (forwardOctet o s).store = s.store ∧
      (forwardOctet o s).heads = s.heads ∧
      (forwardOctet o s).zones = s.zones ∧
      (forwardOctet o s).filters = s.filters ∧
      (forwardOctet o s).reg = s.reg ∧
      (forwardOctet o s).docks = s.docks ∧
      (forwardOctet o s).idle = s.idle ∧
      (forwardOctet o s).queues = s.queues ∧
      (forwardOctet o s).lines = s.lines ∧
      (forwardOctet o s).conds = s.conds ∧
      (forwardOctet o s).profiles = s.profiles ∧
      (forwardOctet o s).segments = s.segments ∧
      (forwardOctet o s).cadence = s.cadence ∧
      (forwardOctet o s).inputs = s.inputs ∧
      (forwardOctet o s).verifier = s.verifier ∧
      (forwardOctet o s).events = s.events ∧
      (forwardOctet o s).us = s.us ∧
      (forwardOctet o s).phase = s.phase ∧
      (forwardOctet o s).free = s.free ∧
      (forwardOctet o s).regulatorOut = s.regulatorOut ∧
      (forwardOctet o s).pumpOut = s.pumpOut := by
  unfold forwardOctet
  try dsimp only
  (repeat' split) <;> simp

@[simp] theorem rxOctet_frame (o : Octet) (s : State) :
    (rxOctet o s).pending = s.pending ∧
      (rxOctet o s).awaiting = s.awaiting ∧
      (rxOctet o s).written = s.written ∧
      (rxOctet o s).map = s.map ∧
      (rxOctet o s).store = s.store ∧
      (rxOctet o s).heads = s.heads ∧
      (rxOctet o s).zones = s.zones ∧
      (rxOctet o s).filters = s.filters ∧
      (rxOctet o s).reg = s.reg ∧
      (rxOctet o s).docks = s.docks ∧
      (rxOctet o s).idle = s.idle ∧
      (rxOctet o s).queues = s.queues ∧
      (rxOctet o s).lines = s.lines ∧
      (rxOctet o s).conds = s.conds ∧
      (rxOctet o s).profiles = s.profiles ∧
      (rxOctet o s).segments = s.segments ∧
      (rxOctet o s).cadence = s.cadence ∧
      (rxOctet o s).inputs = s.inputs ∧
      (rxOctet o s).verifier = s.verifier ∧
      (rxOctet o s).us = s.us ∧
      (rxOctet o s).phase = s.phase ∧
      (rxOctet o s).free = s.free ∧
      (rxOctet o s).regulatorOut = s.regulatorOut ∧
      (rxOctet o s).pumpOut = s.pumpOut := by
  unfold rxOctet
  try dsimp only
  (repeat' split) <;> simp

@[simp] theorem rxOctets_frame (l : List Octet) (s : State) :
    (rxOctets l s).pending = s.pending ∧
      (rxOctets l s).awaiting = s.awaiting ∧
      (rxOctets l s).written = s.written ∧
      (rxOctets l s).map = s.map ∧
      (rxOctets l s).store = s.store ∧
      (rxOctets l s).heads = s.heads ∧
      (rxOctets l s).zones = s.zones ∧
      (rxOctets l s).filters = s.filters ∧
      (rxOctets l s).reg = s.reg ∧
      (rxOctets l s).docks = s.docks ∧
      (rxOctets l s).idle = s.idle ∧
      (rxOctets l s).queues = s.queues ∧
      (rxOctets l s).lines = s.lines ∧
      (rxOctets l s).conds = s.conds ∧
      (rxOctets l s).profiles = s.profiles ∧
      (rxOctets l s).segments = s.segments ∧
      (rxOctets l s).cadence = s.cadence ∧
      (rxOctets l s).inputs = s.inputs ∧
      (rxOctets l s).verifier = s.verifier ∧
      (rxOctets l s).us = s.us ∧
      (rxOctets l s).phase = s.phase ∧
      (rxOctets l s).free = s.free ∧
      (rxOctets l s).regulatorOut = s.regulatorOut ∧
      (rxOctets l s).pumpOut = s.pumpOut := by
  simp [rxOctets, foldl_leaves State.pending, foldl_leaves State.awaiting,
    foldl_leaves State.written, foldl_leaves State.map, foldl_leaves State.store,
    foldl_leaves State.heads, foldl_leaves State.zones, foldl_leaves State.filters,
    foldl_leaves State.reg, foldl_leaves State.docks, foldl_leaves State.idle,
    foldl_leaves State.queues, foldl_leaves State.lines, foldl_leaves State.conds,
    foldl_leaves State.profiles, foldl_leaves State.segments, foldl_leaves State.cadence,
    foldl_leaves State.inputs, foldl_leaves State.verifier, foldl_leaves State.us,
    foldl_leaves State.phase, foldl_leaves State.free, foldl_leaves State.regulatorOut,
    foldl_leaves State.pumpOut]

@[simp] theorem rxEnd_frame (s : State) :
    (rxEnd s).pending = s.pending ∧
      (rxEnd s).written = s.written ∧
      (rxEnd s).map = s.map ∧
      (rxEnd s).store = s.store ∧
      (rxEnd s).heads = s.heads ∧
      (rxEnd s).zones = s.zones ∧
      (rxEnd s).filters = s.filters ∧
      (rxEnd s).reg = s.reg ∧
      (rxEnd s).docks = s.docks ∧
      (rxEnd s).idle = s.idle ∧
      (rxEnd s).queues = s.queues ∧
      (rxEnd s).lines = s.lines ∧
      (rxEnd s).conds = s.conds ∧
      (rxEnd s).profiles = s.profiles ∧
      (rxEnd s).segments = s.segments ∧
      (rxEnd s).cadence = s.cadence ∧
      (rxEnd s).inputs = s.inputs ∧
      (rxEnd s).verifier = s.verifier ∧
      (rxEnd s).events = s.events ∧
      (rxEnd s).us = s.us ∧
      (rxEnd s).phase = s.phase ∧
      (rxEnd s).free = s.free ∧
      (rxEnd s).regulatorOut = s.regulatorOut ∧
      (rxEnd s).pumpOut = s.pumpOut := by
  unfold rxEnd
  try dsimp only
  (repeat' split) <;> simp

@[simp] theorem rxAbort_frame (s : State) :
    (rxAbort s).pending = s.pending ∧
      (rxAbort s).awaiting = s.awaiting ∧
      (rxAbort s).written = s.written ∧
      (rxAbort s).map = s.map ∧
      (rxAbort s).store = s.store ∧
      (rxAbort s).heads = s.heads ∧
      (rxAbort s).zones = s.zones ∧
      (rxAbort s).filters = s.filters ∧
      (rxAbort s).reg = s.reg ∧
      (rxAbort s).docks = s.docks ∧
      (rxAbort s).idle = s.idle ∧
      (rxAbort s).queues = s.queues ∧
      (rxAbort s).lines = s.lines ∧
      (rxAbort s).conds = s.conds ∧
      (rxAbort s).profiles = s.profiles ∧
      (rxAbort s).segments = s.segments ∧
      (rxAbort s).cadence = s.cadence ∧
      (rxAbort s).inputs = s.inputs ∧
      (rxAbort s).verifier = s.verifier ∧
      (rxAbort s).events = s.events ∧
      (rxAbort s).us = s.us ∧
      (rxAbort s).phase = s.phase ∧
      (rxAbort s).free = s.free ∧
      (rxAbort s).regulatorOut = s.regulatorOut ∧
      (rxAbort s).pumpOut = s.pumpOut := by
  unfold rxAbort
  try dsimp only
  (repeat' split) <;> simp

@[simp] theorem rxIdle_frame (s : State) :
    (rxIdle s).pending = s.pending ∧
      (rxIdle s).awaiting = s.awaiting ∧
      (rxIdle s).written = s.written ∧
      (rxIdle s).map = s.map ∧
      (rxIdle s).store = s.store ∧
      (rxIdle s).heads = s.heads ∧
      (rxIdle s).zones = s.zones ∧
      (rxIdle s).filters = s.filters ∧
      (rxIdle s).reg = s.reg ∧
      (rxIdle s).docks = s.docks ∧
      (rxIdle s).idle = s.idle ∧
      (rxIdle s).queues = s.queues ∧
      (rxIdle s).lines = s.lines ∧
      (rxIdle s).conds = s.conds ∧
      (rxIdle s).profiles = s.profiles ∧
      (rxIdle s).segments = s.segments ∧
      (rxIdle s).cadence = s.cadence ∧
      (rxIdle s).inputs = s.inputs ∧
      (rxIdle s).verifier = s.verifier ∧
      (rxIdle s).events = s.events ∧
      (rxIdle s).us = s.us ∧
      (rxIdle s).phase = s.phase ∧
      (rxIdle s).free = s.free ∧
      (rxIdle s).regulatorOut = s.regulatorOut ∧
      (rxIdle s).pumpOut = s.pumpOut := by
  unfold rxIdle
  try dsimp only
  (repeat' split) <;> simp

@[simp] theorem rxLoss_frame (s : State) :
    (rxLoss s).pending = s.pending ∧
      (rxLoss s).awaiting = s.awaiting ∧
      (rxLoss s).written = s.written ∧
      (rxLoss s).map = s.map ∧
      (rxLoss s).store = s.store ∧
      (rxLoss s).heads = s.heads ∧
      (rxLoss s).zones = s.zones ∧
      (rxLoss s).filters = s.filters ∧
      (rxLoss s).reg = s.reg ∧
      (rxLoss s).docks = s.docks ∧
      (rxLoss s).idle = s.idle ∧
      (rxLoss s).queues = s.queues ∧
      (rxLoss s).lines = s.lines ∧
      (rxLoss s).conds = s.conds ∧
      (rxLoss s).profiles = s.profiles ∧
      (rxLoss s).segments = s.segments ∧
      (rxLoss s).cadence = s.cadence ∧
      (rxLoss s).inputs = s.inputs ∧
      (rxLoss s).verifier = s.verifier ∧
      (rxLoss s).events = s.events ∧
      (rxLoss s).us = s.us ∧
      (rxLoss s).phase = s.phase ∧
      (rxLoss s).free = s.free ∧
      (rxLoss s).regulatorOut = s.regulatorOut ∧
      (rxLoss s).pumpOut = s.pumpOut := by
  unfold rxLoss
  try dsimp only
  (repeat' split) <;> simp

@[simp] theorem rxTail_frame (x : FrameTail) (s : State) :
    (rxTail x s).pending = s.pending ∧
      (rxTail x s).written = s.written ∧
      (rxTail x s).map = s.map ∧
      (rxTail x s).store = s.store ∧
      (rxTail x s).heads = s.heads ∧
      (rxTail x s).zones = s.zones ∧
      (rxTail x s).filters = s.filters ∧
      (rxTail x s).reg = s.reg ∧
      (rxTail x s).docks = s.docks ∧
      (rxTail x s).idle = s.idle ∧
      (rxTail x s).queues = s.queues ∧
      (rxTail x s).lines = s.lines ∧
      (rxTail x s).conds = s.conds ∧
      (rxTail x s).profiles = s.profiles ∧
      (rxTail x s).segments = s.segments ∧
      (rxTail x s).cadence = s.cadence ∧
      (rxTail x s).inputs = s.inputs ∧
      (rxTail x s).verifier = s.verifier ∧
      (rxTail x s).events = s.events ∧
      (rxTail x s).us = s.us ∧
      (rxTail x s).phase = s.phase ∧
      (rxTail x s).free = s.free ∧
      (rxTail x s).regulatorOut = s.regulatorOut ∧
      (rxTail x s).pumpOut = s.pumpOut := by
  unfold rxTail
  try dsimp only
  (repeat' split) <;> simp

@[simp] theorem arriveCell_frame (c : Cell) (s : State) :
    (arriveCell c s).pending = s.pending ∧
      (arriveCell c s).awaiting = s.awaiting ∧
      (arriveCell c s).written = s.written ∧
      (arriveCell c s).map = s.map ∧
      (arriveCell c s).store = s.store ∧
      (arriveCell c s).heads = s.heads ∧
      (arriveCell c s).zones = s.zones ∧
      (arriveCell c s).filters = s.filters ∧
      (arriveCell c s).reg = s.reg ∧
      (arriveCell c s).docks = s.docks ∧
      (arriveCell c s).idle = s.idle ∧
      (arriveCell c s).queues = s.queues ∧
      (arriveCell c s).lines = s.lines ∧
      (arriveCell c s).conds = s.conds ∧
      (arriveCell c s).profiles = s.profiles ∧
      (arriveCell c s).segments = s.segments ∧
      (arriveCell c s).cadence = s.cadence ∧
      (arriveCell c s).inputs = s.inputs ∧
      (arriveCell c s).verifier = s.verifier ∧
      (arriveCell c s).us = s.us ∧
      (arriveCell c s).phase = s.phase ∧
      (arriveCell c s).free = s.free ∧
      (arriveCell c s).regulatorOut = s.regulatorOut ∧
      (arriveCell c s).pumpOut = s.pumpOut := by
  unfold arriveCell
  try dsimp only
  (repeat' split) <;> simp

/-! ### Resets -/

@[simp] theorem goThrough_frame (s : State) :
    (goThrough s).pending = s.pending ∧
      (goThrough s).handed = s.handed ∧
      (goThrough s).awaiting = s.awaiting ∧
      (goThrough s).written = s.written ∧
      (goThrough s).map = s.map ∧
      (goThrough s).store = s.store ∧
      (goThrough s).heads = s.heads ∧
      (goThrough s).zones = s.zones ∧
      (goThrough s).filters = s.filters ∧
      (goThrough s).reg = s.reg ∧
      (goThrough s).docks = s.docks ∧
      (goThrough s).idle = s.idle ∧
      (goThrough s).queues = s.queues ∧
      (goThrough s).lines = s.lines ∧
      (goThrough s).conds = s.conds ∧
      (goThrough s).profiles = s.profiles ∧
      (goThrough s).segments = s.segments ∧
      (goThrough s).cadence = s.cadence ∧
      (goThrough s).inputs = s.inputs ∧
      (goThrough s).verifier = s.verifier ∧
      (goThrough s).events = s.events ∧
      (goThrough s).us = s.us ∧
      (goThrough s).phase = s.phase ∧
      (goThrough s).free = s.free ∧
      (goThrough s).regulatorOut = s.regulatorOut ∧
      (goThrough s).pumpOut = s.pumpOut := by
  unfold goThrough
  try dsimp only
  (repeat' split) <;> simp

@[simp] theorem applyReset_frame (c : Scope) (n : Option Nat) (s : State) :
    (applyReset c n s).pending = s.pending ∧
      (applyReset c n s).awaiting = s.awaiting ∧
      (applyReset c n s).written = s.written ∧
      (applyReset c n s).map = s.map ∧
      (applyReset c n s).store = s.store ∧
      (applyReset c n s).heads = s.heads ∧
      (applyReset c n s).zones = s.zones ∧
      (applyReset c n s).filters = s.filters ∧
      (applyReset c n s).reg = s.reg ∧
      (applyReset c n s).docks = s.docks ∧
      (applyReset c n s).idle = s.idle ∧
      (applyReset c n s).queues = s.queues ∧
      (applyReset c n s).lines = s.lines ∧
      (applyReset c n s).conds = s.conds ∧
      (applyReset c n s).profiles = s.profiles ∧
      (applyReset c n s).segments = s.segments ∧
      (applyReset c n s).cadence = s.cadence ∧
      (applyReset c n s).inputs = s.inputs ∧
      (applyReset c n s).verifier = s.verifier ∧
      (applyReset c n s).events = s.events ∧
      (applyReset c n s).us = s.us ∧
      (applyReset c n s).phase = s.phase ∧
      (applyReset c n s).free = s.free ∧
      (applyReset c n s).regulatorOut = s.regulatorOut ∧
      (applyReset c n s).pumpOut = s.pumpOut := by
  unfold applyReset
  try dsimp only
  (repeat' split) <;> simp

end Sys2Proof.Machine
end

