-- ==== Sys2Proof/Laws/Ops.lean ====
section
/-! SUPPORT. What each shared operation does, once: tables, octets and codes, the two check
sequences, whole cells, zones of one head, setpoints and codes, safe hold, orders and groups.  Later
proofs cite these and never unfold the operations. -/

namespace Sys2Proof.Machine

open Sys2Proof

/-! ### Tables -/

@[simp] theorem Tab.upd_upd {n : Nat} {α : Type} (t : Tab n α) (i : Fin n) (x y : α) :
    Tab.upd (Tab.upd t i x) i y = Tab.upd t i y := by
  apply Tab.ext_get
  intro j
  simp only [Tab.get_upd]
  split <;> rfl

theorem Tab.ofFn_get {n : Nat} {α : Type} (t : Tab n α) : (Tab.ofFn fun i => Tab.get t i) = t := by
  apply Tab.ext_get
  simp

theorem Tab.mapT_all {n : Nat} {α β : Type} (f : α → β) (b : β) (t : Tab n α) (h : ∀ a, f a = b) :
    Tab.mapT f t = Tab.all n b := by
  apply Tab.ext_get
  intro i
  simp [h]

/-! ### Handed events -/

theorem State.takeUp_of_not_mem {c : Instr} {s : State} (h : c ∉ s.handed) : s.takeUp c = s := by
  simp [State.takeUp, List.erase_of_not_mem h, h]

theorem State.mem_takeUp {c i : Instr} {s : State} (h : i ∈ (s.takeUp c).handed) : i ∈ s.handed := by
  simp only [State.takeUp] at h
  exact List.mem_of_mem_erase h

@[simp] theorem State.handed_hand (s : State) (c : Instr) : (s.hand c).handed = s.handed ++ [c] := rfl

@[simp] theorem State.handed_handAll (s : State) (cs : List Instr) :
    (s.handAll cs).handed = s.handed ++ cs := rfl

@[simp] theorem State.handed_raise (s : State) (k : EventKind) (src : Source) (a b : Word16) :
    (s.raise k src a b).handed = s.handed ++ [.eventRaise k src a b] := rfl

/-- An event other than the one taken up is waiting exactly when it was. -/
theorem State.mem_takeUp_of_ne {c i : Instr} {s : State} (h : i ≠ c) :
    i ∈ (s.takeUp c).handed ↔ i ∈ s.handed := by
  simp only [State.takeUp]
  exact List.mem_erase_of_ne h

@[simp] theorem State.handed_await (s : State) (n : Nat) (cs : List Instr) :
    (s.await n cs).handed = s.handed := rfl

@[simp] theorem State.awaiting_await (s : State) (n : Nat) (cs : List Instr) :
    (s.await n cs).awaiting = s.awaiting ++ cs.map fun c => ⟨n, c⟩ := rfl

@[simp] theorem State.portB_idles (s : State) : s.idles.portB = s.portB ++ [.idleSymbol] := rfl

/-- The period of a RESET waits exactly while a hand-over of its frame does. -/
theorem State.resetAwaits_iff (s : State) :
    s.resetAwaits = true ↔ ∃ x ∈ s.awaiting, s.ring.resetFrame = some x.frame := by
  simp only [State.resetAwaits, List.any_eq_true, beq_iff_eq, @eq_comm _ s.ring.resetFrame]

/-- A gate that is open under verify-before-run has a VERIFIED group. -/
theorem State.gateOpen_iff (s : State) (g : Group) :
    s.gateOpen g = true ↔ (s.verifier.vbr = true → (s.verifier.group g).state = .verified) := by
  cases h : s.verifier.vbr <;> simp [State.gateOpen, State.groupVerified, h]

/-- A gate that looks at waiting writes and is open under verify-before-run has a VERIFIED group,
and no write to its own entries waits for its notice to be taken. -/
theorem State.gateOpenFor_iff (s : State) (g : Group) (own : WrittenEntry → Bool) :
    s.gateOpenFor g own = true ↔
      (s.verifier.vbr = true →
        (s.verifier.group g).state = .verified ∧ ∀ x ∈ s.written, own x = false) := by
  cases h : s.verifier.vbr <;> simp [State.gateOpenFor, State.groupVerified, h]

/-- What the ZONE gate of a START of head `h` asks. -/
theorem State.zoneGateOpen_iff (s : State) (h : Head) :
    s.zoneGateOpen h = true ↔
      (s.verifier.vbr = true →
        s.verifier.zone.state = .verified ∧ ∀ c, headOfZone c = h → .zone c ∉ s.written) := by
  rw [State.zoneGateOpen, State.gateOpenFor_iff]
  refine imp_congr_right fun _ => and_congr_right fun _ => ⟨fun H c hc hm => ?_, fun H x hx => ?_⟩
  · simpa [WrittenEntry.ofHead, hc] using H _ hm
  · cases x with
    | zone c => simpa [WrittenEntry.ofHead] using fun hc => H c hc hx
    | _ => rfl

/-- What the LINE gate of an order of line `i` asks. -/
theorem State.lineGateOpen_iff (s : State) (i : LineIx) :
    s.lineGateOpen i = true ↔
      (s.verifier.vbr = true → s.verifier.line.state = .verified ∧ .line i ∉ s.written) := by
  rw [State.lineGateOpen, State.gateOpenFor_iff]
  refine imp_congr_right fun _ => and_congr_right fun _ => ⟨fun H hm => ?_, fun H x hx => ?_⟩
  · simpa [WrittenEntry.ofLine] using H _ hm
  · cases x with
    | line j =>
      have hj : j ≠ i := fun hj => H (hj ▸ hx)
      simpa [WrittenEntry.ofLine] using hj
    | _ => rfl

/-- What the SWEEP gate of profile `k` asks. -/
theorem State.sweepGateOpen_iff (s : State) (k : Fin 8) :
    s.sweepGateOpen k = true ↔
      (s.verifier.vbr = true →
        s.verifier.sweep.state = .verified ∧
          ∀ x ∈ s.written, WrittenEntry.ofProfile s k x = false) :=
  State.gateOpenFor_iff s .sweep _

/-- Only a write notice is taken with a written entry. -/
theorem State.written_takeUp_of_ne {c : Instr} {s : State} (h : ∀ g, c ≠ .writeNotice g) :
    (s.takeUp c).written = s.written := by
  have : s.written.eraseP (fun x => c == .writeNotice (WrittenEntry.group x)) = s.written :=
    List.eraseP_of_forall_not fun x _ => by simpa using h (WrittenEntry.group x)
  simp [State.takeUp, this]

/-- Outside a transparent period every tick goes on. -/
theorem tickGoesOn_of_clear {s : State} (h : s.ring.transparent = false) : tickGoesOn s := by
  simp [tickGoesOn, h]

/-! ### Regulator Port -/

/-- A port that sends waits for its word to end. -/
theorem State.kickPort_of_inHand {s : State} {c : Chan} (h : s.reg.inHand = some c) :
    s.kickPort = s := by
  simp [State.kickPort, h]

/-- A port with no mark pending has nothing to send. -/
theorem State.kickPort_of_lowest {s : State} (h : RegulatorPort.lowest s.reg = none) :
    s.kickPort = s := by
  simp only [State.kickPort, h]
  split <;> rfl

/-- After it has started, the port sends or has nothing pending, so starting it again changes
nothing. -/
theorem State.kickPort_kickPort (s : State) : s.kickPort.kickPort = s.kickPort := by
  cases h : s.reg.inHand with
  | some c => simp [State.kickPort, h]
  | none =>
    cases h' : RegulatorPort.lowest s.reg with
    | none => simp [State.kickPort, h, h']
    | some c => simp [State.kickPort, h, h']

/-! ### Octets and codes -/

theorem octet_toNat {n : Nat} (h : n ≤ 255) : (oct n).toNat = n := by
  simp only [oct, BitVec.toNat_ofNat]
  omega

theorem two_octets_spell {n : Nat} (h : n ≤ 65535) :
    256 * (oct (n / 256)).toNat + (oct n).toNat = n := by
  simp only [oct, BitVec.toNat_ofNat]
  omega

theorem octAt_le (l : List Octet) (i : Nat) : octAt l i ≤ 255 := by
  have h := (l.getD i 0).isLt
  simp only [octAt]
  omega

theorem octAt16_le (l : List Octet) (i : Nat) : octAt16 l i ≤ 65535 := by
  have h := octAt_le l i
  have h' := octAt_le l (i + 1)
  simp only [octAt16]
  omega

theorem dirOf_code (d : Dir) : dirOf (oct (dirCode d)).toNat = some d := by cases d <;> rfl

theorem classOf_code (c : ObjClass) : classOf (oct (classCode c)).toNat = some c := by
  cases c <;> rfl

theorem rangeOf_code (r : PressureRange) : rangeOf (oct (rangeCode r)).toNat = some r := by
  cases r <;> rfl

theorem bandActionOf_code (a : BandAction) :
    bandActionOf (oct (bandActionCode a)).toNat = some a := by cases a <;> rfl

theorem endKindOf_code (k : EndKind) : endKindOf (oct (endKindCode k)).toNat = some k := by
  cases k <;> rfl

theorem stepCondOf_code (c : StepCond) : stepCondOf (oct (stepCondCode c)).toNat = some c := by
  cases c <;> rfl

theorem boolOf_code (b : Bool) : boolOf (oct (boolCode b)).toNat = some b := by cases b <;> rfl

theorem flowActionOf_code (a : FlowAction) :
    flowActionOf (oct (flowActionCode a)).toNat = some a := by cases a <;> rfl

theorem inputFnOf_code (f : InputFn) : inputFnOf (oct (inputFnCode f)).toNat = some f := by
  cases f <;> rfl

theorem inputModeOf_code (m : InputMode) : inputModeOf (oct (inputModeCode m)).toNat = some m := by
  cases m <;> rfl

theorem kindOf_code (k : EventKind) : kindOf (kindCode k).val = some k := by cases k <;> rfl

/-! ### Check sequences -/

@[simp] theorem crc32Run_nil (r : BitVec 32) : crc32Run r [] = r := rfl

theorem crc32Run_cons (r : BitVec 32) (o : Octet) (os : List Octet) :
    crc32Run r (o :: os) = crc32Run (crc32Octet r o) os := by
  rw [crc32Run]
  split
  · next h => rw [h]
  · rfl

theorem crc32Run_append (r : BitVec 32) (a b : List Octet) :
    crc32Run r (a ++ b) = crc32Run (crc32Run r a) b := by
  induction a generalizing r with
  | nil => rfl
  | cons o os ih => rw [List.cons_append, crc32Run_cons, ih, crc32Run_cons]

theorem crc16Run_cons (r : BitVec 16) (o : Octet) (os : List Octet) :
    crc16Run r (o :: os) = crc16Run (crc16Octet r o) os := by
  rw [crc16Run]
  split
  · next h => rw [h]
  · rfl

theorem crc16Run_append (r : BitVec 16) (a b : List Octet) :
    crc16Run r (a ++ b) = crc16Run (crc16Run r a) b := by
  induction a generalizing r with
  | nil => rfl
  | cons o os ih => rw [List.cons_append, crc16Run_cons, ih, crc16Run_cons]

theorem fcsValue_octets (v : BitVec 32) : fcsValue (fcsOctets v) = v := by
  simp only [fcsValue, fcsOctets, be32, octAt16, octAt, oct]
  apply BitVec.eq_of_toNat_eq
  have := v.isLt
  simp
  omega

/-! ### The Ring Interface -/

theorem acting_facts {r : Ring} (h : r.acting = true) :
    r.reception.inFrame = true ∧ r.through = false := by
  simpa [Ring.acting] using h

theorem takesWhole_facts {c : Cell} {r : Ring} (h : takesWhole c r = true) :
    r.reception = .cells ∧ r.through = false ∧ r.frame.buf = [] ∧ knownKind c.kind = true ∧
      c.payload.length ≤ 48 ∧ r.frame.octets + 5 + c.payload.length ≤ 1536 := by
  simp only [takesWhole, maxFrameOctets, Bool.and_eq_true, beq_iff_eq, Bool.not_eq_true'] at h
  obtain ⟨⟨⟨⟨⟨h1, h2⟩, h3⟩, h4⟩, h5⟩, h6⟩ := h
  exact ⟨h1, h2, h3, h4, by simpa using h5, of_decide_eq_true h6⟩

/-- The state in which a whole cell is passed: its octets are counted and in hand. -/
def State.holding (s : State) (c : Cell) : State :=
  s.setFrame
    { s.ring.frame with
      rxCrc := crc32Run s.ring.frame.rxCrc (Cell.octets c)
      octets := s.ring.frame.octets + 5 + c.payload.length
      buf := Cell.octets c }
    .cells

theorem arriveCell_whole {c : Cell} {s : State} (h : takesWhole c s.ring = true) :
    arriveCell c s = completeCell c (s.holding c) := by
  simp [arriveCell, h, State.holding]

/-! ### Zones of one head -/

@[simp] theorem headOfZone_zoneCh (h : Head) (z : Zone) : headOfZone (zoneCh h z) = h := by
  apply Fin.ext
  simp only [headOfZone, zoneCh]
  omega

theorem zoneCh_of_head {h : Head} {c : ZoneCh} (hc : headOfZone c = h) : ∃ z, zoneCh h z = c := by
  subst hc
  refine ⟨⟨c.val % 7, by omega⟩, ?_⟩
  apply Fin.ext
  simp only [zoneCh, headOfZone]
  omega

theorem zoneCh_inj {h : Head} {y z : Zone} (e : zoneCh h y = zoneCh h z) : y = z := by
  have e' := congrArg Fin.val e
  simp only [zoneCh] at e'
  apply Fin.ext
  omega

theorem foldl_maskZone (h : Head) (l : List Zone) (s : State) :
    l.foldl (maskZone h) s =
      { s with
        zones :=
          Tab.ofFn fun c =>
            if headOfZone c = h ∧ ∃ z ∈ l, zoneCh h z = c then
              { s.zones.get c with ramping := true, settle := 0 }
            else s.zones.get c } := by
  induction l generalizing s with
  | nil =>
    have e := Tab.ofFn_get s.zones
    simp [e]
  | cons a l ih =>
    rw [List.foldl_cons, ih]
    have hz :
        (maskZone h s a).zones =
          s.zones.upd (zoneCh h a) { s.zoneOf h a with ramping := true, settle := 0 } := rfl
    have key : ∀ c,
        (if headOfZone c = h ∧ ∃ z ∈ l, zoneCh h z = c then
            { (maskZone h s a).zones.get c with ramping := true, settle := 0 }
          else (maskZone h s a).zones.get c) =
          if headOfZone c = h ∧ ∃ z ∈ a :: l, zoneCh h z = c then
            { s.zones.get c with ramping := true, settle := 0 }
          else s.zones.get c := by
      intro c
      rw [hz, Tab.get_upd]
      by_cases he : zoneCh h a = c
      · subst he
        simp [State.zoneOf]
      · simp [he]
    simp only [key]
    rfl

/-- A step start masks all seven zones of its head and no other. -/
theorem maskZones_eq (h : Head) (s : State) :
    maskZones h s =
      { s with
        zones :=
          Tab.ofFn fun c =>
            if headOfZone c = h then { s.zones.get c with ramping := true, settle := 0 }
            else s.zones.get c } := by
  rw [maskZones, foldl_maskZone]
  have e : ∀ c, (headOfZone c = h ∧ ∃ z ∈ List.finRange 7, zoneCh h z = c) ↔ headOfZone c = h := by
    intro c
    refine ⟨fun x => x.1, fun hc => ⟨hc, ?_⟩⟩
    obtain ⟨z, hz⟩ := zoneCh_of_head hc
    exact ⟨z, by simp, hz⟩
  simp only [e]

/-! ### Setpoints and codes -/

@[simp] theorem regulatorCode_zero (r : PressureRange) : regulatorCode r 0 = 0 := by
  cases r <;> rfl

theorem regulatorCode_le (r : PressureRange) (v : Nat) : regulatorCode r v ≤ 4095 := by
  cases r <;> exact Nat.min_le_right _ _

/-- What setting a setpoint does to the zones: one zone's setpoint, code and SATURATED mark. -/
theorem State.setSetpoint_zones (s : State) (c : ZoneCh) (v : Nat) :
    (s.setSetpoint c v).zones =
      s.zones.upd c
        { s.zones.get c with
          setpoint := v, code := regulatorCode (s.zoneConfig c).range v
          saturated := decide (regulatorCode (s.zoneConfig c).range v = 4095) } := by
  simp only [State.setSetpoint]
  split <;> simp

/-- What setting a setpoint hands: SATURATED, at entry to code 4095. -/
theorem State.setSetpoint_handed (s : State) (c : ZoneCh) (v : Nat) :
    (s.setSetpoint c v).handed =
      s.handed ++
        (if regulatorCode (s.zoneConfig c).range v = 4095 ∧ (s.zones.get c).saturated = false then
          [.eventRaise .saturated (.zone c) (w16 v) (w16 (rangeCode (s.zoneConfig c).range))]
        else []) := by
  simp only [State.setSetpoint]
  split <;> simp

theorem approach_between (cur goal rate : Nat) :
    min cur goal ≤ approach cur goal rate ∧ approach cur goal rate ≤ max cur goal := by
  unfold approach
  split
  · omega
  · split <;> split <;> omega

theorem clampNat_le (lo hi x : Nat) : clampNat lo hi x ≤ hi := Nat.min_le_right _ _

theorem setpointUnder_le (st : HeadState) (e : ZoneConfig) (v : Nat) :
    setpointUnder st e v ≤ e.ceiling := by
  cases st <;> simp [setpointUnder, clampNat_le]

/-- What CLEAR does at one zone. -/
theorem clearZone_eq (h : Head) (s : State) (z : Zone) :
    clearZone h s z =
      { s with
        zones :=
          s.zones.upd (zoneCh h z)
            { s.zoneOf h z with
              setpoint := 0, code := 0, ramping := false, settle := 0, diffLimited := false
              saturated := false, debounce := 0, excursion := false, monitorStale := false }
        reg :=
          { s.reg with
            pending :=
              if (s.zoneOf h z).code ≠ 0 ∧ s.reg.last.get (chanOfZone (zoneCh h z)) ≠ 0 then
                s.reg.pending.upd (chanOfZone (zoneCh h z)) true
              else s.reg.pending } } := by
  unfold clearZone State.setSetpoint
  simp only [regulatorCode_zero, State.markChange]
  by_cases h1 : (s.zones.get (zoneCh h z)).code = 0
  · simp [State.setZone, h1, State.zoneOf]
  · have h1' : ¬0 = (s.zones.get (zoneCh h z)).code := fun e => h1 e.symm
    by_cases h2 : s.reg.last.get (chanOfZone (zoneCh h z)) = 0
    · simp [State.setZone, h1, h2, State.zoneOf]
    · have h2' : ¬0 = s.reg.last.get (chanOfZone (zoneCh h z)) := fun e => h2 e.symm
      simp [State.setZone, State.setReg, h1, h1', h2, h2', State.zoneOf]

/-! ### Safe hold -/

theorem safeSubstate_eq (s : State) (h : Head) :
    s.safeSubstate h =
      if ∀ z : Zone, (s.zoneOf h z).setpoint = (s.zoneConfig (zoneCh h z)).safeValue then .settled
      else .settling := by
  unfold State.safeSubstate
  have e :
      s.atSafeValues h = true ↔
        ∀ z : Zone, (s.zoneOf h z).setpoint = (s.zoneConfig (zoneCh h z)).safeValue := by
    simp [State.atSafeValues]
  simp only [e]

/-- Everything the entry to SAFE_HOLD does (R35). -/
theorem enterSafeHold_eq (h : Head) (cause : SafeCause) (s : State) :
    enterSafeHold h cause s =
      { s with
        heads :=
          s.heads.upd h
            { s.heads.get h with
              state := .safeHold, cause := cause, skip := false, substate := s.safeSubstate h }
        handed := s.handed ++ safeHoldEvents h cause (s.heads.get h) (s.platenOf h) } := by
  have hsub : ∀ l, State.safeSubstate { s with handed := l } h = s.safeSubstate h := fun _ => rfl
  have hpl : ∀ l, (s.setHanded l).platenOf h = s.platenOf h := fun _ => rfl
  unfold enterSafeHold safeHoldEvents
  by_cases ha : (s.heads.get h).state = .running ∨ (s.heads.get h).state = .paused
  · have hact : (s.heads.get h).isActive = true := by simpa [HeadRecord.isActive] using ha
    simp only [hact, if_true, ha, State.hand, State.raise, State.handAll, hpl]
    cases hp : s.platenOf h <;> simp [State.setHead] <;> simp [State.setHanded, hsub]
  · have hact : ¬(s.heads.get h).isActive = true := by simpa [HeadRecord.isActive] using ha
    simp only [hact, ha, if_false, State.hand, State.raise, State.handAll]
    cases hp : s.platenOf h <;> simp [hp, State.setHead] <;> simp [State.setHanded, hsub]

/-! ### Orders -/

/-- The first order that satisfies a test is the one replaced. -/
theorem updOrder_split (w : Order → Bool) (f : Order → Order) (older younger : List Order) (o : Order)
    (h : ∀ y ∈ older, w y = false) (ho : w o = true) :
    updOrder w f (older ++ o :: younger) = older ++ f o :: younger := by
  induction older with
  | nil => simp [updOrder, ho]
  | cons a l ih =>
    have h1 := h a (by simp)
    simp [updOrder, h1, ih fun y hy => h y (by simp [hy])]

theorem find_split {α : Type} (w : α → Bool) (older younger : List α) (o : α)
    (h : ∀ y ∈ older, w y = false) (ho : w o = true) :
    (older ++ o :: younger).find? w = some o := by
  induction older with
  | nil => simp [ho]
  | cons a l ih =>
    have h1 := h a (by simp)
    simp [h1, ih fun y hy => h y (by simp [hy])]

theorem updOrder_length (w : Order → Bool) (f : Order → Order) (os : List Order) :
    (updOrder w f os).length = os.length := by
  induction os with
  | nil => rfl
  | cons o os ih =>
    simp only [updOrder]
    split <;> simp [ih]

/-- A line that is running an order, or has none waiting, keeps its orders as they are. -/
theorem judgeLine_of_none_waiting (p : Platen) (l : Line) (n : Nat) (s : State)
    (h : ∀ y ∈ (s.queues.get p).orders, queuedOn l y = true →
      ∃ a ∈ (s.queues.get p).orders, activeOn l a = true) : judgeLine p l n s = s := by
  cases n with
  | zero => rfl
  | succ n =>
    unfold judgeLine
    by_cases ha : (s.queues.get p).orders.any (activeOn l) = true
    · simp [ha]
    · have hn : (s.queues.get p).orders.find? (queuedOn l) = none :=
        List.find?_eq_none.mpr fun y hy hq =>
          have ⟨a, ha', hb⟩ := h y hy hq
          ha (List.any_eq_true.mpr ⟨a, ha', hb⟩)
      simp [ha, hn]

/-! ### Records of the Event Queue -/

theorem updFirst_length {α : Type} (p : α → Bool) (f : α → α) (l : List α) :
    (updFirst p f l).length = l.length := by
  induction l with
  | nil => rfl
  | cons x xs ih =>
    simp only [updFirst]
    split <;> simp [ih]

/-! ### Groups -/

@[simp] theorem Verifier.group_setGroup (v : Verifier) (g : Group) (r : GroupRecord) :
    (v.setGroup g r).group g = r := by cases g <;> rfl

theorem Verifier.group_setGroup_ne (v : Verifier) {g k : Group} (r : GroupRecord) (h : g ≠ k) :
    (v.setGroup g r).group k = v.group k := by
  cases g <;> cases k <;> first | rfl | exact absurd rfl h

/-! ### Inputs after a reset -/

/-- An unconfigured input's filtered level takes the pin's level at once (R178). -/
theorem refilterInput_erased (s : State) (i : Fin 16) (h : (s.inputs.get i).config = .erased) :
    refilterInput s i =
      { s with
        inputs :=
          s.inputs.upd i { s.inputs.get i with filtered := (s.inputs.get i).raw } } := by
  unfold refilterInput settleInput
  by_cases hr : (s.inputs.get i).raw = (s.inputs.get i).filtered
  · have e : { s.inputs.get i with filtered := (s.inputs.get i).raw } = s.inputs.get i := by rw [hr]
    rw [e]
    simp [hr]
  · have hf : (s.inputs.get i).config.filter = 0 := by rw [h]; rfl
    have ha : ∀ u : InputUnit, u.config = .erased → InputUnit.isActive u = false := by
      intro u hu
      simp [InputUnit.isActive, hu, InputConfig.erased]
    have hl :
        latchOn (InputUnit.asserted (s.inputs.get i))
            { s.inputs.get i with filtered := (s.inputs.get i).raw } =
          { s.inputs.get i with filtered := (s.inputs.get i).raw } := by
      unfold latchOn
      rw [if_neg]
      simp [h, InputConfig.erased]
    simp only [hr, hf, ne_eq, not_false_eq_true, and_self, if_true]
    rw [hl]
    unfold updateInput
    rw [ha _ h, ha { s.inputs.get i with filtered := (s.inputs.get i).raw } h]
    rfl

end Sys2Proof.Machine
end

