-- ==== Sys2Proof/Tests/Slice0.lean ====
section
/-! SUPPORT. Tests: the smoke test of the well-formedness checks, a few worked examples of the
manual, and for each obligation a state and operands that meet its hypotheses. -/

namespace Sys2Proof.Tests

open Sys2Proof Sys2Proof.Machine

set_option Elab.async false

/-! ### Small states -/

/-- The state a command answers with. -/
def after (c : Instr) (s : State) : State :=
  match exec c s with
  | .next t => t
  | _ => s

/-- Entry `i` of a table changed by `f`. -/
def chg {n : Nat} {α : Type} (t : Tab n α) (i : Fin n) (f : α → α) : Tab n α := t.upd i (f (t.get i))

/-- A Zone Config entry: FINE, floor 0, ceiling 35000, differential limit `d`. -/
def zone0 (d : Nat) : ZoneConfig :=
  ⟨true, .fine, 0, 35000, 0, 0, 36000, 1, d, .report, 2, 20, 1⟩

/-- A step of `n` cycles with band 0 and every target 10000. -/
def step0 (n : Nat) : StepRecord :=
  { StepRecord.erased with valid := true, targets := Tab.all 7 10000, endCount := n }

/-- Head 2 docked at platen 1, no verification asked for, cadence LOCKED, program 2 of two steps,
every zone configured, no event queued. -/
def base : State :=
  { State.reset with
    verifier := { State.reset.verifier with vbr := false }
    cadence := { State.reset.cadence with state := .locked, lastEnd := some 0, timer := some 1500 }
    zones := Tab.all 28 (.afterReset (zone0 0))
    docks := State.reset.docks.upd 1 ⟨some 2, 0, .none⟩
    store :=
      { State.reset.store with
        dir := State.reset.store.dir.upd 2 ⟨true, 94, 2⟩
        steps := (State.reset.store.steps.upd 94 (step0 1)).upd 95 (step0 3) }
    events := { State.reset.events with records := [] } }

/-- Head `h` changed by `f`. -/
def withHead (h : Head) (f : HeadRecord → HeadRecord) (s : State) : State :=
  { s with heads := chg s.heads h f }

/-- Head 2 in a state. -/
def headIn (st : HeadState) : State := withHead 2 (fun r => { r with state := st }) base

/-- Head 2 RUNNING step `i` of program 2, a DURATION step of `n` cycles. -/
def running (i n : Nat) : State :=
  withHead 2
    (fun r => { r with state := .running, program := some 2, stepIndex := i, context := some (step0 n) })
    base

/-- A delivery that carries nothing. -/
def nothing : Delivery := ⟨none, none, Tab.all 7 none⟩

/-- The Cell Map of the example 8.8. -/
def map8 : CellMap :=
  { base.map with
    entries :=
      ((((base.map.entries.upd 0 ⟨true, 100, .take, .headCommand, 0, true⟩).upd 1
              ⟨true, 101, .take, .zoneTrim, 3, false⟩).upd 2
            ⟨true, 200, .give, .zoneSetpoint, 3, false⟩).upd 3
          ⟨true, 201, .give, .zoneFeedback, 3, false⟩).upd 4
        ⟨true, 300, .take, .dockCommand, 1, true⟩
    seen := (base.map.seen.upd 0 true).upd 4 true }

/-- Node 6 within a frame of kind `k`, `n` octets of it received, in reception state `r`. -/
def inFrame (k : FrameKind) (r : Reception) (n : Nat) : State :=
  { base with
    ring :=
      { base.ring with
        node := 6, link := .sync, reception := r
        frame := { base.ring.frame with kind := k, cellCount := 200, octets := n } }
    map := map8
    zones := chg base.zones 3 fun z => { z with setpoint := 15000, code := 1500 } }

/-- The octets that have left on port B since `s`, in `t`. -/
def sent (s t : State) : List Nat :=
  (t.portB.drop s.portB.length).filterMap fun x =>
    match x with
    | .octet o => some o.toNat
    | _ => none

/-- Event records for the queue tests. -/
def rec0 (k : EventKind) (rank : Nat) (src : Source) (flight : Option Nat) : EventRecord :=
  ⟨k, rank, src, 0, 0, 0, 0, 0, flight⟩

/-- A queue of records over the default settings. -/
def queueOf (rs : List EventRecord) : State :=
  { base with events := { base.events with records := rs } }

/-- Line state under a configuration: period 100, window 50, miss limit 2, SAFE_HEAD. -/
def line0 : LineState := .afterReset ⟨true, true, 100, 50, 2, .safeHead⟩

/-- Line 0 of platen 1 configured, changed by `f`, with orders `os` in the platen's queue. -/
def dispensing (f : LineState → LineState) (os : List Order) : State :=
  { base with
    lines := base.lines.upd 4 (f line0), queues := base.queues.upd 1 ⟨os, 40⟩ }

/-- An order for line 0. -/
def order0 (src : OrderSource) (n made : Nat) (m : OrderMode) (active : Bool) : Order :=
  ⟨40, src, 0, n, m, made, active⟩

/-- Profile 4 with segments 20 and 21 (example 7.10), conditioner 1 changed by `f`. -/
def conditioning (f : Conditioner → Conditioner) : State :=
  { base with
    profiles := base.profiles.upd 4 ⟨true, 20, 2, 1, 10, 500⟩
    segments :=
      (base.segments.upd 20 ⟨true, 1200, 300, 40⟩).upd 21 ⟨true, 2600, 350, 40⟩
    conds :=
      chg base.conds 1 fun c =>
        f { c with parkPosition := 100, parkBand := 20, parkTimeout := 5000, posOut := 100 } }

/-- Input 3 with a configuration, a raw and a filtered level. -/
def withInput (e : InputConfig) (raw filtered latch : Bool) : State :=
  { base with inputs := base.inputs.upd 3 ⟨e, raw, filtered, 0, latch⟩ }

/-- An ESTOP input, active HIGH, not filtered. -/
def estop0 : InputConfig := ⟨true, .estop, 0, 0, true, .latched, 0⟩

/-- A gauge word of 19 bits for a channel and a reading. -/
def word (ch v : Nat) (parity : Bool) : GaugeBits :=
  ⟨((List.range 6).map fun i => ch.testBit (5 - i)) ++
      ((List.range 12).map fun i => v.testBit (11 - i)) ++ [parity], true⟩

/-- The parity bit that makes a word odd. -/
def oddParity (ch v : Nat) : Bool := (word ch v false).bits.count true % 2 == 0

/-! ### Well-formedness: each check refuses a term -/

theorem test_wf_dir_count :
    wellFormed (.programDirWriteApply 0 ⟨true, 0, 24⟩) = true ∧
      wellFormed (.programDirWriteApply 0 ⟨true, 0, 25⟩) = false ∧
      wellFormed (.programDirWriteApply 0 ⟨true, 95, 2⟩) = false := by decide

theorem test_wf_step :
    wellFormed (.stepWriteApply 0 (step0 1)) = true ∧
      wellFormed (.stepWriteApply 0 (step0 0)) = false ∧
      wellFormed (.stepWriteApply 0 (step0 65536)) = false ∧
      wellFormed (.stepWriteApply 0 { step0 1 with endKind := .settled, maxCycles := 1 }) = false ∧
      wellFormed (.stepWriteApply 0 { step0 1 with dispense := true }) = false ∧
      wellFormed (.stepWriteApply 0 { step0 1 with conditioner := .sweep, profile := 8 }) = false := by
  decide

theorem test_wf_zone :
    wellFormed (.zoneWriteApply 0 (zone0 0)) = true ∧
      wellFormed (.zoneWriteApply 0 { zone0 0 with averaging := 3 }) = false ∧
      wellFormed (.zoneWriteApply 0 { zone0 0 with floor := 35001 }) = false ∧
      wellFormed (.zoneWriteApply 0 { zone0 0 with safeValue := 35001 }) = false ∧
      wellFormed (.zoneWriteApply 0 { zone0 0 with ceiling := 40951, opLimit := 65535 }) = false ∧
      wellFormed (.zoneWriteApply 0 { zone0 65536 with floor := 0 }) = false := by decide

theorem test_wf_line :
    wellFormed (.lineWriteApply 0 line0.config) = true ∧
      wellFormed (.lineWriteApply 0 { line0.config with strokePeriod := 4 }) = false ∧
      wellFormed (.lineWriteApply 0 { line0.config with missLimit := 16 }) = false := by decide

theorem test_wf_sweep_tables :
    wellFormed (.profileWriteApply 0 ⟨true, 84, 12, 0, 10, 500⟩) = true ∧
      wellFormed (.profileWriteApply 0 ⟨true, 85, 12, 0, 10, 500⟩) = false ∧
      wellFormed (.segmentWriteApply 0 ⟨true, 4000, 1000, 5000⟩) = true ∧
      wellFormed (.segmentWriteApply 0 ⟨true, 4001, 0, 0⟩) = false := by decide

theorem test_wf_map_and_input :
    wellFormed (.cellmapWriteApply 0 ⟨true, 100, .take, .headCommand, 3, true⟩) = true ∧
      wellFormed (.cellmapWriteApply 0 ⟨true, 100, .give, .headCommand, 3, true⟩) = false ∧
      wellFormed (.cellmapWriteApply 0 ⟨true, 0, .take, .headCommand, 3, true⟩) = false ∧
      wellFormed (.cellmapWriteApply 0 ⟨true, 100, .take, .headCommand, 4, true⟩) = false ∧
      wellFormed (.inputWriteApply 0 estop0) = true ∧
      wellFormed (.inputWriteApply 0 { estop0 with filter := 16 }) = false ∧
      wellFormed (.inputWriteApply 0 { estop0 with fn := .condOverload, platen := 3 }) = false := by
  decide

theorem test_wf_settings :
    wellFormed (.setCadence 1000 700 1500 3) = true ∧
      wellFormed (.setCadence 1000 1000 1500 3) = false ∧
      wellFormed (.setIdleInterval 0 3601) = false ∧ wellFormed (.setIdleCount 0 0) = false ∧
      wellFormed (.setParkPosition 0 4001) = false ∧ wellFormed (.setParkBand 0 201) = false ∧
      wellFormed (.setParkTimeout 0 99) = false := by decide

theorem test_wf_cells :
    wellFormed (.take ⟨1, 0, 100, List.replicate 48 0⟩) = true ∧
      wellFormed (.take ⟨1, 0, 100, List.replicate 49 0⟩) = false ∧
      wellFormed (.give ⟨2, 0, 100, []⟩) = false ∧ wellFormed (.slotFill ⟨1, 0, 0, []⟩) = false ∧
      wellFormed (.read ⟨0, 6⟩ (List.replicate 48 0)) = false ∧
      wellFormed (.unknownRequestCode ⟨0, 6⟩ []) = true ∧
      wellFormed (.unknownRequestCode ⟨0, 6⟩ [10]) = false := by decide

theorem test_wf_operands :
    wellFormed (.cycleDelivery 0 { nothing with endpoint := some 65536 }) = false ∧
      wellFormed (.cycleDelivery 0 { nothing with trims := Tab.all 7 (some 32768) }) = false ∧
      wellFormed (.orderOffer 0 ⟨.direct, 0, 0, .burst⟩) = false ∧
      wellFormed (.dockCommandHead 0 0xFF 1) = false ∧
      wellFormed (.positionUpdate 0 4001) = false := by decide

/-! ### Worked examples of the manual -/

/-- The published check value of the CRC-32 of R149, over the digits 1 to 9: 0xFC891918. -/
theorem test_crc32_check :
    fcsOf (crc32Run crc32Init [0x31, 0x32, 0x33, 0x34, 0x35, 0x36, 0x37, 0x38, 0x39]) =
      0xFC891918#32 := by decide +kernel

/-- The published check value of the CRC-16 of R163 over the same octets: 0x29B1. -/
theorem test_crc16_check :
    crc16Run crc16Init [0x31, 0x32, 0x33, 0x34, 0x35, 0x36, 0x37, 0x38, 0x39] = 0x29B1#16 := by
  decide +kernel

/-- Table 3-7: FINE and COARSE at the top, and COARSE nominal. -/
theorem test_codes :
    regulatorCode .fine 40950 = 4095 ∧ regulatorCode .coarse 65535 = 4095 ∧
      regulatorCode .coarse 40000 = 2500 ∧ regulatorCode .coarse 64095 = 4006 := by decide

/-- 3.8.1, delivery k and its differential variant: zone 4 of a head, 15000 toward 20200. -/
theorem test_trimmed_ramp :
    let s (inner : Nat) : State :=
      { base with
        zones :=
          ((base.zones.upd 18 { ZoneChannel.afterReset (zone0 3000) with
              setpoint := 15000, ramping := true })).upd 17
            { ZoneChannel.afterReset (zone0 0) with setpoint := inner } }
    let r : StepRecord :=
      { step0 9 with targets := Tab.all 7 21000, membraneRate := 2000, trimLimit := 800 }
    let z (inner : Nat) := (deriveZone 2 r (Tab.all 7 (-1200)) (s inner) 4).zoneOf 2 4
    (z 20000).setpoint = 17000 ∧ (z 20000).code = 1700 ∧ (z 20000).diffLimited = false ∧
      (z 12000).setpoint = 15000 ∧ (z 12000).code = 1500 ∧ (z 12000).diffLimited = true ∧
      (z 12000).ramping = true := by decide +kernel

/-- 3.8.2: START from a vented zone with a floor of 2000: setpoint 2000, code 200. -/
theorem test_floor_at_start :
    let s : State :=
      { base with
        zones :=
          base.zones.upd 1 { ZoneChannel.afterReset { zone0 0 with floor := 2000, ceiling := 30000 }
            with ramping := true } }
    let r : StepRecord := { step0 9 with targets := Tab.all 7 8000, membraneRate := 500 }
    let z := (deriveZone 0 r (Tab.all 7 0) s 1).zoneOf 0 1
    z.setpoint = 2000 ∧ z.code = 200 := by decide +kernel

/-- 2.9: an overpressure notice takes a RUNNING head to SAFE_HOLD, SETTLING, and tells its
platen. -/
theorem test_overpressure_notice :
    let s : State :=
      { running 0 9 with
        zones := chg base.zones 16 fun z => { z with setpoint := 18000 } }
    let t := after (.overpressureNotice 2) s
    (t.heads.get 2).state = .safeHold ∧ (t.heads.get 2).substate = .settling ∧
      (t.heads.get 2).cause = .overpressure ∧ (t.zones.get 16).setpoint = 18000 ∧
      t.handed =
        [.programRelease 2, .headSafeNotice 1 2, .parkRequest 1,
          .eventRaise .safeHoldEntered (.head 2) 2 1] := by decide +kernel

/-- 4.7.1: the last word of a window of four updates the feedback to 17002. -/
theorem test_gauge_window :
    let s : State :=
      { base with
        zones := base.zones.upd 9 (.afterReset { zone0 0 with averaging := 4 })
        filters := base.filters.upd 9 ⟨50990, 3, 16950, 4, false⟩ }
    let t := after (.gaugeWord (word 9 1702 (oddParity 9 1702))) s
    t.filters.get 9 = ⟨0, 0, 17002, 0, false⟩ ∧ t.handed = [] := by decide +kernel

/-- 4.7.3, u3: the second update above 36000 raises OVERPRESSURE and tells the head. -/
theorem test_overpressure :
    let s : State :=
      { base with zones := chg base.zones 3 fun z => { z with opCount := 1 } }
    let t := after (.gaugeWord (word 3 3615 (oddParity 3 3615))) s
    (t.zones.get 3).opMark = true ∧
      t.handed = [.eventRaise .overpressure (.zone 3) 36150 36000, .overpressureNotice 0] := by
  decide +kernel

/-- 4.7.2, e6 to e8 (setpoint 20000, band 400, length 3): stale, then −480 and −550. -/
theorem test_band_monitor :
    let z (n : Nat) (stale ex : Bool) : ZoneChannel :=
      { ZoneChannel.afterReset (zone0 0) with
        setpoint := 20000, debounce := n, monitorStale := stale, excursion := ex }
    let e6 := judgeBand (z 2 false false) 400 2 19500 true
    let e7 := judgeBand (z 2 true false) 400 2 19520 false
    let e8 := judgeBand (z 3 false true) 400 2 19450 false
    (e6.1.debounce = 2 ∧ e6.1.monitorStale = true ∧ e6.2.met = false) ∧
      (e7.1.debounce = 3 ∧ e7.1.monitorStale = false ∧ e7.1.excursion = true) ∧
      e8.1.debounce = 3 ∧ e8.1.excursion = true ∧ e8.2.episode = none := by decide +kernel

/-- 5.6: the move of a head in IDLE from platen 0 to platen 2, and the refusal of a RUNNING one. -/
theorem test_dock_move :
    let s (st : HeadState) : State :=
      withHead 1 (fun r => { r with state := st })
        { base with docks := State.reset.docks.upd 0 ⟨some 1, 0, .none⟩ }
    let a := after (.dockCommandHead 2 1 81) (s .idle)
    let b := after (.dockCommandHead 2 1 81) (s .running)
    (a.docks.get 0).docked = none ∧ (a.docks.get 2).docked = some 1 ∧
      (a.docks.get 2).lastOutcome = .accepted ∧ (b.docks.get 2).lastOutcome = .headBusy ∧
      b.handed = [.eventRaise .cmdRefused (.platen 2) 1 6] := by decide +kernel

/-- 6.8 at time 0: the offer becomes ACTIVE and makes its first stroke at once. -/
theorem test_offer_strokes :
    let t := after (.orderOffer 1 ⟨.step 2, 0, 5, .burst⟩) (dispensing id [])
    (t.queues.get 1).orders = [⟨40, .step 2, 0, 5, .burst, 1, true⟩] ∧
      (t.lines.get 4).delivered = 1 ∧ (t.lines.get 4).window = some ⟨50, false⟩ ∧
      t.handed = [.idleTimerReload 1] ∧ t.pumpOut = [4] := by decide +kernel

/-- 6.8 at time 250: the second miss ends the order FLOW_FAULT and tells the docked head. -/
theorem test_flow_fault :
    let t :=
      after (.flowWindowClose 1 0)
        (dispensing (fun x => { x with miss := 1, window := some ⟨0, false⟩, elapsed := 50 })
          [order0 (.step 2) 5 3 .burst true])
    (t.queues.get 1).orders = [] ∧ (t.lines.get 4).miss = 0 ∧
      t.handed =
        [.eventRaise .orderEnded (.line 4) (detail 40 2) 3, .eventRaise .flowFault (.line 4) 40 1,
          .flowFaultNotice 2] := by decide +kernel

/-- 7.10 at 0 and at 520: a sweep starts, and an overload stops it with its position held. -/
theorem test_sweep_and_overload :
    let s := conditioning fun c => { c with state := .parked }
    let a := (after (.stepConditionerCommand 1 (.sweep 4)) s).conds.get 1
    let b :=
      (after (.condOverloadNotice 1)
          (conditioning fun c => { c with state := .sweeping, posOut := 1800, forceOut := 250 })).conds.get 1
    (a.state = .sweeping ∧ a.substate = .reaching ∧ a.posOut = 1200 ∧ a.forceOut = 300) ∧
      b.state = .faulted ∧ b.cause = .overload ∧ b.posOut = 1800 ∧ b.forceOut = 0 := by
  decide +kernel

/-- 8.8, cells 1 and 3: TAKEN on a command taken, GIVEN with the setpoint 15000 written. -/
theorem test_take_and_give :
    let s := inFrame .cycle .cells 4
    let a := after (.take ⟨1, 0, 100, [1, 2, 0, 12]⟩) s
    let b := after (.give ⟨1, 0, 200, [0, 0]⟩) s
    sent s a = [1, 1, 0, 100, 4, 1, 2, 0, 12] ∧
      a.ring.takeSlots.get 0 = some ⟨.headCommand, 0, [1, 2, 0, 12]⟩ ∧
      sent s b = [1, 2, 0, 200, 2, 0x3A, 0x98] := by decide +kernel

/-- 9.8, cell 3: of two records the level 2 one fills the slot, as an EVENT cell of node 6. -/
theorem test_slot :
    let s : State :=
      { inFrame .cycle .cells 4 with
        events :=
          { base.events with
            records := [rec0 .saturated 1 (.zone 3) none, rec0 .bandExcursion 2 (.zone 9) none] } }
    let t := after (.slotFill ⟨4, 0, 0x7700, List.replicate 12 0⟩) s
    sent s t = [5, 0, 0x77, 6, 12, 4, 2, 4, 9, 0, 0, 0, 0, 0, 0, 0, 0] ∧
      t.events.records.map (fun r => r.flight) = [none, some 0] := by decide +kernel

/-- R157, Table 13-4: RESET of scope 1 is ACCEPTED and staged, and of scope 2 BAD_VALUE. -/
theorem test_reset_request :
    let s := inFrame .async .cells 4
    let a := after (.reset ⟨0x55, 0x1206⟩ [1]) s
    let b := after (.reset ⟨0x55, 0x1206⟩ [2]) s
    sent s a = [3, 0x55, 0x12, 6, 2, 1, 0] ∧ a.ring.mgmtSlots = [.resetApply .all] ∧
      sent s b = [3, 0x55, 0x12, 6, 2, 5, 0] ∧ b.ring.mgmtSlots = [] := by decide +kernel

/-- 11.2 at 6500: the third violation loses the cadence and tells the four heads. -/
theorem test_cadence_lost :
    let s : State :=
      { base with
        us := 6000
        cadence := { base.cadence with violations := 2, timer := some 6500, expired := true } }
    let t := after .cadenceLateExpiry s
    t.cadence.state = .lost ∧ t.cadence.violations = 3 ∧ t.cadence.timer = some 8000 ∧
      t.handed =
        [.eventRaise .cadenceViolation .device 1 3, .eventRaise .cadenceLost .device 3 1,
          .cadenceLostNotice 0, .cadenceLostNotice 1, .cadenceLostNotice 2,
          .cadenceLostNotice 3] := by decide +kernel

/-- 12.6: a return merges with the QUEUED record of its kind and source: repeat 2 + 0 + 1. -/
theorem test_return_merges :
    let s :=
      queueOf
        [{ rec0 .bandExcursion 2 (.zone 9) (some 600) with stamp := 598, repeats := 2 },
          { rec0 .bandExcursion 2 (.zone 9) none with stamp := 599, detail1 := 7 }]
    (after (.eventReturn 600) s).events.records =
      [{ rec0 .bandExcursion 2 (.zone 9) none with stamp := 598, repeats := 3, detail1 := 7 }] := by
  decide +kernel

/-- 1.17: with START(5) claimed on H1, a WRITE of step record 12 is dropped. -/
theorem test_claimed_step :
    let s : State :=
      { base with
        store :=
          { base.store with
            dir := (base.store.dir.upd 3 ⟨true, 10, 4⟩).upd 5 ⟨true, 12, 6⟩
            claims := base.store.claims.upd 1 (some 5) } }
    (after (.stepWriteApply 12 (step0 1)) s).handed =
        [.eventRaise .writeDropped (.group .program) 0x0202 12] ∧
      (after (.stepWriteApply 11 (step0 1)) s).handed = [.writeNotice .program] := by
  decide +kernel

/-! ### Witnesses: states and operands that meet the hypotheses of each obligation -/

theorem wit_StepRunsFrontCommand :
    { base with pending := [.tick, .regulatorRefresh] }.pending = .tick :: [.regulatorRefresh] ∧
      ({ base with handed := [.parkRequest 1] }.pending = [] ∧
        { base with handed := [.parkRequest 1] }.handed = .parkRequest 1 :: []) ∧
      base.pending = [] ∧ base.handed = [] := ⟨rfl, ⟨rfl, rfl⟩, rfl, rfl⟩

/-- A period of each scope. -/
def resetting (scope : Scope) : State :=
  { base with ring := { base.ring with transparent := true, scope := scope, resetTicks := 4 } }

theorem wit_ManagementResetValues :
    let waiting : State :=
      { resetting .all with
        awaiting := [⟨5, .parkRequest 1⟩]
        ring := { (resetting .all).ring with resetFrame := some 5 } }
    ((resetting .state).ring.transparent = true ∧ (resetting .all).ring.scope = .all ∧
        ¬∃ x ∈ ((resetting .all).takeUp .transparentPeriodEnd).awaiting,
          (resetting .all).ring.resetFrame = some x.frame) ∧
      waiting.ring.transparent = true ∧
      ∃ x ∈ (waiting.takeUp .transparentPeriodEnd).awaiting,
        waiting.ring.resetFrame = some x.frame := by decide +kernel

theorem wit_FrameStartRecordsHeader :
    let s : State := { base with ring := { base.ring with link := .sync } }
    s.ring.link ≠ .down ∧ s.ring.transparent = false ∧ s.ring.acting = false ∧
      (0x01#8 = 0x01#8 ∨ 0x01#8 = 0x02#8) ∧ (0x02#8 = 0x01#8 ∨ 0x02#8 = 0x02#8) ∧
      (let t : State := { base with ring := { base.ring with link := .up, transparent := true } }
      t.ring.link ≠ .down ∧ t.ring.transparent = true) := by decide

/-- A frame in passage that goes through untouched, with `n` octets counted. -/
def goingThrough (n : Nat) : State :=
  { inFrame .cycle .header n with
    ring := { (inFrame .cycle .header n).ring with transparent := true, through := true } }

theorem wit_CellsArriveOctetByOctet :
    ∀ n ∈ [0, 1535, 1536],
      (goingThrough n).ring.reception.inFrame = true ∧ (goingThrough n).ring.through = true ∧
        (goingThrough n).ring.frame.octets ≤ 1536 := by decide +kernel

/-- R146, R155: under the transparent mark a start symbol empties the slots that a frame in passage
had filled, and the frame leaves as it arrives. -/
theorem test_frame_under_the_mark :
    let s : State :=
      { goingThrough 9 with
        ring := { (goingThrough 9).ring with link := .up, mgmtSlots := [.resetApply .all] } }
    let t := after (.frameStart [3, 9]) s
    t.portB = s.portB ++ [.startSymbol, .octet 3, .octet 9] ∧ t.ring.mgmtSlots = [] ∧
      t.ring.frame.octets = 2 ∧ (after (.frameBadEnd [] .endSymbol) t).ring.badCount = 0 := by
  decide +kernel

/-- R161: a RESET of the frame that carried the first one merges its scope, and one of another frame
begins a period with its own. -/
theorem test_second_reset :
    let s : State :=
      { resetting .all with
        ring := { (resetting .all).ring with resetFrame := some 5 }
        awaiting := [⟨5, .resetApply .state⟩] }
    let other : State := { s with awaiting := [⟨6, .resetApply .state⟩] }
    ((after (.resetApply .state) s).ring.scope = .all ∧
        (after (.resetApply .state) s).ring.resetTicks = 4) ∧
      (after (.resetApply .state) other).ring.scope = .state ∧
      (after (.resetApply .state) other).ring.resetTicks = 0 := by decide +kernel

/-- The FCS octets that agree with a frame's received CRC. -/
def goodFcs (s : State) : List Octet := fcsOctets (fcsOf s.ring.frame.rxCrc)

theorem wit_GoodEndCommitsFrame :
    let s : State := { inFrame .cycle .check 1532 with phase := 1 }
    (s.ring.acting = true ∧ s.ring.reception = .check ∧ s.ring.frame.buf = [] ∧
        (goodFcs s).length = 4 ∧ s.ring.frame.octets ≤ 1532 ∧
        fcsValue (goodFcs s) = fcsOf s.ring.frame.rxCrc) ∧
      (1 ≤ s.phase ∧ s.phase < 999) ∧
      s.cadence.timer = some 1500 ∧ 998 ≤ ((1500 : BitVec 32) - s.us).toNat := by decide +kernel

/-- A state whose late expiry, at count 1500, comes 499 µs before phase 999. -/
theorem wit_GoodEndCommitsFrame_later :
    let s : State := { inFrame .cycle .check 8 with us := 1001, phase := 1 }
    s.phase < 999 ∧ s.cadence.timer = some 1500 ∧
      ((1500 : BitVec 32) - s.us).toNat < 999 - s.phase ∧
      BitVec.ofNat 32 s.cadence.late ≠ 0 ∧ .cadenceLateExpiry ∉ s.handed ∧
      exec .cadenceLateExpiry s = .next (after .cadenceLateExpiry s) :=
  ⟨by decide +kernel, by decide +kernel, by decide +kernel, by decide +kernel, by decide +kernel, rfl⟩

/-- R172: the good end at phase 999 of that state takes the late expiry first, and its cycle-frame
notice carries the count at the end. -/
theorem test_late_good_end :
    let s : State := { inFrame .cycle .check 8 with us := 1001, phase := 1 }
    let t := after (.frameGoodEnd (goodFcs s) 999) s
    t.us = 1999 ∧ t.phase = 999 ∧ t.cadence.violations = 1 ∧
      t.handed.head? = some (.eventRaise .cadenceViolation .device 1 1) ∧
      .cycleFrameNotice 1999 ∈ t.handed := by decide +kernel

theorem wit_FramesEndBad :
    let s := inFrame .async .check 1532
    let out (r : Reception) (l : LinkState) : State :=
      { base with ring := { base.ring with reception := r, link := l } }
    (s.ring.acting = true ∧ s.ring.reception = .check ∧ s.ring.frame.buf = [] ∧
        [0, 0, 0, 1].length = 4 ∧ s.ring.frame.octets ≤ 1532 ∧
        fcsValue [0, 0, 0, 1] ≠ fcsOf s.ring.frame.rxCrc) ∧
      (inFrame .cycle .header 0).ring.acting = true ∧
      (inFrame .cycle .endWait 8).ring.acting = true ∧
      (inFrame .cycle .header 0).ring.reception ≠ .endWait ∧ ([7, 7, 7] : List Octet).length < 4 ∧
      (out .between .down).ring.reception = .between ∧ (out .between .down).ring.link = .down ∧
      (out .ignoring .up).ring.reception = .ignoring ∧
      ((inFrame .cycle .endWait 1536).ring.acting = true ∧
        1536 ≤ (inFrame .cycle .endWait 1536).ring.frame.octets) ∧
      (inFrame .cycle .endWait 1535).ring.frame.octets < 1536 ∧
      ((inFrame .cycle .header 0).ring.frame.buf = [] ∧ 0x03#8 ≠ 0x01#8 ∧ 0x03#8 ≠ 0x02#8) ∧
      ((inFrame .cycle .cells 4).ring.reception = .cells ∧
        (inFrame .cycle .cells 4).ring.acting = true ∧
        (inFrame .cycle .cells 4).ring.frame.buf = [] ∧
        (0x00#8 : Octet) ∉ [kindData, kindMgmt, kindReply, kindSlot, kindEvent] ∧
        (0x06#8 : Octet) ∉ [kindData, kindMgmt, kindReply, kindSlot, kindEvent]) ∧
      (let f := inFrame .cycle .cells 8
      let part : State :=
        { f with ring := { f.ring with frame := { f.ring.frame with buf := [1, 0, 0, 7] } } }
      part.ring.acting = true ∧ part.ring.reception = .cells ∧ part.ring.frame.buf.length = 4 ∧
        48 < (49 : Octet).toNat) ∧
      (inFrame .cycle .header 0).ring.transparent = false ∧
      (inFrame .cycle .header 0).ring.link ≠ .down := by decide +kernel

theorem wit_HandOversOfAFrame :
    (inFrame .async .endWait 8).ring.frame.kind = .async ∧
      (inFrame .cycle .endWait 8).ring.frame.kind = .cycle := ⟨rfl, rfl⟩

/-- A frame in which entry 7 has taken the command of head 2 and entry 8 the same object, and
nothing else is taken: each object's value is that of its lowest entry, or none. -/
theorem wit_HandOversOfAFrame_taken :
    let slots : Tab 128 (Option Taken) :=
      ((Tab.all 128 none).upd 7 (some ⟨.headCommand, 2, [1, 2, 0, 12]⟩)).upd 8
        (some ⟨.headCommand, 2, [4, 0, 0, 13]⟩)
    let holds (x : Option Taken) (cls : ObjClass) (inst : Nat) : Prop :=
      ∃ y, x = some y ∧ y.cls = cls ∧ y.inst.toNat = inst
    (∃ e y, slots.get e = some y ∧ y.cls = .headCommand ∧ y.inst.toNat = (2 : Head).val ∧
        some [1, 2, 0, 12] = some y.payload ∧ ∀ e' < e, ¬holds (slots.get e') .headCommand 2) ∧
      (∀ h : Head, h ≠ 2 → ∀ e, ¬holds (slots.get e) .headCommand h.val) ∧
      ∀ cls, cls ≠ .headCommand → ∀ n e, ¬holds (slots.get e) cls n := by
  intro slots holds
  have only : ∀ e : Fin 128, e = 7 ∨ e = 8 ∨ slots.get e = none := by decide +kernel
  have first : ∀ e : Fin 128, e < 7 → slots.get e = none := by decide +kernel
  have h7 : slots.get 7 = some ⟨.headCommand, 2, [1, 2, 0, 12]⟩ := by decide +kernel
  have h8 : slots.get 8 = some ⟨.headCommand, 2, [4, 0, 0, 13]⟩ := by decide +kernel
  refine ⟨⟨7, _, h7, rfl, rfl, rfl, ?_⟩, ?_, ?_⟩
  · rintro e he ⟨y, hy, -⟩
    simp [first e he] at hy
  · rintro h hh e ⟨y, hy, -, hi⟩
    have : h.val = 2 := by
      rcases only e with rfl | rfl | hn
      · rw [h7] at hy; cases hy; exact hi.symm
      · rw [h8] at hy; cases hy; exact hi.symm
      · rw [hn] at hy; cases hy
    exact hh (Fin.ext this)
  · rintro cls hc n e ⟨y, hy, hcls, -⟩
    rcases only e with rfl | rfl | hn
    · rw [h7] at hy; cases hy; exact hc hcls.symm
    · rw [h8] at hy; cases hy; exact hc hcls.symm
    · rw [hn] at hy; cases hy

theorem wit_TakeStagesValue :
    let meets (c : Cell) (e : Fin 128) (s : State) : Prop :=
      takesWhole c s.ring = true ∧ c.kind = kindData ∧ s.map.find c.tag = some e ∧
        (s.map.entries.get e).dir = .take
    (meets ⟨1, 0, 100, [1, 2, 0, 12]⟩ 0 (inFrame .cycle .cells 1527) ∧
        meets ⟨1, 0, 300, [1, 2]⟩ 4 (inFrame .cycle .cells 4)) ∧
      meets ⟨1, 0, 101, [0, 1]⟩ 1 (inFrame .async .cells 4) ∧
      (let s := inFrame .cycle .cells 4
      (∀ c ∈ [(⟨1, 0, 999, [7]⟩ : Cell), ⟨3, 0, 100, []⟩, ⟨5, 0, 100, [1]⟩],
          takesWhole c s.ring = true) ∧
        (1 : Octet) = kindData ∧ (3 : Octet) = kindReply ∧ (5 : Octet) = kindEvent ∧
        ∀ e, (s.map.entries.get e).valid = true → (s.map.entries.get e).tag ≠ 999) := by
  decide +kernel

theorem wit_GiveWritesValue :
    let meets (c : Cell) (e : Fin 128) (s : State) : Prop :=
      takesWhole c s.ring = true ∧ c.kind = kindData ∧ s.map.find c.tag = some e ∧
        (s.map.entries.get e).dir = .give
    (meets ⟨1, 0, 200, [0, 0]⟩ 2 (inFrame .cycle .cells 4) ∧
        meets ⟨1, 2, 201, [9, 9]⟩ 3 (inFrame .async .cells 4)) ∧
      meets ⟨1, 0, 201, [9]⟩ 3 (inFrame .cycle .cells 4) := by decide +kernel

theorem wit_SlotCarriesRecord :
    let s := inFrame .cycle .cells 4
    (takesWhole ⟨4, 0, 0, List.replicate 12 0⟩ s.ring = true ∧ (4 : Octet) = kindSlot) ∧
      takesWhole ⟨4, 0, 0, []⟩ s.ring = true ∧ (List.replicate 12 (0 : Octet)).length = 12 ∧
      ∃ x ∈ (queueOf [rec0 .saturated 1 (.zone 3) none]).events.records, x.flight = none := by
  decide +kernel

theorem wit_SlotTakesBestRecord :
    let x := rec0 .bandExcursion 2 (.zone 9) none
    let q (r : EventRecord) (lost : Nat) : EventQueue :=
      { base.events with records := [rec0 .saturated 1 (.zone 3) none, r], lost := lost }
    fillSlot (q x 7) 5 =
      some ({ x with lost := 7, flight := some 5 }, q { x with lost := 7, flight := some 5 } 0) := by
  decide +kernel

theorem wit_RequestsAreAnswered :
    let s := inFrame .async .cells 1486
    let h : MgmtHead := ⟨0x55, 0x1206⟩
    lowTag h.tag = s.ring.node.toNat ∧
      ∀ x ∈ requestCommands h (List.replicate 44 0),
        takesWhole (mgmtCell h (oct x.2 :: List.replicate 44 0)) s.ring = true := by
  decide +kernel

theorem wit_RequestsNotActedOn :
    let s := inFrame .async .cells 4
    (lowTag 0x1207 ≠ s.ring.node.toNat ∧
        (∀ x ∈ requestCommands ⟨0, 0x1207⟩ [1],
          takesWhole (mgmtCell ⟨0, 0x1207⟩ (oct x.2 :: [1])) s.ring = true) ∧
        takesWhole (mgmtCell ⟨0, 0x1207⟩ [77]) s.ring = true) ∧
      lowTag 0x1206 = s.ring.node.toNat ∧
      (∀ p ∈ [([] : List Octet), [0], [11], [255]],
        takesWhole (mgmtCell ⟨0, 0x1206⟩ p) s.ring = true ∧
          (p = [] ∨ octAt p 0 = 0 ∨ 10 < octAt p 0)) := by decide +kernel

theorem wit_RequestChecksInOrder :
    (octAt [2, 8] 0 = 2 ∧ 7 < octAt [2, 8] 1) ∧
      (octAt [3, 0] 0 = 3 ∧ tableOf (octAt [3, 0] 1) = some .cellmap ∧ 2 ≤ [3, 0].length ∧
        ([3, 0] : List Octet).length ≠ 3) ∧
      (octAt [1, 7, 0] 0 = 1 ∧ tableOf (octAt [1, 7, 0] 1) = some .input ∧
        ([1, 7, 0] : List Octet).length ≠ 4 + recordLength .input) ∧
      (tableSize .cellmap ≤ octAt [3, 0, 128] 2 ∧ ([3, 0, 128] : List Octet).length = 3) ∧
      (octAt [5] 0 = 5 ∧ ([5] : List Octet).length ≠ 10) ∧ octAt [10, 1] 0 = 10 ∧
      [10, 1].length = 2 := by decide

theorem wit_RequestChecksInOrder_fields :
    (octAt [4, 5, 0, 0] 0 = 4 ∧ [4, 5, 0, 0].length = 4 ∧ 4 < octAt [4, 5, 0, 0] 1 ∧
        octAt [4, 4, 0, 0] 1 = groupCode .sweep) ∧
      (octAt [8, 2, 4] 0 = 8 ∧ [8, 2, 4].length = 3 ∧ 3 < octAt [8, 2, 4] 2 ∧
        2 < octAt [8, 3, 0] 1 ∧ octAt [8, 2, 3] 1 = (2 : Platen).val ∧
        octAt [8, 2, 3] 2 = (3 : Line).val) ∧
      (octAt [9, 16] 0 = 9 ∧ [9, 16].length = 2 ∧ 15 < octAt [9, 16] 1 ∧
        octAt [9, 15] 1 = (15 : Fin 16).val) ∧
      (let p : List Octet := [2, 7, 15, 0, 5, 0, 0, 0, 0, 0]
      octAt p 0 = 2 ∧ octAt p 1 = 7 ∧ octAt p 2 < 16 ∧ p.length = 4 + 6 ∧ 5 ≤ octAt p (4 + 0)) ∧
      DirEntry.fits ⟨true, 84, 12⟩ = true ∧ StepRecord.fits (step0 65535) = true ∧
      ZoneConfig.fits (zone0 65535) = true ∧ LineConfig.fits line0.config = true ∧
      ProfileEntry.fits ⟨true, 84, 12, 255, 200, 10000⟩ = true ∧
      SegmentRecord.fits ⟨true, 4000, 1000, 5000⟩ = true ∧ InputConfig.fits estop0 = true := by
  decide

theorem wit_ReadAndStatusAnswer :
    let p (t i : Octet) (n : Nat) : List Octet := [1, t, i, 0] ++ List.replicate n 0
    let meets (t : TableId) (code i : Octet) (n : Nat) : Prop :=
      octAt (p code i n) 0 = 1 ∧ tableOf (octAt (p code i n) 1) = some t ∧
        (p code i n).length = 4 + recordLength t
    (meets .programDir 1 16 2 ∧ tableSize .programDir ≤ octAt (p 1 16 2) 2) ∧
      (meets .cellmap 0 127 6 ∧ octAt (p 0 127 6) 2 = (127 : Fin 128).val) ∧
      (meets .programDir 1 15 2 ∧ octAt (p 1 15 2) 2 = (15 : Fin 16).val) ∧
      (meets .step 2 95 36 ∧ octAt (p 2 95 36) 2 = (95 : Fin 96).val) ∧
      (meets .zone 3 27 18 ∧ octAt (p 3 27 18) 2 = (27 : ZoneCh).val) ∧
      (meets .line 4 11 7 ∧ octAt (p 4 11 7) 2 = (11 : LineIx).val) ∧
      (meets .profile 5 7 6 ∧ octAt (p 5 7 6) 2 = (7 : Fin 8).val) ∧
      (meets .segment 6 95 6 ∧ octAt (p 6 95 6) 2 = (95 : Fin 96).val) ∧
      (meets .input 7 15 6 ∧ octAt (p 7 15 6) 2 = (15 : Fin 16).val) ∧
      octAt (6 :: List.replicate 16 0) 0 = 6 ∧ (6 :: List.replicate 16 0).length = 17 := by decide

theorem wit_DispenseChecksInOrder :
    let p (a b hi lo m : Octet) : List Octet := [7, a, b, hi, lo, m]
    (octAt (p 0 0 0 0 0) 0 = 7 ∧ (p 0 0 0 0 0).length = 6) ∧ 3 ≤ octAt (p 3 0 0 1 0) 1 ∧
      4 ≤ octAt (p 0 4 0 1 0) 2 ∧
      (octAt (p 2 3 4 0 0) 1 = (2 : Platen).val ∧ octAt (p 2 3 4 0 0) 2 = (3 : Line).val ∧
        1023 < octAt16 (p 2 3 4 0 0) 3) ∧
      1 < octAt (p 2 3 0 1 2) 5 ∧ octAt16 (p 2 3 0 0 1) 3 = 0 ∧
      octAt (p 2 3 3 255 1) 5 ≤ 1 ∧ 1 ≤ octAt16 (p 2 3 3 255 1) 3 ∧
      octAt16 (p 2 3 3 255 1) 3 ≤ 1023 := by decide

theorem wit_TableRecordsReadBack :
    DirEntry.fits ⟨true, 255, 255⟩ = true ∧ StepRecord.fits (step0 65535) = true ∧
      ZoneConfig.fits (zone0 65535) = true ∧ LineConfig.fits line0.config = true ∧
      ProfileEntry.fits ⟨true, 255, 255, 255, 255, 65535⟩ = true ∧
      SegmentRecord.fits ⟨true, 65535, 65535, 65535⟩ = true ∧ InputConfig.fits estop0 = true := by
  decide

theorem wit_SafeHoldLeftOnlyByClear :
    let s := withHead 2 (fun r => { r with substate := .settled }) (headIn .safeHold)
    exec (.clear 2 1) s = .next (after (.clear 2 1) s) ∧ (s.heads.get 2).state = .safeHold ∧
      ((after (.clear 2 1) s).heads.get 2).state ≠ .safeHold :=
  ⟨rfl, by decide +kernel, by decide +kernel⟩

theorem wit_IdleLeftOnlyByStart :
    exec (.start 2 2 81) base = .next (after (.start 2 2 81) base) ∧
      (base.heads.get 2).state = .idle ∧
      ((after (.start 2 2 81) base).heads.get 2).state ≠ .idle :=
  ⟨rfl, by decide +kernel, by decide +kernel⟩

theorem wit_DeliveryToAHeadNotRunning :
    let d (code : Octet) : Delivery := { nothing with command := some ⟨code, 2, 81⟩ }
    let s (q : Word16) (st : HeadState) : State :=
      { headIn st with map := { base.map with learnedHead := Tab.all 4 (some q) } }
    let rest := Instr.cycleDelivery 2 nothing
    ((base.heads.get 2).state = .idle ∧ nothing.command = none) ∧
      ((headIn .safeHold).heads.get 2).state = .safeHold ∧
      ((d 1).command = some ⟨1, 2, 81⟩ ∧ (s 81 .running).map.learnedHead.get 2 = some 81 ∧
        rest ∉ ((s 81 .running).takeUp (.cycleDelivery 2 (d 1))).handed) ∧
      base.map.learnedHead.get 2 = none ∧
      ((s 80 .idle).map.learnedHead.get 2 = some 80 ∧ (80 : Word16) ≠ 81 ∧
        6 < (7 : Octet).toNat) ∧
      (((s 80 .paused).heads.get 2).state = .paused ∧ ((s 80 .done).heads.get 2).state = .done) ∧
      rest ∉ (after (.start 2 2 81) ((s 80 .idle).takeUp (.cycleDelivery 2 (d 1)))).handed ∧
      Instr.start 2 2 81 ∉ ((s 80 .idle).takeUp (.cycleDelivery 2 (d 1))).handed := by
  decide +kernel

theorem wit_RunningDeliverySetpoints :
    let s := running 0 9
    (s.heads.get 2).state = .running ∧ (s.heads.get 2).context = some (step0 9) ∧
      nothing.command = none ∧ ((headIn .paused).heads.get 2).state = .paused ∧
      ((headIn .done).heads.get 2).state = .done := by decide +kernel

/-- Zone 3 of head 2 under a step of band 400 and a band action, changed by `f`, with feedback
`fb`. -/
def banded (a : BandAction) (st : HeadState) (f : ZoneChannel → ZoneChannel) (fb : Nat)
    (stale : Bool) : State :=
  let s := running 0 9
  { withHead 2 (fun r => { r with state := st, context := some { step0 9 with band := 400 } }) s with
    zones :=
      s.zones.upd 17
        (f { ZoneChannel.afterReset { zone0 0 with bandAction := a } with setpoint := 10000 })
    filters := (Tab.all 34 ⟨0, 0, 0, 0, false⟩).upd 17 ⟨0, 0, fb, 0, stale⟩ }

/-- Table 4-4 and R27: the third deviation in a row pauses a RUNNING head under HOLD, and takes a
DONE one to SAFE_HOLD under SAFE; a gauge gone stale begins an episode at once; REPORT leaves the
head. -/
theorem test_band_actions :
    let late (z : ZoneChannel) : ZoneChannel := { z with debounce := 2 }
    let t (a : BandAction) (st : HeadState) (f : ZoneChannel → ZoneChannel) (fb : Nat) (b : Bool) :=
      after (.cycleDelivery 2 nothing) (banded a st f fb b)
    ((t .hold .running late 10401 false).heads.get 2).state = .paused ∧
      ((t .safe .done late 9599 false).heads.get 2).state = .safeHold ∧
      ((t .safe .done late 9599 false).heads.get 2).cause = .excursion ∧
      ((t .hold .running id 10000 true).heads.get 2).state = .paused ∧
      ((t .report .running late 10401 false).heads.get 2).state = .running ∧
      ((t .hold .running late 10400 false).heads.get 2).state = .running ∧
      ((t .hold .running late 10400 false).zones.get 17).debounce = 0 ∧
      ((t .hold .running id 10401 false).zones.get 17).debounce = 1 := by decide +kernel

/-- R35: an EXCURSION entry, docked at platen 1, hands the release and the head-safe notice with the
PARK request, and raises SAFE_HOLD_ENTERED, after the zone's own BAND_EXCURSION. -/
theorem test_excursion_entry :
    (after (.cycleDelivery 2 nothing)
        (banded .safe .running (fun z => { z with debounce := 2 }) 9599 false)).handed =
      [.eventRaise .bandExcursion (.zone 17) 0 0xFE6F#16, .programRelease 2, .headSafeNotice 1 2,
        .parkRequest 1, .eventRaise .safeHoldEntered (.head 2) 3 1] := by decide +kernel

/-- R52, R53 and R57: the delivery that brings a ramping zone to its target loads the settle
counter, one that does not leaves it ramping, and a code that comes to 4095 raises SATURATED
once. -/
theorem test_running_marks :
    let s (v : Nat) (was : Bool) : State :=
      { withHead 2 (fun r =>
            { r with
              context := some { step0 9 with membraneRate := 500, settleMask := 7, targets := Tab.all 7 40950 } })
          (running 0 9) with
        zones :=
          base.zones.upd 17
            { ZoneChannel.afterReset { zone0 0 with ceiling := 40950 } with
              setpoint := v, settle := 3, ramping := true, saturated := was } }
    let t (v : Nat) (was : Bool) : State := after (.cycleDelivery 2 nothing) (s v was)
    let z (v : Nat) : ZoneChannel := (t v false).zones.get 17
    let raises (x : State) : Bool := x.handed.contains (.eventRaise .saturated (.zone 17) 40950 0)
    ((z 40450).settle = 7 ∧ (z 40450).ramping = false ∧ (z 40449).settle = 2 ∧
        (z 40449).ramping = true) ∧
      raises (t 40450 false) = true ∧ raises (t 40450 true) = false := by decide +kernel

/-- Head 2 RUNNING step `i` of program 2 under the record `c`, changed by `f`. -/
def stepping2 (i : Nat) (c : StepRecord) (f : HeadRecord → HeadRecord) : State :=
  withHead 2 (fun r => f { r with stepIndex := i, context := some c }) (running i 1)

theorem wit_DurationStepEnds :
    let meets (i : Nat) (c : StepRecord) (f : HeadRecord → HeadRecord) : Prop :=
      let s := stepping2 i c f
      (s.heads.get 2).state = .running ∧ (s.heads.get 2).context = some c ∧
        (s.heads.get 2).program = some 2 ∧
        ∀ z : Zone, (s.zoneConfig (zoneCh 2 z)).bandAction = .report
    let endpoint (n : Nat) : StepRecord := { step0 0 with endKind := .endpoint, maxCycles := n }
    let settled : StepRecord := { step0 1 with endKind := .settled, maxCycles := 1, timeoutAction := 1 }
    let known : State := { running 0 1 with map := { base.map with learnedHead := Tab.all 4 (some 80) } }
    meets 0 (step0 1) id ∧ meets 1 (step0 65535) (fun r => { r with cycleCount := 65534 }) ∧
      meets 0 (step0 9) (fun r => { r with skip := true }) ∧
      meets 0 (endpoint 9) (fun r => { r with latch := some 4, endpoint := some 5 }) ∧
      meets 0 (endpoint 1) id ∧ meets 0 settled id ∧
      (∀ v, some (⟨4, 0, 81⟩ : CommandValue) = some v →
        v.code = 4 ∧ ∃ q, known.map.learnedHead.get 2 = some q ∧ q ≠ v.seq) := by
  refine ⟨?_, ?_, ?_, ?_, ?_, ?_, ?_⟩
  iterate 6 decide +kernel
  rintro v h
  cases h
  exact ⟨rfl, 80, by decide +kernel, by decide⟩

/-- R30 to R32: an ENDPOINT step ends at a count other than its latch, a step past its limit times
out as NEXT (0) or FAULT (1), and a SKIP that arrives in this delivery leaves its step going. -/
theorem test_step_ends :
    let endpoint (a : Octet) : StepRecord :=
      { step0 0 with endKind := .endpoint, maxCycles := 1, timeoutAction := a }
    let t (c : StepRecord) (d : Delivery) (f : HeadRecord → HeadRecord) : HeadRecord :=
      (after (.cycleDelivery 2 d)
        { stepping2 0 c f with map := { base.map with learnedHead := Tab.all 4 (some 80) } }).heads.get 2
    let skip : Delivery := { nothing with command := some ⟨4, 0, 81⟩ }
    (t (endpoint 0) { nothing with endpoint := some 5 } (fun r => { r with latch := some 4 })).stepIndex = 1 ∧
      (t (endpoint 0) nothing id).stepIndex = 1 ∧ (t (endpoint 1) nothing id).state = .safeHold ∧
      (t (endpoint 1) nothing id).cause = .stepTimeout ∧
      (t (step0 9) skip id).stepIndex = 0 ∧ (t (step0 9) skip id).skip = true ∧
      (t (step0 9) nothing (fun r => { r with skip := true })).stepIndex = 1 := by decide +kernel

/-- A state in a transparent period that the next `5 - n` ticks bring to its end, unless the
hand-over of the RESET's frame 5 still waits. -/
def within (n : Nat) (waits : Bool) (s : State) : State :=
  { s with
    ring := { s.ring with transparent := true, resetTicks := n, resetFrame := some 5 }
    awaiting := if waits then [⟨5, .parkRequest 1⟩] else [] }

theorem wit_TickMovesTime :
    tickGoesOn base ∧ tickGoesOn (within 3 false base) ∧ tickGoesOn (within 5 true base) ∧
      ¬tickGoesOn (within 4 false base) ∧ ¬tickGoesOn (resetting .all) := by
  unfold tickGoesOn; decide +kernel

theorem wit_SafeHoldTick :
    (tickGoesOn (headIn .safeHold) ∧ tickGoesOn (within 0 false (headIn .safeHold))) ∧
      ((headIn .safeHold).heads.get 2).state = .safeHold := by
  unfold tickGoesOn; decide +kernel

theorem wit_RegulatorPortSends :
    let r (p : Tab 34 Bool) : State :=
      { base with reg := { base.reg with pending := p, refresh := 7 } }
    let free : State := { base with reg := { base.reg with refresh := 7, inHand := none } }
    (∀ c : Chan, (r (Tab.all 34 false)).reg.pending.get c = false) ∧
      ((r (Tab.all 34 true)).reg.pending.get 0 = true ∧
        ∀ x < (0 : Chan), (r (Tab.all 34 true)).reg.pending.get x = false) ∧
      (r ((Tab.all 34 false).upd 33 true)).reg.pending.get 33 = true ∧
      (∀ x < (33 : Chan), (r ((Tab.all 34 false).upd 33 true)).reg.pending.get x = false) ∧
      (tickGoesOn base ∧ base.reg.refresh + 1 < 8 ∧ 4095 < 4096) ∧
      (8 ≤ (r (Tab.all 34 false)).reg.refresh + 1 ∧ (r (Tab.all 34 false)).reg.inHand ≠ none) ∧
      8 ≤ free.reg.refresh + 1 ∧ free.reg.inHand = none := by
  unfold tickGoesOn; decide +kernel

/-- Table 4-1: channel 33 and code 0xABC leave as 100001 101010111100 and the parity bit 0. -/
theorem test_regulator_word : regulatorWord 33 0xABC = 0b1000011010101111000#19 := by decide

theorem wit_GaugeErrorsRaise :
    let short : GaugeBits := ⟨List.replicate 18 true, true⟩
    let unstopped : GaugeBits := { word 9 1700 (oddParity 9 1700) with stop := false }
    let even := word 9 1700 (!oddParity 9 1700)
    let odd (n : Nat) := word n 5 (oddParity n 5)
    (short.bits.length ≠ 19 ∧ unstopped.stop = false) ∧
      (even.bits.length = 19 ∧ even.stop = true ∧ even.bits.count true % 2 = 0) ∧
      ∀ n ∈ [34, 63],
        34 ≤ n ∧ n < 64 ∧ (odd n).stop = true ∧ ((odd n).bits.drop 6).length = 13 ∧
          (odd n).bits = ((List.range 6).map fun i => n.testBit (5 - i)) ++ (odd n).bits.drop 6 ∧
          (odd n).bits.count true % 2 = 1 := by decide +kernel

theorem wit_GaugeErrorsRaise_tick :
    tickGoesOn base ∧ (base.filters.get 33).age + 1 ≤ 65535 := by
  unfold tickGoesOn; decide +kernel

theorem wit_IdleTimers :
    let s : State := { base with idle := base.idle.upd 1 ⟨1, 999, 60, 2, 20⟩ }
    tickGoesOn s ∧ (s.idle.get 1).interval ≠ 0 ∧ 1000 ≤ (s.idle.get 1).millis + 1 ∧
      (s.idle.get 1).seconds ≤ 1 := by
  unfold tickGoesOn; decide +kernel

theorem wit_GaugeWordOfAZone :
    ∀ c ∈ [(0 : Chan), 27, 28, 30, 31, 33],
      let w := word c.val 4095 (oddParity c.val 4095)
      4095 < 4096 ∧ w.stop = true ∧
        w.bits =
          ((List.range 6).map fun i => c.val.testBit (5 - i)) ++
            ((List.range 12).map fun i => Nat.testBit 4095 (11 - i)) ++
              [oddParity c.val 4095] ∧
        w.bits.count true % 2 = 1 := by decide +kernel

theorem wit_DockCommandsAreJudged :
    let s : State :=
      { base with map := { base.map with learnedDock := base.map.learnedDock.upd 1 (some 80) } }
    ((0x04#8 ≠ 0xFF#8 ∧ 4 ≤ (0x04#8).toNat) ∧ (0xFE#8 ≠ 0xFF#8 ∧ 4 ≤ (0xFE#8).toNat)) ∧
      (0x03#8 ≠ 0xFF#8 ∧ (0x03#8).toNat = (3 : Head).val) ∧
      base.map.learnedDock.get 1 = none ∧ s.map.learnedDock.get 1 = some (80 : Word16) ∧
      (80 : Word16) ≠ 81 ∧
      Instr.dockCommandNone 1 81 ∉ (s.takeUp (.dockDelivery 1 ⟨0xFF, 0, 81⟩)).handed ∧
      Instr.dockCommandHead 1 0xFF 81 ∉ (s.takeUp (.dockDelivery 1 ⟨0xFF, 0, 81⟩)).handed := by
  decide +kernel

theorem wit_OffersAreJudged_turned_away :
    let declined (o : Offer) (s : State) : Prop :=
      o.source = .idleWet ∧ ∃ x ∈ (s.queues.get 1).orders, x.source = .idleWet
    let o : Offer := ⟨.direct, 0, 5, .single⟩
    let stopped := withInput estop0 true true true
    declined ⟨.idleWet, 0, 20, .burst⟩ (dispensing id [order0 .idleWet 20 0 .burst true]) ∧
      (¬declined o stopped ∧ stopped.functionActive .estop = true) ∧
      (let s := dispensing id (List.replicate 8 (order0 .direct 5 0 .single false))
      ¬declined o s ∧ s.functionActive .estop = false ∧ 8 ≤ (s.queues.get 1).orders.length) := by
  decide +kernel

theorem wit_OffersAreJudged_queued :
    let meets (s : State) : Prop :=
      s.functionActive .estop = false ∧ (s.queues.get 1).orders.length < 8 ∧
        ∀ l, (s.queues.get 1).orders.any (queuedOn l) = true →
          (s.queues.get 1).orders.any (activeOn l) = true
    let busy := dispensing id (List.replicate 7 (order0 .direct 5 0 .single true))
    let off := dispensing (fun x => { x with config := { x.config with enabled := false } }) []
    let free := dispensing id []
    (meets busy ∧ (busy.queues.get 1).orders.any (activeOn 0) = true) ∧
      (meets off ∧ (off.queues.get 1).orders.any (activeOn 0) = false ∧
        ¬((off.lineOf 1 0).config.valid = true ∧ (off.lineOf 1 0).config.enabled = true)) ∧
      meets free ∧ (free.lineOf 1 0).config.valid = true ∧ (free.lineOf 1 0).config.enabled = true ∧
      free.functionActive (.supplyLow 1 0) = false ∧ free.verifier.vbr = false ∧
      ((free.lineOf 1 0).config.strokePeriod ≤ (free.lineOf 1 0).elapsed ∧
        (free.lineOf 1 0).window = none ∧
        Instr.burstStroke 1 0 ∉ (free.takeUp (.orderOffer 1 ⟨.direct, 0, 5, .burst⟩)).handed) ∧
      (let gated : State := { free with verifier := { free.verifier with vbr := true } }
      meets gated ∧ gated.verifier.vbr = true ∧ gated.verifier.line.state ≠ .verified) ∧
      (let low : State :=
        { free with
          inputs := base.inputs.upd 3 ⟨⟨true, .supplyLow, 1, 0, true, .level, 0⟩, true, true, 0, false⟩ }
      meets low ∧ low.functionActive (.supplyLow 1 0) = true) := by
  decide +kernel

/-- Table 6-3: with verify-before-run on, an offer that meets a LINE group whose write notice is
still waiting ends LINE_OFF (status 5). -/
theorem test_offer_after_write :
    let s : State :=
      { dispensing id [] with
        verifier := { base.verifier with vbr := true, line := ⟨.verified, 0, 0, 0, 0⟩ } }
    let t := after (.orderOffer 1 ⟨.direct, 0, 5, .single⟩) (after (.lineWriteApply 4 line0.config) s)
    (t.queues.get 1).orders = [] ∧
      t.handed = [.writeNotice .line, .eventRaise .orderEnded (.line 4) (detail 40 5) 0] := by
  decide +kernel

theorem wit_NoticesEndOrders :
    let named := order0 (.step 2) 5 1 .single true
    let other (active : Bool) : Order := { order0 .direct 5 1 .single active with line := 1 }
    let s := dispensing id [named, other true, other false]
    named ∈ (s.queues.get 1).orders ∧ other true ∈ (s.queues.get 1).orders ∧
      (other true).active = true ∧ other false ∈ (s.queues.get 1).orders ∧
      activeOn 1 (other true) = true ∧ (other true).source ≠ .step 2 := by decide +kernel

/-- Each case of a line's turn, met on line 0 of platen 1: a BURST order that is ready, with strokes
to make and with one to make, one that is not ready, a disabled line, a low supply, an unverified
group, a write to this line waiting and one to another. -/
theorem wit_turnsTaken :
    let burst (made : Nat) := order0 .direct 5 made .burst false
    let s := dispensing id [burst 4, burst 0]
    let x := s.lineOf 1 0
    let early := (dispensing (fun x => { x with elapsed := 99 }) [burst 0]).lineOf 1 0
    let off := dispensing (fun x => { x with config := { x.config with enabled := false } }) []
    let checked (g : GroupState) (i : LineIx) : State :=
      { s with
        verifier := { base.verifier with vbr := true, line := ⟨g, 0, 0, 0, 0⟩ }
        written := [.line i] }
    let low : State :=
      { s with
        inputs := base.inputs.upd 3 ⟨⟨true, .supplyLow, 1, 0, true, .level, 0⟩, true, true, 0, false⟩ }
    ((s.queues.get 1).orders.any (activeOn 0) = false ∧
        (s.queues.get 1).orders.filter (queuedOn 0) = burst 4 :: [burst 0]) ∧
      (x.config.valid = true ∧ x.config.enabled = true ∧ x.config.strokePeriod ≤ x.elapsed ∧
        0 < x.config.strokePeriod ∧ x.window = none ∧ (burst 4).strokes + 1 = (burst 4).count ∧
        (burst 0).strokes + 1 < (burst 0).count) ∧
      early.elapsed < early.config.strokePeriod ∧ (off.lineOf 1 0).config.enabled = false ∧
      low.functionActive (.supplyLow 1 0) = true ∧ s.functionActive (.supplyLow 1 0) = false ∧
      (checked .failed 5).verifier.line.state ≠ .verified ∧
      .line (lineIx 1 0) ∈ (checked .verified 4).written ∧
      .line (lineIx 1 0) ∉ (checked .verified 5).written := by decide +kernel

/-- R99: an order stopped on line 0 frees it for none, and a step end frees it for the next order,
whose one stroke is made at once and ends it, and then for the one after that. -/
theorem test_turns :
    let s :=
      dispensing id
        [order0 (.step 2) 5 1 .single true, order0 .direct 1 0 .burst false,
          order0 .direct 3 0 .burst false]
    let t := after (.stepEndNotice 1 2) s
    (after (.stopLineApply 1 0) s).pumpOut = [] ∧ t.pumpOut = [4] ∧
      (t.queues.get 1).orders = [order0 .direct 3 0 .burst true] := by decide +kernel

/-- Tables 3-4 and 6-3: with verify-before-run on, a START of the zone's head is GATED while the
notice of the write waits, and a START of another head is judged on the verifier as it stands. -/
theorem test_start_after_write :
    let v : GroupRecord := ⟨.verified, 0, 0, 0, 0⟩
    let s : State :=
      { base with
        verifier := { base.verifier with vbr := true, cellmap := v, program := v, zone := v } }
    let t (c : ZoneCh) : HeadOutcome :=
      ((after (.start 2 2 81) (after (.zoneWriteApply c (zone0 0)) s)).heads.get 2).lastOutcome
    t 14 = .gated ∧ t 20 = .gated ∧ t 13 = .accepted ∧ t 21 = .accepted := by decide +kernel

theorem wit_StrokesAreCounted :
    let meets (s : State) (o : Order) : Prop :=
      (s.queues.get 1).orders = [] ++ o :: [] ∧ o.active = true ∧ o.line = 0 ∧
        o.strokes < o.count
    let b := order0 .idleWet 2 0 .burst true
    let g := order0 .direct 1023 1021 .single true
    let due := dispensing (fun x => { x with elapsed := 100, window := some ⟨3, true⟩ }) [b]
    let last := order0 .direct 1023 1022 .burst true
    let missing (n : Nat) :=
      dispensing (fun x => { x with elapsed := 100, window := some ⟨3, false⟩, miss := n }) [last]
    let owed := dispensing (fun x => { x with elapsed := 100, owed := true }) [g]
    let early := dispensing (fun x => { x with elapsed := 99 }) [b]
    ((meets due b ∧ b.mode = .burst ∧
          (due.lineOf 1 0).config.strokePeriod ≤ (due.lineOf 1 0).elapsed) ∧
        (due.lineOf 1 0).window = some ⟨3, true⟩) ∧
      (meets owed g ∧ g.mode = .single ∧ (owed.lineOf 1 0).owed = true ∧
        (owed.lineOf 1 0).config.strokePeriod ≤ (owed.lineOf 1 0).elapsed ∧
        (owed.lineOf 1 0).window = none) ∧
      (meets early b ∧ (early.lineOf 1 0).elapsed < (early.lineOf 1 0).config.strokePeriod) ∧
      tickGoesOn early ∧ (early.lineOf 1 0).window = none ∧
      (early.lineOf 1 0).config.strokePeriod ≤ min ((early.lineOf 1 0).elapsed + 1) 2000 ∧
      (∀ n ∈ [0, 1],
        meets (missing n) last ∧ last.strokes + 1 = last.count ∧
          (missing n).lineOf 1 0 = { line0 with window := some ⟨3, false⟩, elapsed := 100, miss := n } ∧
          (line0.config.missLimit ≤ n + 1 ↔ n = 1)) ∧
      ∀ y ∈ ((missing 0).queues.get 1).orders,
        ∃ a ∈ ((missing 0).queues.get 1).orders, activeOn y.line a = true := by
  unfold tickGoesOn; decide +kernel

/-- R100 and R104: the last stroke ends its order DONE (0), and a stroke whose old window is the
miss at the limit ends it FLOW_FAULT with itself counted; the order behind it then becomes
ACTIVE. -/
theorem test_stroke_ends :
    let o := order0 .direct 5 4 .burst true
    let behind := order0 (.step 2) 6 0 .single false
    let t (w : Option FlowWindow) : State :=
      after (.burstStroke 1 0)
        (dispensing (fun x => { x with elapsed := 100, window := w, miss := 1 }) [o, behind])
    (∀ w ∈ [none, some ⟨3, true⟩],
        (t w).handed = [.idleTimerReload 1, .eventRaise .orderEnded (.line 4) (detail 40 0) 5]) ∧
      (t (some ⟨3, false⟩)).handed.take 2 =
        [.idleTimerReload 1,
          .eventRaise .orderEnded (.line 4) (detail 40 (endStatusCode .flowFault)) 5] ∧
      ((t none).queues.get 1).orders = [{ behind with active := true }] := by
  decide +kernel

theorem wit_CycleNoticesTrigger :
    let g := order0 .direct 5 1 .single true
    let docked (f : LineState → LineState) (o : Order) : Prop :=
      let s := dispensing f [o]
      (s.docks.get 1).docked = some 2 ∧ (s.queues.get 1).orders = [o] ∧ o.active = true ∧
        o.mode = .single
    (base.docks.get 0).docked ≠ some 2 ∧ (base.queues.get 1).orders = [] ∧
      docked (fun x => { x with owed := true }) g ∧
      (docked (fun x => { x with elapsed := 99 }) g ∧ 99 < line0.config.strokePeriod) ∧
      (docked id g ∧ line0.owed = false ∧ line0.config.strokePeriod ≤ line0.elapsed ∧
        g.strokes < g.count) ∧
      docked id (order0 .idleWet 5 1 .single true) ∧ docked id (order0 (.step 2) 5 1 .single true) ∧
      g.strokes + 1 < g.count ∧ line0.window = none ∧
      (docked id (order0 (.step 1) 5 1 .single true) ∧ (1 : Head) ≠ 2) := by
  decide +kernel

theorem wit_FlowIsChecked :
    let s (credited : Bool) (miss : Nat) :=
      dispensing (fun x => { x with window := some ⟨0, credited⟩, miss := miss }) []
    ((dispensing id []).lineOf 1 0).window = none ∧
      ((s true 0).lineOf 1 0).window = some ⟨0, true⟩ ∧
      (((s false 0).lineOf 1 0).window = some ⟨0, false⟩ ∧
        ((s false 0).lineOf 1 0).miss + 1 < ((s false 0).lineOf 1 0).config.missLimit) ∧
      ((s false 1).lineOf 1 0).window = some ⟨0, false⟩ ∧
      ((s false 1).lineOf 1 0).config.missLimit ≤ ((s false 1).lineOf 1 0).miss + 1 ∧
      ((s false 1).queues.get 1).orders = [] ∧
      (tickGoesOn (s false 1) ∧ ((s false 1).lineOf 1 0).owed = false) ∧
      (let o := order0 .direct 5 2 .single true
      let busy := dispensing (fun x => { x with window := some ⟨0, false⟩, miss := 1 }) [o]
      (busy.queues.get 1).orders = [] ++ o :: [] ∧ activeOn 0 o = true ∧
        (busy.lineOf 1 0).config.missLimit ≤ (busy.lineOf 1 0).miss + 1) := by
  unfold tickGoesOn; decide +kernel

theorem wit_ConditionerDeliveries :
    let s : State :=
      { base with map := { base.map with learnedCond := base.map.learnedCond.upd 1 (some 80) } }
    (base.map.learnedCond.get 1 = none ∧ s.map.learnedCond.get 1 = some 80 ∧
        (80 : Word16) ≠ 81) ∧
      Instr.sweep 1 4 81 ∉ (s.takeUp (.conditionerCommandDelivery 1 ⟨1, 4, 81⟩)).handed := by
  decide +kernel

/-- R122: a step-start PARK in FAULTED is refused with reason FAULTED, one in PARKED raises nothing,
and a step-start SWEEP of a profile that is not usable is refused BAD_PROFILE; no outcome is
recorded. -/
theorem test_step_commands :
    let s (st : CondState) := conditioning fun c => { c with state := st, lastSeq := 9 }
    let t (st : CondState) (x : StepCommand) := after (.stepConditionerCommand 1 x) (s st)
    (t .faulted .park).handed =
        [.eventRaise .cmdRefused (.conditioner 1) 2 (w16 (condOutcomeCode .faulted))] ∧
      (t .parked .park).handed = [] ∧
      (t .parked (.sweep 7)).handed =
        [.eventRaise .cmdRefused (.conditioner 1) 1 (w16 (condOutcomeCode .badProfile))] ∧
      ((t .faulted .park).conds.get 1).lastSeq = 9 := by decide +kernel

theorem wit_ConditionerTimers :
    let s (sub : CondSubstate) :=
      conditioning fun c => { c with state := .sweeping, substate := sub, profile := some 4 }
    (((s .dwelling).conds.get 1).state = .sweeping ∧
        ((s .dwelling).conds.get 1).substate = .dwelling ∧
        ((s .dwelling).conds.get 1).profile = some 4) ∧
      (base.conds.get 1).state = .parking ∧
      ((conditioning fun c => { c with state := .parked }).conds.get 1).state = .parked ∧
      ((s .reaching).conds.get 1).substate = .reaching ∧
      ((s .reaching).segmentOf 4 1).dwell ≠ 0 ∧
      ((s .reaching).conds.get 1).target = 0 ∧
      (let short : State := { s .reaching with segments := base.segments }
      (short.conds.get 1).profile = some 4 ∧ (short.segmentOf 4 1).dwell = 0) ∧
      (tickGoesOn base ∧ 1 < (base.conds.get 1).timer) ∧
      (((s .reaching).conds.get 1).timer = 5000 ∧
        ((conditioning fun c => { c with timer := 1 }).conds.get 1).timer ≤ 1 ∧
        ((conditioning fun c =>
          { c with state := .sweeping, substate := .dwelling, timer := 1 }).conds.get 1).timer ≤ 1) := by
  unfold tickGoesOn; decide +kernel

/-- Table 7-3: while the notice of a write waits, a SWEEP of profile 4 is GATED if the write was to
the profile or to a segment of its range 20 to 21, and accepted if it was to another entry. -/
theorem test_sweep_after_write :
    let s : State :=
      { conditioning fun c => { c with state := .parked } with
        verifier := { base.verifier with vbr := true, sweep := ⟨.verified, 0, 0, 0, 0⟩ } }
    let t (c : Instr) : CondOutcome := ((after (.sweep 1 4 81) (after c s)).conds.get 1).lastOutcome
    t (.segmentWriteApply 21 ⟨true, 2600, 350, 40⟩) = .gated ∧
      t (.segmentWriteApply 22 ⟨true, 2600, 350, 40⟩) = .accepted ∧
      t (.profileWriteApply 4 ⟨true, 20, 2, 1, 10, 500⟩) = .gated ∧
      t (.profileEraseApply 5) = .accepted ∧ t (.profileEraseApply 4) = .badProfile := by
  decide +kernel

/-- R117: a segment of dwell 0 ends with the update that reaches it, and one that dwells judges no
update. -/
theorem test_position_updates :
    let s (sub : CondSubstate) (dwell : Nat) : State :=
      { conditioning fun c =>
          { c with state := .sweeping, substate := sub, profile := some 4, target := 1200 } with
        segments :=
          (base.segments.upd 20 ⟨true, 1200, 300, dwell⟩).upd 21 ⟨true, 2600, 350, 40⟩ }
    let t (sub : CondSubstate) (dwell fb : Nat) : Conditioner :=
      (after (.positionUpdate 1 fb) (s sub dwell)).conds.get 1
    ((t .reaching 0 1210).segment = 1 ∧ (t .reaching 0 1210).posOut = 2600) ∧
      (t .reaching 0 1211).segment = 0 ∧ (t .reaching 40 1190).substate = .dwelling ∧
      t .dwelling 40 1200 = (s .dwelling 40).conds.get 1 := by decide +kernel

/-- Program 2, which covers records 94 and 95, claimed by head 2. -/
def claimed2 : State :=
  { base with store := { base.store with claims := base.store.claims.upd 2 (some 2) } }

theorem wit_ClaimedRecordsAreKept :
    let swept := conditioning fun c => { c with state := .sweeping, profile := some 4 }
    (claimed2.store.claims.get 2 = some 2 ∧ ¬∃ h, claimed2.store.claims.get h = some 3) ∧
      ((claimed2.store.dir.get 2).first ≤ (95 : Fin 96).val ∧
        (95 : Fin 96).val < (claimed2.store.dir.get 2).first + (claimed2.store.dir.get 2).count) ∧
      ((swept.conds.get 1).state = .sweeping ∧ (swept.conds.get 1).profile = some 4) ∧
      (∀ p : Platen, (swept.conds.get p).profile ≠ some 5 ∧
        (swept.conds.get p).pendingProfile ≠ some 5) ∧
      (swept.profiles.get 4).first ≤ (21 : Fin 96).val ∧
      (21 : Fin 96).val < (swept.profiles.get 4).first + (swept.profiles.get 4).count := by
  decide +kernel

theorem wit_ZoneAndLineWrites :
    let used := dispensing id [order0 .direct 5 0 .single false]
    ((headIn .running).heads.get (headOfZone 14)).state = .running ∧
      ((headIn .paused).heads.get (headOfZone 20)).state = .paused ∧
      ((headIn .done).heads.get (headOfZone 14)).state = .done ∧
      ((headIn .safeHold).heads.get (headOfZone 20)).state = .safeHold ∧
      (∃ o ∈ (used.queues.get (platenOfLine 4)).orders, o.line = lineOfLine 4) ∧
      ¬∃ o ∈ (used.queues.get (platenOfLine 5)).orders, o.line = lineOfLine 5 := by
  decide +kernel

theorem wit_MapAndInputWrites :
    let m := map8.entries
    let on := withInput estop0 true true true
    (((1 : Fin 128) ≠ 0 ∧ (m.get 1).valid = true ∧ (m.get 1).tag = 101) ∧
        ∀ j : Fin 128, j ≠ 5 → (m.get j).valid = true → (m.get j).tag ≠ 102) ∧
      InputUnit.isActive (on.inputs.get 3) = true ∧
      InputUnit.isActive (base.inputs.get 3) = false ∧
      (base.inputs.get 3).filtered ≠ estop0.polarity := by decide +kernel

/-- R174 to R176: an ESTOP entry written to an input whose level it takes as asserted makes it
active: INPUT_CHANGE and the ten notices. -/
theorem test_write_asserts :
    let s := withInput .erased true true false
    let t := after (.inputWriteApply 3 estop0) s
    InputUnit.isActive (t.inputs.get 3) = true ∧ t.handed.length = 11 ∧
      t.handed.head? = some (.eventRaise .inputChange (.input 3) (inputDetail estop0) (detail 1 1)) := by
  decide +kernel

/-- The LINE group while its last octets have been scanned, with CRC 0xFFFF and a check word. -/
def scanned (st : GroupState) (check : Word16) : State :=
  base.setGroup .line ⟨st, check, 84, 0xFFFF, 9⟩

theorem wit_GroupsAreVerified :
    let crc (s : State) :=
      crc16Run (s.verifier.group .line).crc
        ((s.groupImage .line).drop (s.verifier.group .line).position)
    let good := scanned .verifying (crc (scanned .verifying 0))
    let bad := scanned .verifying (crc (scanned .verifying 0) + 1)
    ((good.verifier.group .line).state = .verifying ∧
        crc good = (good.verifier.group .line).check) ∧
      ((bad.verifier.group .line).state = .verifying ∧
        crc bad ≠ (bad.verifier.group .line).check) ∧
      ((scanned .verified 0).verifier.group .line).state ≠ .verifying ∧
      (tickGoesOn good ∧ 2 ≤ (good.verifier.group .line).ticks + 1 ∧
        ((scanned .verified 0).verifier.group .line).ticks + 1 < 50) := by
  unfold tickGoesOn; decide +kernel

theorem wit_SettingsAreReplaced :
    let p (code inst a b : Octet) : List Octet := [5, code, inst, a, b, 0, 0, 0, 0, 0]
    (octAt (p 11 0 0 0) 0 = 5 ∧ (p 11 0 0 0).length = 10 ∧ 10 < octAt (p 11 0 0 0) 1) ∧
      octAt (p 0 0 3 232) 1 = 0 ∧ (octAt (p 1 0 1 0) 1 = 1 ∧ 1 < octAt (p 1 0 2 0) 3) ∧
      (octAt (p 2 0 255 0) 3 = 255 ∧ 24 < octAt (p 3 0 25 0) 3 ∧
        octAt (p 3 0 24 0) 3 = (kindCode .resetDone).val) ∧
      (24 < octAt (p 4 25 0 0) 2 ∧ octAt (p 4 24 4 0) 2 ≤ 24 ∧ 3 < octAt (p 4 24 4 0) 3 ∧
        1 < octAt (p 4 24 3 2) 4 ∧ octAt (p 4 24 3 1) 2 = (kindCode .resetDone).val ∧
        octAt (p 4 24 3 1) 3 = (3 : Fin 4).val ∧ octAt (p 4 24 3 1) 4 ≤ 1) ∧
      (2 < octAt (p 5 3 0 0) 2 ∧ ¬(0 ≤ octAt16 (p 5 2 14 17) 3 ∧ octAt16 (p 5 2 14 17) 3 ≤ 3600) ∧
        octAt (p 5 2 14 16) 2 = (2 : Platen).val ∧ octAt16 (p 5 2 14 16) 3 ≤ 3600) ∧
      3 < octAt16 (p 6 2 0 4) 3 ∧ octAt16 (p 6 2 0 3) 3 = (3 : Line).val := by decide

theorem wit_CadenceIsJudged :
    let c (st : CadenceState) (expired : Bool) : Cadence :=
      { base.cadence with state := st, expired := expired }
    (c .unarmed false).state = .unarmed ∧
      ((c .lost true).state ≠ .unarmed ∧ (c .lost true).expired = true) ∧
      ((c .locked false).state ≠ .unarmed ∧ (c .locked false).expired = false ∧
        (c .locked false).lastEnd = some (0 : BitVec 32)) ∧
      ((699 : BitVec 32) - 0).toNat < base.cadence.early ∧
      base.cadence.early ≤ ((700 : BitVec 32) - 0).toNat ∧
      ((1500 : BitVec 32) - 0).toNat ≤ base.cadence.late ∧
      (State.reset.cadence.timer = none ∧ base.cadence.timer = some 1500) ∧
      { base with us := 1000 }.phase + ((1500 : BitVec 32) - 1000).toNat < 1000 := by
  decide +kernel

theorem wit_InputsAreFiltered :
    let s (raw filtered : Bool) := withInput estop0 raw filtered false
    ((true = ((s true true).inputs.get 3).raw ∧ false ≠ ((s true false).inputs.get 3).raw ∧
          false = ((s true false).inputs.get 3).filtered) ∧
        true ≠ ((s false false).inputs.get 3).raw ∧
        true ≠ ((s false false).inputs.get 3).filtered ∧
        ((s false false).inputs.get 3).config.filter = 0) ∧
      (((s true true).inputs.get 3).raw = ((s true true).inputs.get 3).filtered ∧
        ((s true false).inputs.get 3).raw ≠ ((s true false).inputs.get 3).filtered) ∧
      ((s true true).inputs.get 3).filtered = ((s true true).inputs.get 3).config.polarity ∧
      ((s true false).inputs.get 3).filtered ≠ ((s true false).inputs.get 3).config.polarity ∧
      (tickGoesOn (s true false) ∧
        ((s true false).inputs.get 3).config.filter ≤ ((s true false).inputs.get 3).stability + 1) ∧
      (let slow := withInput { estop0 with filter := 15 } true false false
      (slow.inputs.get 3).raw ≠ (slow.inputs.get 3).filtered ∧
        (slow.inputs.get 3).stability + 1 < (slow.inputs.get 3).config.filter) := by
  unfold tickGoesOn; decide +kernel

theorem wit_EventsAreQueued_matched :
    let off : State := base.setEvents { base.events with kinds := Tab.all 25 ⟨1, false⟩ }
    let r := rec0 .saturated 1 (.zone 3) none
    (off.events.kinds.get (kindCode .saturated)).enable = false ∧
      (base.events.kinds.get (kindCode .saturated)).enable = true ∧
      (queueOf [r]).events.records = [] ++ r :: [] ∧ r.flight = none ∧ r.kind = .saturated ∧
      r.source = .zone 3 := by decide +kernel

/-- A full queue of `n` records of level 1 and 32 − n of level 0. -/
def full (n : Nat) : State :=
  queueOf
    (((List.range n).map fun i => rec0 .missingCell 1 (.mapEntry (Fin.ofNat 128 i)) none) ++
      (List.range (32 - n)).map fun i => rec0 .orderEnded 0 (.line (Fin.ofNat 12 i)) none)

theorem wit_EventsAreQueued_full :
    let fresh (s : State) : Prop :=
      ∀ r ∈ s.events.records,
        ¬(r.flight = none ∧ r.kind = EventKind.saturated ∧ r.source = .zone 3)
    (fresh (queueOf []) ∧ (queueOf []).events.records.length < 32) ∧
      (fresh (full 32) ∧ 32 ≤ (full 32).events.records.length ∧
        ∀ r ∈ (full 32).events.records, r.flight = none → 1 ≤ r.rank) ∧
      (fresh (full 30) ∧ rankOf (full 30).events .saturated = 1) ∧
      (full 30).events.records =
        (full 30).events.records.take 31 ++ rec0 .orderEnded 0 (.line 1) none :: [] ∧
      (∀ y ∈ (full 30).events.records.take 31, y.flight = none → 0 ≤ y.rank) := by
  decide +kernel

/-- Three records of frame 5: one is QUEUED alone, and one merges with an older or a younger
twin. -/
theorem wit_EventsAreQueued_returned :
    let x := rec0 .orderEnded 0 (.line 1) (some 5)
    let r := rec0 .saturated 1 (.zone 3) (some 5)
    let y := rec0 .saturated 1 (.zone 3) none
    let same (r x : EventRecord) : Prop := x.flight = none ∧ x.kind = r.kind ∧ x.source = r.source
    ((queueOf [x, r, y]).events.records = [] ++ x :: [r, y] ∧ x.flight = some 5 ∧
        ∀ z ∈ ([] ++ [r, y] : List EventRecord), ¬same x z) ∧
      ((queueOf [y, r, r]).events.records = ([] ++ y :: []) ++ r :: [r] ∧ same r y ∧
        ∀ z ∈ ([y] : List EventRecord), z.flight ≠ some 5) ∧
      ((queueOf [r, r, y]).events.records = [] ++ r :: ([r] ++ y :: []) ∧
        ∀ z ∈ ([] ++ [r] : List EventRecord), ¬same r z) ∧
      ∀ z ∈ (queueOf [y]).events.records, z.flight ≠ some 5 := by decide +kernel

/-- R183: two records of frame 5 return one after the other into the oldest place, and their counts
and lost counts add up under the youngest details. -/
theorem test_return_merges_twice :
    let r (d : Word16) (f : Option Nat) (lost : Nat) : EventRecord :=
      ⟨.saturated, 1, .zone 3, d, 0, 0, 0, lost, f⟩
    (after (.eventReturn 5) (queueOf [r 1 (some 5) 2, r 2 (some 5) 3, r 3 none 0])).events.records =
      [⟨.saturated, 1, .zone 3, 2, 0, 0, 2, 5, none⟩] := by decide +kernel

/-- The commands that the invariants' witnesses step over. -/
def stepping (c : Instr) : State := { State.reset with pending := [c] }

/-- The state a step answers with. -/
def next (s : State) : State :=
  match step s with
  | .next t => t
  | _ => s

theorem wit_EventLawKept :
    eventLaw (stepping (.eventRaise .saturated (.zone 3) 1 2)) ∧
      step (stepping (.eventRaise .saturated (.zone 3) 1 2)) =
        .next (next (stepping (.eventRaise .saturated (.zone 3) 1 2))) := by
  refine ⟨?_, rfl⟩
  simp [eventLaw, recordsGood, stepping, State.reset]

theorem wit_SetpointLawsKept :
    let s := stepping (.zoneWriteApply 3 (zone0 0))
    (codeLaw s ∧ commandsGood s ∧ stagedLaw s ∧ ceilingLaw s ∧ floorLaw s ∧ portLaw s) ∧
      step s = .next (next s) := by
  refine ⟨⟨?_, ?_, ?_, ?_, ?_, ?_⟩, rfl⟩
  · unfold codeLaw; decide +kernel
  · unfold commandsGood WellFormed; decide +kernel
  · unfold stagedLaw; decide +kernel
  · unfold ceilingLaw; decide +kernel
  · unfold floorLaw atFloors; decide +kernel
  · unfold portLaw; decide +kernel

/-- 3.8.2 as a step: the START that a delivery carries leaves head 2 RUNNING at its floors. -/
theorem wit_SetpointLawsKept_start :
    let s : State :=
      { base with
        zones := Tab.all 28 (.afterReset { zone0 0 with floor := 2000 })
        map := { base.map with learnedHead := Tab.all 4 (some 80) }
        pending := [.cycleDelivery 2 { nothing with command := some ⟨1, 2, 81⟩ }] }
    floorLaw s ∧ commandsGood s ∧ stagedLaw s ∧ ((next s).heads.get 2).state = .running ∧
      ∀ z : Zone, 2000 ≤ ((next s).zoneOf 2 z).setpoint := by
  refine ⟨?_, ?_, ?_, by decide +kernel, by decide +kernel⟩
  · unfold floorLaw atFloors; decide +kernel
  · unfold commandsGood WellFormed; decide +kernel
  · unfold stagedLaw; decide +kernel

theorem wit_DockLawKept :
    let s := stepping (.dockCommandHead 1 2 81)
    dockLaw s ∧ step s = .next (next s) := by
  refine ⟨?_, rfl⟩
  unfold dockLaw; decide +kernel

theorem wit_QueueLawKept :
    let s := stepping (.orderOffer 1 ⟨.direct, 0, 5, .burst⟩)
    queueLaw s ∧ step s = .next (next s) := by
  refine ⟨?_, rfl⟩
  unfold queueLaw queueGood; decide +kernel

theorem wit_StagedAndCadenceLawsKept :
    let s := stepping (.setCadence 1000 700 1500 3)
    (commandsGood s ∧ stagedLaw s ∧ cadenceLaw s ∧ slotsLaw s) ∧ step s = .next (next s) := by
  refine ⟨⟨?_, ?_, ?_, ?_⟩, rfl⟩
  · unfold commandsGood WellFormed; decide +kernel
  · unfold stagedLaw; decide +kernel
  · exact ⟨by decide, rfl⟩
  · unfold slotsLaw; decide

/-- Head 2 RUNNING under its claim of program 2, cadence LOST with its notice waiting, and a write
to a record of the program in front. -/
def running6 : State :=
  { running 0 9 with
    store := claimed2.store, cadence := { base.cadence with state := .lost }
    handed := [.cadenceLostNotice 2], pending := [.stepWriteApply 95 (step0 1)] }

theorem wit_StagedAndCadenceLawsKept_claims :
    (lostLaw running6 ∧ claimLaw running6) ∧ step running6 = .next (next running6) ∧
      (∀ h : Head, (running6.heads.get h).isActive = true →
        running6.pending.head? ≠ some (.programRelease h)) ∧
      ((running6.heads.get 2).isActive = true ∧ ((next running6).heads.get 2).isActive = true ∧
        (running6.heads.get 2).program = some 2 ∧ running6.store.claims.get 2 = some 2 ∧
        (running6.pending ++ running6.handed).head? ≠ some (.programRelease 2)) ∧
      (running6.store.dir.get 2).first ≤ (95 : Fin 96).val ∧
      (95 : Fin 96).val < (running6.store.dir.get 2).first + (running6.store.dir.get 2).count := by
  refine ⟨⟨?_, ?_⟩, rfl, ?_, ?_, ?_⟩
  · unfold lostLaw; decide +kernel
  · unfold claimLaw; decide +kernel
  · decide +kernel
  · decide +kernel
  · decide +kernel

end Sys2Proof.Tests
end

section
/-! PROOFS. Safe-hold arithmetic on a tick (R58): what one zone does, what one head with its zones
does, and that no other part of a tick that goes on touches either. -/

namespace Sys2Proof.Machine

open Sys2Proof

/-! ### Folds over a list of parts -/

/-- A fold over parts other than `b`, where only `b` acts on what `f` reads, leaves `f` alone. -/
theorem foldl_leaves_of_not_mem {σ α β : Type} (f : σ → β) (g : σ → α → σ) (b : α)
    (other : ∀ s a, a ≠ b → f (g s a) = f s) {l : List α} (notin : b ∉ l) (s : σ) :
    f (l.foldl g s) = f s := by
  induction l generalizing s with
  | nil => rfl
  | cons a l ih =>
    obtain ⟨ne, notin'⟩ : b ≠ a ∧ b ∉ l := by simpa using notin
    rw [List.foldl_cons, ih notin', other s a ne.symm]

/-- A fold over parts, where only `b` acts on what `f` reads, acts on it once. -/
theorem foldl_acts_once {σ α β : Type} (f : σ → β) (act : β → β) (g : σ → α → σ) (b : α)
    (same : ∀ s, f (g s b) = act (f s)) (other : ∀ s a, a ≠ b → f (g s a) = f s)
    {l : List α} (nodup : l.Nodup) (mem : b ∈ l) (s : σ) : f (l.foldl g s) = act (f s) := by
  obtain ⟨before, after, rfl⟩ := List.append_of_mem mem
  obtain ⟨notBefore, notAfter⟩ : b ∉ before ∧ b ∉ after := by
    simpa using (List.nodup_cons.mp (List.nodup_middle.mp nodup)).1
  rw [List.foldl_append, List.foldl_cons, foldl_leaves_of_not_mem f g b other notAfter, same,
    foldl_leaves_of_not_mem f g b other notBefore]

/-! ### One zone -/

/-- The move in the words of R58: at once at a rate of 0, else by the rate and not past the goal. -/
theorem approach_eq_min_max (cur goal rate : Nat) :
    approach cur goal rate =
      if rate = 0 then goal
      else if cur ≤ goal then min goal (cur + rate)
      else max goal (cur - rate) := by
  unfold approach
  split
  · rfl
  · split <;> split <;> omega

/-- A zone channel moved toward its safe value, with its code and SATURATED mark. -/
def ZoneChannel.safeMoved (x : ZoneChannel) : ZoneChannel :=
  let e := ZoneConfig.effective x.config
  let v := approach x.setpoint e.safeValue e.safeRate
  { x with
    setpoint := v, code := regulatorCode e.range v
    saturated := decide (regulatorCode e.range v = 4095) }

theorem safeMoveZone_zones (h : Head) (s : State) (z : Zone) :
    (safeMoveZone h s z).zones = s.zones.upd (zoneCh h z) (s.zoneOf h z).safeMoved :=
  State.setSetpoint_zones _ _ _

theorem safeMoveZone_zoneOf_same (h : Head) (s : State) (z : Zone) :
    (safeMoveZone h s z).zoneOf h z = (s.zoneOf h z).safeMoved := by
  simp [State.zoneOf, safeMoveZone_zones]

theorem safeMoveZone_zoneOf_ne {h k : Head} {y z : Zone} (s : State)
    (ne : zoneCh k y ≠ zoneCh h z) : (safeMoveZone k s y).zoneOf h z = s.zoneOf h z := by
  simp [State.zoneOf, safeMoveZone_zones, Tab.get_upd_ne _ _ ne]

/-! ### One head with its zones -/

/-- A head's record and its seven zones. -/
def State.headPart (s : State) (h : Head) : HeadRecord × (Zone → ZoneChannel) :=
  (s.heads.get h, s.zoneOf h)

theorem State.headPart_congr {s t : State} (heads : t.heads = s.heads) (zones : t.zones = s.zones)
    (h : Head) : t.headPart h = s.headPart h := by
  simp [State.headPart, State.zoneOf, heads, zones, funext_iff]

/-- The substate that zones at their safe values, or short of them, give (R18). -/
def safeJudged (zs : Zone → ZoneChannel) : HeadSubstate :=
  if ∀ z, (zs z).setpoint = (ZoneConfig.effective (zs z).config).safeValue then .settled
  else .settling

theorem safeSubstate_eq_safeJudged (s : State) (h : Head) :
    s.safeSubstate h = safeJudged (s.zoneOf h) :=
  safeSubstate_eq s h

/-- What a tick does to a head in SAFE_HOLD and its zones; a head in another state
and its zones stay. -/
def safeTicked (p : HeadRecord × (Zone → ZoneChannel)) : HeadRecord × (Zone → ZoneChannel) :=
  if p.1.state = .safeHold then
    ({ p.1 with substate := safeJudged fun z => (p.2 z).safeMoved }, fun z => (p.2 z).safeMoved)
  else p

theorem safeTicked_of_safeHold {p : HeadRecord × (Zone → ZoneChannel)}
    (hold : p.1.state = .safeHold) :
    safeTicked p =
      ({ p.1 with substate := safeJudged fun z => (p.2 z).safeMoved },
        fun z => (p.2 z).safeMoved) :=
  if_pos hold

/-- A later zone's move leaves an earlier one's alone, so each zone moves once. -/
theorem foldl_safeMoveZone_zoneOf_same (h : Head) (s : State) (z : Zone) :
    ((List.finRange 7).foldl (safeMoveZone h) s).zoneOf h z = (s.zoneOf h z).safeMoved :=
  foldl_acts_once (fun s => s.zoneOf h z) ZoneChannel.safeMoved (safeMoveZone h) z
    (fun s => safeMoveZone_zoneOf_same h s z)
    (fun s _ ne => safeMoveZone_zoneOf_ne s fun e => ne (zoneCh_inj e))
    (List.nodup_finRange 7) (List.mem_finRange z) s

theorem foldl_safeMoveZone_zoneOf_ne {h k : Head} (ne : k ≠ h) (s : State) (z : Zone) :
    ((List.finRange 7).foldl (safeMoveZone k) s).zoneOf h z = s.zoneOf h z :=
  foldl_leaves (fun s => s.zoneOf h z) (safeMoveZone k)
    (fun s y => safeMoveZone_zoneOf_ne s fun e => ne (by simpa using congrArg headOfZone e)) _ s

theorem foldl_safeMoveZone_heads (h : Head) (s : State) :
    ((List.finRange 7).foldl (safeMoveZone h) s).heads = s.heads :=
  foldl_leaves State.heads (safeMoveZone h) (fun s z => by simp) _ s

theorem safeSettle_zoneOf (k h : Head) (s : State) :
    (safeSettle k s).zoneOf h = State.zoneOf ((List.finRange 7).foldl (safeMoveZone k) s) h := by
  simp only [funext_iff, State.zoneOf, safeSettle, State.setHead_zones, implies_true]

theorem safeSettle_heads (h : Head) (s : State) :
    (safeSettle h s).heads =
      s.heads.upd h
        { s.heads.get h with substate := safeJudged fun z => (s.zoneOf h z).safeMoved } := by
  have zones : State.zoneOf ((List.finRange 7).foldl (safeMoveZone h) s) h =
      fun z => (s.zoneOf h z).safeMoved :=
    funext (foldl_safeMoveZone_zoneOf_same h s)
  simp only [safeSettle, State.setHead_heads, safeSubstate_eq_safeJudged, zones,
    foldl_safeMoveZone_heads]

theorem tickHead_headPart_same (h : Head) (s : State) :
    (tickHead s h).headPart h = safeTicked (s.headPart h) := by
  by_cases hold : (s.heads.get h).state = .safeHold
  · simp [tickHead, safeTicked, State.headPart, hold, safeSettle_heads, funext_iff,
      safeSettle_zoneOf, foldl_safeMoveZone_zoneOf_same]
  · simp [tickHead, safeTicked, State.headPart, hold]

theorem tickHead_headPart_ne {h k : Head} (ne : k ≠ h) (s : State) :
    (tickHead s k).headPart h = s.headPart h := by
  by_cases hold : (s.heads.get k).state = .safeHold
  · simp [tickHead, State.headPart, hold, safeSettle_heads, Tab.get_upd_ne _ _ ne, funext_iff,
      safeSettle_zoneOf, foldl_safeMoveZone_zoneOf_ne ne]
  · simp [tickHead, hold]

theorem foldl_tickHead_headPart (h : Head) (s : State) :
    ((List.finRange 4).foldl tickHead s).headPart h = safeTicked (s.headPart h) :=
  foldl_acts_once (fun s => s.headPart h) safeTicked tickHead h (tickHead_headPart_same h)
    (fun s _ ne => tickHead_headPart_ne ne s) (List.nodup_finRange 4) (List.mem_finRange h) s

/-! ### The whole tick -/

theorem tickField_headPart (h : Head) (s : State) :
    (tickField s).headPart h = safeTicked (s.headPart h) := by
  rw [← foldl_tickHead_headPart]
  apply State.headPart_congr
  · simp [tickField, foldl_leaves State.heads]
  · simp [tickField, foldl_leaves State.zones]

theorem tickField_ring (s : State) : (tickField s).ring = s.ring := by
  simp [tickField, foldl_leaves State.ring]

theorem tickField_awaiting (s : State) : (tickField s).awaiting = s.awaiting := by
  simp [tickField, foldl_leaves State.awaiting]

/-- A tick that ends no transparent period leaves every head and zone to the blocks before it. -/
theorem tickTransparent_headPart {s : State}
    (goesOn : s.ring.transparent = true → s.ring.resetTicks + 1 < 5 ∨ s.resetAwaits = true)
    (h : Head) : (tickTransparent s).headPart h = s.headPart h := by
  by_cases clear : s.ring.transparent = false
  · rw [tickTransparent, if_pos clear]
  · have stays : ¬(5 ≤ min (s.ring.resetTicks + 1) 5 ∧ s.resetAwaits = false) := by
      rintro ⟨late, taken⟩
      obtain early | waits := goesOn (by simpa using clear)
      · omega
      · simp [taken] at waits
    rw [tickTransparent, if_neg clear]
    exact (congrArg (State.headPart · h) (if_neg stays)).trans (State.headPart_congr rfl rfl h)

/-- A tick up to the end of a transparent period: the time base and every block. -/
def tickBlocks (s : State) : State :=
  tickVerifier <| (List.finRange 16).foldl tickInput <| tickPort <|
    tickField { advanceTime (1000 - s.phase) s with phase := 0 }

theorem takeTick_eq (s : State) : takeTick s = (tickTransparent (tickBlocks s)).kickPort := rfl

theorem tickBlocks_ring (s : State) : (tickBlocks s).ring = s.ring := by
  simp [tickBlocks, foldl_leaves State.ring, tickField_ring]

theorem tickBlocks_awaiting (s : State) : (tickBlocks s).awaiting = s.awaiting := by
  simp [tickBlocks, foldl_leaves State.awaiting, tickField_awaiting]

theorem tickBlocks_headPart (h : Head) (s : State) :
    (tickBlocks s).headPart h = safeTicked (s.headPart h) := by
  calc (tickBlocks s).headPart h
      = (tickField { advanceTime (1000 - s.phase) s with phase := 0 }).headPart h :=
        State.headPart_congr (by simp [tickBlocks, foldl_leaves State.heads])
          (by simp [tickBlocks, foldl_leaves State.zones]) h
    _ = safeTicked (State.headPart { advanceTime (1000 - s.phase) s with phase := 0 } h) :=
        tickField_headPart h _
    _ = safeTicked (s.headPart h) :=
        congrArg safeTicked (State.headPart_congr (by simp) (by simp) h)

/-- What a tick that ends no transparent period does to a head and its zones. -/
theorem takeTick_headPart {s : State} (goesOn : tickGoesOn s) (h : Head) :
    (takeTick (s.takeUp .tick)).headPart h = safeTicked (s.headPart h) := by
  have stillGoesOn : (tickBlocks (s.takeUp .tick)).ring.transparent = true →
      (tickBlocks (s.takeUp .tick)).ring.resetTicks + 1 < 5 ∨
        (tickBlocks (s.takeUp .tick)).resetAwaits = true := by
    simp only [State.resetAwaits_iff, tickBlocks_ring, tickBlocks_awaiting]
    exact goesOn
  calc (takeTick (s.takeUp .tick)).headPart h
      = (tickTransparent (tickBlocks (s.takeUp .tick))).headPart h :=
        State.headPart_congr (by simp [takeTick_eq]) (by simp [takeTick_eq]) h
    _ = (tickBlocks (s.takeUp .tick)).headPart h := tickTransparent_headPart stillGoesOn h
    _ = safeTicked ((s.takeUp .tick).headPart h) := tickBlocks_headPart h _
    _ = safeTicked (s.headPart h) := rfl

theorem exec_tick_headPart {s : State} (goesOn : tickGoesOn s) (h : Head) :
    ∃ t : State, exec .tick s = .next t ∧ t.headPart h = safeTicked (s.headPart h) :=
  ⟨takeTick (s.takeUp .tick), rfl, takeTick_headPart goesOn h⟩

/-- Settles O31: the tick is followed at one head with its zones, which only that head's own
safe-hold settle changes, moving each zone once and then judging the substate over the moved zones. -/
theorem safeHoldTick : Obligations.SafeHoldTick := by
  intro h s goesOn hold
  obtain ⟨t, ticks, part⟩ := exec_tick_headPart goesOn h
  obtain ⟨record, zones⟩ := Prod.mk.inj (part.trans (safeTicked_of_safeHold hold))
  have zoneMoved : ∀ z, t.zoneOf h z = (s.zoneOf h z).safeMoved := congrFun zones
  refine ⟨t, ticks, fun z => ?_, ?_⟩
  · rw [zoneMoved]
    exact ⟨approach_eq_min_max _ _ _, rfl, rfl, rfl, rfl, rfl⟩
  · simp only [zoneMoved]
    exact record

end Sys2Proof.Machine
end

section
/-! PROOFS. The judgement of required entries (R140): what the judgement of one entry does, and that
a list of different entries is judged entry by entry, each on its own seen mark. -/

namespace Sys2Proof.Machine

open Sys2Proof

/-! ### One entry -/

/-- Entry `e` is one that R140 judges. -/
def CellMap.judges (m : CellMap) (e : Fin 128) : Bool :=
  (m.entries.get e).valid && (m.entries.get e).dir == .take && (m.entries.get e).required

/-- The seen mark that the judgement of entry `e` leaves. -/
def CellMap.judgedSeen (filled : List (Fin 128)) (m : CellMap) (e : Fin 128) : Bool :=
  if m.judges e then decide (e ∈ filled) else m.seen.get e

/-- The raise that the judgement of entry `e` hands, if any. -/
def CellMap.missingRaise (filled : List (Fin 128)) (m : CellMap) (e : Fin 128) : Option Instr :=
  if m.judges e ∧ e ∉ filled ∧ m.seen.get e = true then
    some
      (.eventRaise .missingCell (.mapEntry e) (m.entries.get e).tag
        (w16 (classCode (m.entries.get e).cls)))
  else none

/-- The Cell Map once entry `e` has been judged. -/
def CellMap.judgedAt (filled : List (Fin 128)) (m : CellMap) (e : Fin 128) : CellMap :=
  { m with seen := m.seen.upd e (m.judgedSeen filled e) }

/-- The judgement of one entry writes its seen mark and hands at most its MISSING_CELL. -/
theorem judgeRequired_eq (filled : List (Fin 128)) (s : State) (e : Fin 128) :
    judgeRequired filled s e =
      { s with
        map := s.map.judgedAt filled e
        handed := s.handed ++ (s.map.missingRaise filled e).toList } := by
  have unfolded :
      judgeRequired filled s e =
        if s.map.judges e then
          if e ∈ filled then s.setMap { s.map with seen := s.map.seen.upd e true }
          else if s.map.seen.get e then
            (s.raise .missingCell (.mapEntry e) (s.map.entries.get e).tag
              (w16 (classCode (s.map.entries.get e).cls))).setMap
                { s.map with seen := s.map.seen.upd e false }
          else s
        else s := rfl
  have unwritten {b : Bool} (same : s.map.seen.get e = b) : s.map.seen.upd e b = s.map.seen := by
    rw [← same, Tab.upd_get_same]
  rw [unfolded, CellMap.judgedAt, CellMap.judgedSeen, CellMap.missingRaise]
  by_cases judged : s.map.judges e = true
  · by_cases isFilled : e ∈ filled
    · simp [judged, isFilled, State.setMap]
    · by_cases seen : s.map.seen.get e = true
      · simp [judged, isFilled, seen, State.setMap, State.raise, State.hand, State.setHanded]
      · simp [judged, isFilled, seen, unwritten]
  · simp [judged]

/-- The judgement of one entry changes nothing that the judgement of another reads. -/
theorem CellMap.judgedAt_leaves_other {filled : List (Fin 128)} {m : CellMap} {a e : Fin 128}
    (other : a ≠ e) :
    (m.judgedAt filled a).seen.get e = m.seen.get e ∧
      (m.judgedAt filled a).judgedSeen filled e = m.judgedSeen filled e ∧
      (m.judgedAt filled a).missingRaise filled e = m.missingRaise filled e := by
  have mark : (m.judgedAt filled a).seen.get e = m.seen.get e := Tab.get_upd_ne _ _ other
  refine ⟨mark, ?_, ?_⟩
  · rw [judgedSeen, judgedSeen, mark]
    rfl
  · rw [missingRaise, missingRaise, mark]
    rfl

/-! ### All entries -/

/-- The Cell Map once the entries of `l` have been judged. -/
def CellMap.judgedOn (filled l : List (Fin 128)) (m : CellMap) : CellMap :=
  { m with seen := Tab.ofFn fun e => if e ∈ l then m.judgedSeen filled e else m.seen.get e }

theorem CellMap.judgedOn_nil (filled : List (Fin 128)) (m : CellMap) :
    m.judgedOn filled [] = m := by
  simp [judgedOn, Tab.ofFn_get]

theorem CellMap.judgedOn_cons {filled l : List (Fin 128)} {a : Fin 128} (notin : a ∉ l)
    (m : CellMap) : m.judgedOn filled (a :: l) = (m.judgedAt filled a).judgedOn filled l := by
  have mark (e : Fin 128) :
      (if e ∈ a :: l then m.judgedSeen filled e else m.seen.get e) =
        if e ∈ l then (m.judgedAt filled a).judgedSeen filled e
        else (m.judgedAt filled a).seen.get e := by
    by_cases isHead : a = e
    · subst isHead
      simp [notin, judgedAt]
    · obtain ⟨seen, judged, -⟩ := judgedAt_leaves_other (filled := filled) (m := m) isHead
      simp [seen, judged, Ne.symm isHead]
  simp only [judgedOn, mark]
  rfl

/-- Different entries are judged independently: each reads only the seen mark it found at first. -/
theorem foldl_judgeRequired (filled : List (Fin 128)) {l : List (Fin 128)} (nodup : l.Nodup)
    (s : State) :
    l.foldl (judgeRequired filled) s =
      { s with
        map := s.map.judgedOn filled l
        handed := s.handed ++ l.filterMap (s.map.missingRaise filled) } := by
  induction l generalizing s with
  | nil => simp [CellMap.judgedOn_nil]
  | cons a l ih =>
    obtain ⟨notin, nodup'⟩ := List.nodup_cons.mp nodup
    have raises :
        l.filterMap ((s.map.judgedAt filled a).missingRaise filled) =
          l.filterMap (s.map.missingRaise filled) := by
      refine List.filterMap_congr fun e mem => ?_
      have other : a ≠ e := (ne_of_mem_of_not_mem mem notin).symm
      obtain ⟨-, -, raise⟩ := CellMap.judgedAt_leaves_other (m := s.map) other
      exact raise
    have handed :
        s.handed ++ (a :: l).filterMap (s.map.missingRaise filled) =
          s.handed ++ (s.map.missingRaise filled a).toList ++
            l.filterMap (s.map.missingRaise filled) := by
      cases raise : s.map.missingRaise filled a <;> simp [raise]
    rw [List.foldl_cons, ih nodup', judgeRequired_eq, raises, handed,
      CellMap.judgedOn_cons notin]

/-- Settles O52: all 128 entries are different ones, and each is judged on the mark it had. -/
theorem requiredEntriesAreJudged : Obligations.RequiredEntriesAreJudged := by
  intro filled s t required
  have everyEntry :
      t.map.judgedOn filled (List.finRange 128) =
        { s.map with seen := Tab.ofFn fun e => s.map.judgedSeen filled e } := by
    simp [CellMap.judgedOn, t, State.takeUp]
  calc exec (.requiredEntryJudgement filled) s
      = .next ((List.finRange 128).foldl (judgeRequired filled) t) := rfl
    _ = .next
          { t with
            map := t.map.judgedOn filled (List.finRange 128)
            handed := t.handed ++ (List.finRange 128).filterMap (t.map.missingRaise filled) } := by
        rw [foldl_judgeRequired filled (List.nodup_finRange 128)]
    _ = _ := by
        rw [everyEntry]
        rfl

end Sys2Proof.Machine
end

section
/-! PROOFS. What a step and a command are: every command gives a next state, a step runs one command
or idles, and a law that the queue of commands does not enter is kept by every step if it is kept by
every command. -/

namespace Sys2Proof.Machine

open Sys2Proof

/-! ### Tables -/

theorem Tab.mem_entries {n : Nat} {α : Type} {t : Tab n α} {x : α} :
    x ∈ t.entries ↔ ∃ i, t.get i = x := by
  rw [Tab.entries, Array.mem_toList_iff, Vector.mem_toArray_iff, Vector.mem_iff_getElem]
  exact ⟨fun ⟨i, lt, is⟩ => ⟨⟨i, lt⟩, is⟩, fun ⟨i, is⟩ => ⟨i.val, i.isLt, is⟩⟩

/-! ### One command -/

/-- INPUT_LEVEL_CHANGE as one next state. -/
def changeLevel (i : Fin 16) (level : Bool) (s : State) : State :=
  let u := s.inputs.get i
  if level = u.raw then s
  else
    let s' := s.setInput i { u with raw := level, stability := 0 }
    if level ≠ u.filtered ∧ u.config.filter = 0 then settleInput i s' else s'

theorem exec_inputLevelChange (i : Fin 16) (level : Bool) (s : State) :
    exec (.inputLevelChange i level) s =
      .next (changeLevel i level (s.takeUp (.inputLevelChange i level))) := by
  simp only [exec, execInputLevelChange, changeLevel]
  split <;> rfl

/-- The state after a command. -/
def State.after (s : State) (c : Instr) : State :=
  match exec c s with
  | .next t => t
  | .fault _ | .refused _ => s

/-- Every command gives a next state. -/
theorem exec_eq_after (c : Instr) (s : State) : exec c s = .next (s.after c) := by
  cases c with
  | inputLevelChange i level => simp [State.after, exec_inputLevelChange]
  | _ => rfl

theorem after_of_exec {c : Instr} {s t : State} (e : exec c s = .next t) : t = s.after c := by
  rw [exec_eq_after] at e
  exact (Host.Outcome.next.inj e).symm

theorem after_inputLevelChange (i : Fin 16) (level : Bool) (s : State) :
    s.after (.inputLevelChange i level) =
      changeLevel i level (s.takeUp (.inputLevelChange i level)) := by
  simp [State.after, exec_inputLevelChange]

@[simp] theorem changeLevel_frame (i : Fin 16) (level : Bool) (s : State) :
    (changeLevel i level s).pending = s.pending ∧
      (changeLevel i level s).awaiting = s.awaiting ∧
      (changeLevel i level s).written = s.written ∧
      (changeLevel i level s).ring = s.ring ∧
      (changeLevel i level s).map = s.map ∧
      (changeLevel i level s).store = s.store ∧
      (changeLevel i level s).heads = s.heads ∧
      (changeLevel i level s).zones = s.zones ∧
      (changeLevel i level s).reg = s.reg ∧
      (changeLevel i level s).docks = s.docks ∧
      (changeLevel i level s).queues = s.queues ∧
      (changeLevel i level s).cadence = s.cadence ∧
      (changeLevel i level s).events = s.events := by
  unfold changeLevel
  dsimp only
  (repeat' split) <;> simp

/-! ### One step -/

/-- What a step runs: the command at the front of the queue, else the oldest event handed. -/
inductive Runs (s : State) : Instr → State → Prop where
  | command (c : Instr) (rest : List Instr) (front : s.pending = c :: rest) :
      Runs s c { s with pending := rest }
  | handed (c : Instr) (rest : List Instr) (none : s.pending = []) (front : s.handed = c :: rest) :
      Runs s c s

theorem step_of_runs {s u : State} {c : Instr} (r : Runs s c u) : step s = exec c u := by
  cases r with
  | command rest front => simp [step, front]
  | handed rest none front => simp [step, none, front]

/-- A step idles or runs one command. -/
theorem step_cases {s t : State} (e : step s = .next t) :
    t = s ∨ ∃ c u, Runs s c u ∧ t = u.after c := by
  rcases hp : s.pending with _ | ⟨c, rest⟩
  · rcases hh : s.handed with _ | ⟨c, rest⟩
    · have idle : step s = .next s := by simp [step, hp, hh]
      exact .inl (Host.Outcome.next.inj (e.symm.trans idle))
    · have r : Runs s c s := .handed c rest hp hh
      exact .inr ⟨c, s, r, after_of_exec ((step_of_runs r).symm.trans e)⟩
  · have r : Runs s c { s with pending := rest } := .command c rest hp
    exact .inr ⟨c, _, r, after_of_exec ((step_of_runs r).symm.trans e)⟩

/-- A law that does not speak of the queue of commands, and that every command keeps, is kept by
every step. -/
theorem step_keeps {L : State → Prop} (apart : ∀ s q, L s → L { s with pending := q })
    (kept : ∀ c s, L s → L (s.after c)) {s t : State} (law : L s) (e : step s = .next t) : L t := by
  obtain rfl | ⟨c, u, r, rfl⟩ := step_cases e
  · exact law
  · cases r with
    | command rest front => exact kept c _ (apart s _ law)
    | handed rest none front => exact kept c s law

/-- Settles O1: by the three branches of `step`. -/
theorem stepRunsFrontCommand : Obligations.StepRunsFrontCommand := by
  refine ⟨fun c rest s front => ?_, fun c rest s none front => ?_, fun s none none' => ?_⟩
  · exact step_of_runs (.command c rest front)
  · exact step_of_runs (.handed c rest none front)
  · simp [step, none, none']

end Sys2Proof.Machine
end

section
/-! PROOFS. Which commands act on which part of the state: for each part that a law speaks of, the
commands that can change it, and that every other command leaves it as it was.  Power-on reset, the
tick and the end of a transparent period act on all of them; what a tick comes to is a run of the
blocks, after which a transparent period may end. -/

namespace Sys2Proof.Machine

open Sys2Proof

/-! ### Resets and ticks -/

@[simp] theorem resetBlocks_frame (k : ResetKind) (s : State) :
    (resetBlocks k s).pending = s.pending ∧
      (resetBlocks k s).ring = s.ring ∧
      (resetBlocks k s).us = s.us ∧
      (resetBlocks k s).phase = s.phase ∧
      (resetBlocks k s).free = s.free ∧
      (resetBlocks k s).portB = s.portB ∧
      (resetBlocks k s).regulatorOut = s.regulatorOut ∧
      (resetBlocks k s).pumpOut = s.pumpOut :=
  ⟨rfl, rfl, rfl, rfl, rfl, rfl, rfl, rfl⟩

section
variable (k : ResetKind) (s : State)

@[simp] theorem resetBlocks_handed : (resetBlocks k s).handed = [] := rfl

@[simp] theorem resetBlocks_heads : (resetBlocks k s).heads = Tab.all 4 .afterReset := rfl

@[simp] theorem resetBlocks_store :
    (resetBlocks k s).store = ProgramStore.afterResetOf k s.store := rfl

@[simp] theorem resetBlocks_zones :
    (resetBlocks k s).zones = s.zones.mapT (ZoneChannel.afterResetOf k) := rfl

@[simp] theorem resetBlocks_docks :
    (resetBlocks k s).docks = s.docks.mapT (DockEntry.afterResetOf k) := rfl

@[simp] theorem resetBlocks_queues : (resetBlocks k s).queues = Tab.all 3 ⟨[], 0⟩ := rfl

@[simp] theorem resetBlocks_cadence :
    (resetBlocks k s).cadence = Cadence.afterResetOf k s.cadence := rfl

@[simp] theorem resetBlocks_events :
    (resetBlocks k s).events = EventQueue.afterResetOf k s.events := rfl

end

/-- Each block's part of a management reset, but the inputs' and the Regulator Port's. -/
theorem endTransparent_blocks (s : State) {β : Type} {f : State → β}
    (ring : ∀ u r, f (State.setRing u r) = f u) (inputs : ∀ u i, f (refilterInput u i) = f u)
    (port : ∀ u, f (State.kickPort u) = f u) :
    f (endTransparent s) = f (resetBlocks (.management s.ring.scope) s) := by
  rw [endTransparent, port, refilterInputs, foldl_leaves f _ inputs, ring]

/-- Each block's part of a power-on reset, but the inputs' and the Regulator Port's. -/
theorem powerOn_blocks (straps : BitVec 5) (s : State) {β : Type} {f : State → β}
    (ring : ∀ u r, f (State.setRing u r) = f u) (inputs : ∀ u i, f (refilterInput u i) = f u)
    (port : ∀ u, f (State.kickPort u) = f u)
    (time : ∀ u : State, f { u with us := 0, phase := 0 } = f u)
    (out : ∀ xs, f (resetBlocks .powerOn (s.emit xs)) = f (resetBlocks .powerOn s)) :
    f (powerOn straps s) = f (resetBlocks .powerOn s) := by
  unfold powerOn
  dsimp only
  rw [port, refilterInputs, foldl_leaves f _ inputs, time, ring]
  split
  · exact out _
  · rfl

@[simp] theorem endTransparent_frame (s : State) :
    (endTransparent s).pending = s.pending ∧
      (endTransparent s).us = s.us ∧
      (endTransparent s).phase = s.phase ∧
      (endTransparent s).free = s.free ∧
      (endTransparent s).portB = s.portB ∧
      (endTransparent s).pumpOut = s.pumpOut := by
  simp [endTransparent]

@[simp] theorem tickBlocks_frame (s : State) :
    (tickBlocks s).pending = s.pending ∧
      (tickBlocks s).awaiting = s.awaiting ∧
      (tickBlocks s).written = s.written ∧
      (tickBlocks s).ring = s.ring ∧
      (tickBlocks s).map = s.map ∧
      (tickBlocks s).store = s.store ∧
      (tickBlocks s).docks = s.docks ∧
      (tickBlocks s).profiles = s.profiles ∧
      (tickBlocks s).segments = s.segments ∧
      (tickBlocks s).events = s.events ∧
      (tickBlocks s).phase = 0 ∧
      (tickBlocks s).portB = s.portB ∧
      (tickBlocks s).regulatorOut = s.regulatorOut := by
  simp [tickBlocks, tickField, foldl_leaves State.pending, foldl_leaves State.awaiting,
    foldl_leaves State.written, foldl_leaves State.ring, foldl_leaves State.map,
    foldl_leaves State.store, foldl_leaves State.docks, foldl_leaves State.profiles,
    foldl_leaves State.segments, foldl_leaves State.events, foldl_leaves State.phase,
    foldl_leaves State.portB, foldl_leaves State.regulatorOut]

/-- A transparent period as a tick within it leaves the ring: one tick more, up to five. -/
def State.countReset (s : State) : State :=
  s.setRing { s.ring with resetTicks := min (s.ring.resetTicks + 1) 5 }

/-- At its end a tick leaves the ring, counts a tick of a transparent period, or ends the period. -/
theorem tickTransparent_cases (s : State) :
    (s.ring.transparent = false ∧ tickTransparent s = s) ∨
      (s.ring.transparent = true ∧ tickTransparent s = s.countReset) ∨
      (s.ring.transparent = true ∧ tickTransparent s = endTransparent s.countReset) := by
  by_cases clear : s.ring.transparent = false
  · exact .inl ⟨clear, if_pos clear⟩
  · have mark : s.ring.transparent = true := by simpa using clear
    by_cases due : 5 ≤ s.countReset.ring.resetTicks ∧ s.countReset.resetAwaits = false
    · exact .inr (.inr ⟨mark, (if_neg clear).trans (if_pos due)⟩)
    · exact .inr (.inl ⟨mark, (if_neg clear).trans (if_neg due)⟩)

theorem after_powerOnReset (straps : BitVec 5) (s : State) :
    s.after (.powerOnReset straps) = powerOn straps s := rfl

theorem after_tick (s : State) : s.after .tick = takeTick (s.takeUp .tick) := rfl

theorem after_transparentPeriodEnd (s : State) :
    s.after .transparentPeriodEnd =
      if s.ring.transparent = true ∧ (s.takeUp .transparentPeriodEnd).resetAwaits = false then
        endTransparent (s.takeUp .transparentPeriodEnd)
      else s.takeUp .transparentPeriodEnd := rfl

/-- What holds after the blocks have taken the tick, and is kept by the count of a transparent
period, by its end and by the start of the Regulator Port, holds after the tick. -/
theorem tick_induction {L : State → Prop} (s : State) (blocks : L (tickBlocks (s.takeUp .tick)))
    (count : ∀ u, L u → L u.countReset) (ends : ∀ u, L u → L (endTransparent u))
    (port : ∀ u, L u → L u.kickPort) : L (s.after .tick) := by
  rw [after_tick, takeTick_eq]
  obtain ⟨-, e⟩ | ⟨-, e⟩ | ⟨-, e⟩ := tickTransparent_cases (tickBlocks (s.takeUp .tick)) <;> rw [e]
  · exact port _ blocks
  · exact port _ (count _ blocks)
  · exact port _ (ends _ (count _ blocks))

/-! ### The parts each command can change -/

/-- No command changes the queue of commands waiting. -/
theorem after_pending (c : Instr) (s : State) : (s.after c).pending = s.pending := by
  have result := exec_eq_after c s
  cases c with
  | inputLevelChange i level => simp [after_inputLevelChange]
  | transparentPeriodEnd =>
    rw [after_transparentPeriodEnd]
    split <;> simp
  | tick =>
    exact tick_induction (L := fun t => t.pending = s.pending) s (by simp) (fun u h => h)
      (fun u h => by simp [h]) (fun u h => by simp [h])
  | _ =>
    rw [← Host.Outcome.next.inj result]
    try dsimp only [powerOn]
    (repeat' split) <;> simp [foldl_leaves State.pending]

/-- The commands that can change the head records. -/
def actsOnHeads : Instr → Bool
  | .powerOnReset _ | .tick | .transparentPeriodEnd | .cycleDelivery .. | .start .. |
  .pause .. | .resume .. | .skip .. | .abort .. | .clear .. | .nop .. |
  .overpressureNotice _ | .cadenceLostNotice _ | .estopNoticeHead _ | .tableFailedNotice _ |
  .flowFaultNotice _ | .zoneWriteApply .. | .zoneEraseApply _ => true
  | _ => false

theorem after_heads {c : Instr} (s : State) (apart : actsOnHeads c = false) :
    (s.after c).heads = s.heads := by
  have result := exec_eq_after c s
  cases c <;> cases apart
  case inputLevelChange i level => simp [after_inputLevelChange]
  all_goals
    rw [← Host.Outcome.next.inj result]
    try dsimp only
    (repeat' split) <;> simp [foldl_leaves State.heads]

/-- The commands that can change the zone channels. -/
def actsOnZones : Instr → Bool
  | .powerOnReset _ | .tick | .transparentPeriodEnd | .cycleDelivery .. | .start .. |
  .pause .. | .resume .. | .skip .. | .abort .. | .clear .. | .nop .. | .gaugeWord _ |
  .zoneWriteApply .. | .zoneEraseApply _ => true
  | _ => false

theorem after_zones {c : Instr} (s : State) (apart : actsOnZones c = false) :
    (s.after c).zones = s.zones := by
  have result := exec_eq_after c s
  cases c <;> cases apart
  case inputLevelChange i level => simp [after_inputLevelChange]
  all_goals
    rw [← Host.Outcome.next.inj result]
    try dsimp only
    (repeat' split) <;> simp [foldl_leaves State.zones]

/-- The commands that can change the Dock Table. -/
def actsOnDocks : Instr → Bool
  | .powerOnReset _ | .tick | .transparentPeriodEnd | .dockDelivery .. | .dockCommandHead ..
  | .dockCommandNone .. => true
  | _ => false

theorem after_docks {c : Instr} (s : State) (apart : actsOnDocks c = false) :
    (s.after c).docks = s.docks := by
  have result := exec_eq_after c s
  cases c <;> cases apart
  case inputLevelChange i level => simp [after_inputLevelChange]
  all_goals
    rw [← Host.Outcome.next.inj result]
    try dsimp only
    (repeat' split) <;> simp [foldl_leaves State.docks]

/-- The commands that can change the order queues. -/
def actsOnQueues : Instr → Bool
  | .powerOnReset _ | .tick | .transparentPeriodEnd | .orderOffer .. | .cycleNotice .. |
  .burstStroke .. | .owedStroke .. | .flowWindowClose .. | .stepEndNotice .. |
  .headSafeNotice .. | .estopNoticeDispense _ | .supplyLowNotice .. |
  .lineGroupFailedNotice _ | .stopLineApply .. => true
  | _ => false

theorem after_queues {c : Instr} (s : State) (apart : actsOnQueues c = false) :
    (s.after c).queues = s.queues := by
  have result := exec_eq_after c s
  cases c <;> cases apart
  case inputLevelChange i level => simp [after_inputLevelChange]
  all_goals
    rw [← Host.Outcome.next.inj result]
    try dsimp only
    (repeat' split) <;> simp [foldl_leaves State.queues]

/-- The commands that can change the Program Store. -/
def actsOnStore : Instr → Bool
  | .powerOnReset _ | .tick | .transparentPeriodEnd | .cycleDelivery .. | .start .. |
  .pause .. | .resume .. | .skip .. | .abort .. | .clear .. | .nop .. | .programRelease _ |
  .programDirWriteApply .. | .programDirEraseApply _ | .stepWriteApply .. |
  .stepEraseApply _ => true
  | _ => false

theorem after_store {c : Instr} (s : State) (apart : actsOnStore c = false) :
    (s.after c).store = s.store := by
  have result := exec_eq_after c s
  cases c <;> cases apart
  case inputLevelChange i level => simp [after_inputLevelChange]
  all_goals
    rw [← Host.Outcome.next.inj result]
    try dsimp only
    (repeat' split) <;> simp [foldl_leaves State.store]

/-- The commands that can change the Cadence Monitor. -/
def actsOnCadence : Instr → Bool
  | .powerOnReset _ | .tick | .transparentPeriodEnd | .frameGoodEnd .. | .setCadence .. |
  .cycleFrameNotice _ | .cadenceLateExpiry => true
  | _ => false

theorem after_cadence {c : Instr} (s : State) (apart : actsOnCadence c = false) :
    (s.after c).cadence = s.cadence := by
  have result := exec_eq_after c s
  cases c <;> cases apart
  case inputLevelChange i level => simp [after_inputLevelChange]
  all_goals
    rw [← Host.Outcome.next.inj result]
    try dsimp only
    (repeat' split) <;> simp [foldl_leaves State.cadence]

/-- The commands that can change the Event Queue. -/
def actsOnEvents : Instr → Bool
  | .powerOnReset _ | .tick | .transparentPeriodEnd | .frameStart _ | .frameGoodEnd .. |
  .frameBadEnd .. | .take _ | .give _ | .slotFill _ | .read .. | .write .. | .erase .. |
  .verify .. | .set .. | .status .. | .dispense .. | .stopLine .. | .clearInput .. |
  .reset .. | .unknownRequestCode .. | .setExpressA _ | .setExpressB _ | .setEventKind .. |
  .eventRaise .. | .eventRelease _ | .eventReturn _ => true
  | _ => false

theorem after_events {c : Instr} (s : State) (apart : actsOnEvents c = false) :
    (s.after c).events = s.events := by
  have result := exec_eq_after c s
  cases c <;> cases apart
  case inputLevelChange i level => simp [after_inputLevelChange]
  all_goals
    rw [← Host.Outcome.next.inj result]
    try dsimp only
    (repeat' split) <;> simp [foldl_leaves State.events]

/-- The commands that can change the Ring Interface. -/
def actsOnRing : Instr → Bool
  | .powerOnReset _ | .tick | .transparentPeriodEnd | .symbolLockGained | .lossOfSignal |
  .frameStart _ | .frameGoodEnd .. | .frameBadEnd .. | .take _ | .give _ | .slotFill _ |
  .read .. | .write .. | .erase .. | .verify .. | .set .. | .status .. | .dispense .. |
  .stopLine .. | .clearInput .. | .reset .. | .unknownRequestCode .. | .resetApply _ => true
  | _ => false

theorem after_ring {c : Instr} (s : State) (apart : actsOnRing c = false) :
    (s.after c).ring = s.ring := by
  have result := exec_eq_after c s
  cases c <;> cases apart
  case inputLevelChange i level => simp [after_inputLevelChange]
  all_goals
    rw [← Host.Outcome.next.inj result]
    try dsimp only
    (repeat' split) <;> simp [foldl_leaves State.ring]

end Sys2Proof.Machine
end

section
/-! PROOFS. The Event Queue (chapter 12): what a raise, a slot, a release and a return do to the
records, the record a slot takes (R182), how events are queued (R180 to R183), and Law 8. -/

namespace Sys2Proof.Machine

open Sys2Proof

/-! ### The first element that satisfies a test -/

theorem updFirst_split {α : Type} (p : α → Bool) (f : α → α) (older younger : List α) (x : α)
    (before : ∀ y ∈ older, p y = false) (here : p x = true) :
    updFirst p f (older ++ x :: younger) = older ++ f x :: younger := by
  induction older with
  | nil => simp [updFirst, here]
  | cons a l ih =>
    have no : p a = false := before a (by simp)
    simp [updFirst, no, ih fun y mem => before y (by simp [mem])]

theorem eraseP_split {α : Type} (p : α → Bool) (older younger : List α) (x : α)
    (before : ∀ y ∈ older, p y = false) (here : p x = true) :
    (older ++ x :: younger).eraseP p = older ++ younger := by
  rw [List.eraseP_append_right _ fun y mem => by simp [before y mem], List.eraseP_cons_of_pos here]

theorem eraseLast_split {α : Type} (p : α → Bool) (older younger : List α) (x : α)
    (after : ∀ y ∈ younger, p y = false) (here : p x = true) :
    eraseLast p (older ++ x :: younger) = older ++ younger := by
  have reversed : (older ++ x :: younger).reverse = younger.reverse ++ x :: older.reverse := by simp
  rw [eraseLast, reversed, eraseP_split p _ _ x (fun y mem => after y (by simpa using mem)) here]
  simp

/-- A list with an element that satisfies a test has a first one. -/
theorem first_split {α : Type} {p : α → Bool} {l : List α} (found : l.any p = true) :
    ∃ older x younger, l = older ++ x :: younger ∧ p x = true ∧ ∀ y ∈ older, p y = false := by
  obtain ⟨x, is⟩ : ∃ x, l.find? p = some x := by
    rwa [← Option.isSome_iff_exists, List.find?_isSome, ← List.any_eq_true]
  obtain ⟨here, older, younger, split, before⟩ := List.find?_eq_some_iff_append.mp is
  exact ⟨older, x, younger, split, here, fun y mem => by simpa using before y mem⟩

/-- A relation between earlier and later elements that `f` keeps is kept where `f` is applied to the
first element that satisfies `p`. -/
theorem pairwise_updFirst {α : Type} {R : α → α → Prop} {p : α → Bool} {f : α → α} {l : List α}
    (earlier : ∀ a b, p a = true → R a b → R (f a) b)
    (later : ∀ a b, p b = true → R a b → R a (f b)) (pw : l.Pairwise R) :
    (updFirst p f l).Pairwise R := by
  have mem_all (a : α) (l : List α) (all : ∀ b ∈ l, R a b) : ∀ b ∈ updFirst p f l, R a b := by
    induction l with
    | nil => simp [updFirst]
    | cons x xs ih =>
      obtain ⟨first, rest⟩ := List.forall_mem_cons.mp all
      rw [updFirst]
      split
      · next is => exact List.forall_mem_cons.mpr ⟨later a x is first, rest⟩
      · exact List.forall_mem_cons.mpr ⟨first, ih rest⟩
  induction l with
  | nil => simp [updFirst]
  | cons x xs ih =>
    obtain ⟨first, rest⟩ := List.pairwise_cons.mp pw
    rw [updFirst]
    split
    · next is => exact List.pairwise_cons.mpr ⟨fun b mem => earlier x b is (first b mem), rest⟩
    · exact List.pairwise_cons.mpr ⟨mem_all x xs first, ih rest⟩

/-! ### Ranks of the QUEUED records -/

theorem lowestRank_concat (rs : List EventRecord) (r : EventRecord) :
    lowestRank (rs ++ [r]) =
      if r.flight = none then some ((lowestRank rs).elim r.rank (min · r.rank))
      else lowestRank rs := by
  simp only [lowestRank, List.foldl_append, List.foldl_cons, List.foldl_nil]
  split
  · cases List.foldl _ none rs <;> rfl
  · rfl

theorem highestRank_concat (rs : List EventRecord) (r : EventRecord) :
    highestRank (rs ++ [r]) =
      if r.flight = none then some ((highestRank rs).elim r.rank (max · r.rank))
      else highestRank rs := by
  simp only [highestRank, List.foldl_append, List.foldl_cons, List.foldl_nil]
  split
  · cases List.foldl _ none rs <;> rfl
  · rfl

theorem lowestRank_eq_none {rs : List EventRecord} :
    lowestRank rs = none ↔ ∀ r ∈ rs, r.flight ≠ none := by
  induction rs using List.reverseRecOn with
  | nil => simp [lowestRank]
  | append_singleton rs r ih =>
    rw [lowestRank_concat]
    split
    · next queued => simp [queued]
    · next flies => simp [ih, or_imp, forall_and, flies]

theorem lowestRank_eq_some {rs : List EventRecord} {n : Nat} (is : lowestRank rs = some n) :
    (∃ r ∈ rs, r.flight = none ∧ r.rank = n) ∧ ∀ r ∈ rs, r.flight = none → n ≤ r.rank := by
  induction rs using List.reverseRecOn generalizing n with
  | nil => cases is
  | append_singleton rs r ih =>
    rw [lowestRank_concat] at is
    split at is
    · next queued =>
      obtain rfl := Option.some.inj is
      cases before : lowestRank rs with
      | none =>
        have flies := lowestRank_eq_none.mp before
        simp only [List.mem_append, List.mem_singleton, Option.elim]
        grind
      | some m =>
        obtain ⟨⟨x, mem, waits, rfl⟩, bound⟩ := ih before
        simp only [List.mem_append, List.mem_singleton, Option.elim]
        grind
    · next flies =>
      obtain ⟨⟨x, mem, found⟩, bound⟩ := ih is
      exact ⟨⟨x, by simp [mem], found⟩, by simpa [or_imp, forall_and, flies] using bound⟩

theorem highestRank_eq_none {rs : List EventRecord} :
    highestRank rs = none ↔ ∀ r ∈ rs, r.flight ≠ none := by
  induction rs using List.reverseRecOn with
  | nil => simp [highestRank]
  | append_singleton rs r ih =>
    rw [highestRank_concat]
    split
    · next queued => simp [queued]
    · next flies => simp [ih, or_imp, forall_and, flies]

theorem highestRank_eq_some {rs : List EventRecord} {n : Nat} (is : highestRank rs = some n) :
    (∃ r ∈ rs, r.flight = none ∧ r.rank = n) ∧ ∀ r ∈ rs, r.flight = none → r.rank ≤ n := by
  induction rs using List.reverseRecOn generalizing n with
  | nil => cases is
  | append_singleton rs r ih =>
    rw [highestRank_concat] at is
    split at is
    · next queued =>
      obtain rfl := Option.some.inj is
      cases before : highestRank rs with
      | none =>
        have flies := highestRank_eq_none.mp before
        simp only [List.mem_append, List.mem_singleton, Option.elim]
        grind
      | some m =>
        obtain ⟨⟨x, mem, waits, rfl⟩, bound⟩ := ih before
        simp only [List.mem_append, List.mem_singleton, Option.elim]
        grind
    · next flies =>
      obtain ⟨⟨x, mem, found⟩, bound⟩ := ih is
      exact ⟨⟨x, by simp [mem], found⟩, by simpa [or_imp, forall_and, flies] using bound⟩

/-! ### Slots (R182) -/

/-- The record a slot takes stands after QUEUED records of lower rank only, and before none of
higher rank. -/
theorem bestQueued_split {rs : List EventRecord} {x : EventRecord} (best : bestQueued rs = some x) :
    ∃ older younger, rs = older ++ x :: younger ∧ x.flight = none ∧
      (∀ y ∈ older, y.flight = none → y.rank < x.rank) ∧
      ∀ y ∈ younger, y.flight = none → y.rank ≤ x.rank := by
  unfold bestQueued at best
  split at best
  · cases best
  · next top is_top =>
    obtain ⟨-, highest⟩ := highestRank_eq_some is_top
    obtain ⟨is, older, younger, rfl, before⟩ := List.find?_eq_some_iff_append.mp best
    obtain ⟨queued, rfl⟩ : x.flight = none ∧ x.rank = top := by simpa using is
    refine ⟨older, younger, rfl, queued, fun y mem waits => ?_, fun y mem => ?_⟩
    · have below := highest y (by simp [mem]) waits
      have other := before y mem
      simp only [waits] at other
      grind
    · exact highest y (by simp [mem])

theorem bestQueued_eq_none {rs : List EventRecord} :
    bestQueued rs = none ↔ ∀ r ∈ rs, r.flight ≠ none := by
  rw [← highestRank_eq_none, bestQueued]
  constructor
  · intro none
    split at none
    · assumption
    · next top is_top =>
      obtain ⟨⟨r, mem, queued, rank⟩, -⟩ := highestRank_eq_some is_top
      simpa [queued, rank] using List.find?_eq_none.mp none r mem
  · intro none
    simp [none]

theorem fillSlot_eq_none {q : EventQueue} {frame : Nat} :
    fillSlot q frame = none ↔ ∀ r ∈ q.records, r.flight ≠ none := by
  rw [← bestQueued_eq_none, fillSlot]
  split <;> simp [*]

/-- Settles O14: the slot takes the record that `bestQueued` finds, and only that one changes. -/
theorem slotTakesBestRecord : Obligations.SlotTakesBestRecord := by
  refine ⟨fun q frame => fillSlot_eq_none, fun q q' frame r filled => ?_⟩
  unfold fillSlot at filled
  split at filled
  · cases filled
  · next x best =>
    obtain ⟨older, younger, split, queued, before, after⟩ := bestQueued_split best
    obtain ⟨rfl, rfl⟩ := Prod.mk.inj (Option.some.inj filled)
    refine ⟨older, younger, x, split, queued, rfl, ?_, before, after⟩
    rw [split, updFirst_split _ _ _ _ _ (fun y mem => ?_) (by simp [queued])]
    by_cases waits : y.flight = none
    · have below := before y mem waits
      simp only [waits]
      grind
    · simp [waits]

/-! ### Returns (R183) -/

/-- With fuel for every record left, a record of another frame is judged by passing over it. -/
theorem returnFrom_skip (frame : Nat) {a : List EventRecord} (apart : ∀ x ∈ a, x.flight ≠ some frame)
    (n : Nat) (older rest : List EventRecord) :
    returnFrom frame (a.length + n) older (a ++ rest) = returnFrom frame n (older ++ a) rest := by
  induction a generalizing older with
  | nil => simp
  | cons x a ih =>
    obtain ⟨first, others⟩ := List.forall_mem_cons.mp apart
    have fuel : (x :: a).length + n = (a.length + n) + 1 := by simp [Nat.add_right_comm]
    rw [fuel, List.cons_append, returnFrom, if_neg first, ih others]
    simp

/-- Fuel above the number of records left changes nothing. -/
theorem returnFrom_fuel (frame : Nat) {n : Nat} {older rest : List EventRecord}
    (enough : rest.length ≤ n) :
    returnFrom frame n older rest = returnFrom frame rest.length older rest := by
  have more (k : Nat) : ∀ (rest older : List EventRecord), rest.length ≤ k →
      returnFrom frame (k + 1) older rest = returnFrom frame k older rest := by
    induction k with
    | zero =>
      intro rest older short
      obtain rfl : rest = [] := List.length_eq_zero_iff.mp (Nat.le_zero.mp short)
      simp [returnFrom]
    | succ k ih =>
      intro rest older short
      cases rest with
      | nil => simp [returnFrom]
      | cons r rest =>
        have short' : rest.length ≤ k := by simpa using short
        have shorter (w : EventRecord → Bool) : (rest.eraseP w).length ≤ k :=
          List.length_eraseP_le.trans short'
        rw [returnFrom, returnFrom]
        simp only [ih _ _ short', ih _ _ (shorter _)]
  induction n, enough using Nat.le_induction with
  | base => rfl
  | succ k le ih => rw [more k rest older le, ih]

/-- A return of a queue whose first record of the frame is `r`: `a` before it is passed over. -/
theorem returnFrame_split (frame : Nat) {a : List EventRecord}
    (apart : ∀ x ∈ a, x.flight ≠ some frame) (b : List EventRecord) :
    returnFrame frame (a ++ b) = returnFrom frame b.length a b := by
  rw [returnFrame, List.length_append, returnFrom_skip frame apart]
  simp

theorem returnFrame_apart (frame : Nat) {a : List EventRecord}
    (apart : ∀ x ∈ a, x.flight ≠ some frame) : returnFrame frame a = a := by
  have split := returnFrame_split frame apart []
  simpa [returnFrom] using split

/-- A returning record merges into a QUEUED one of its kind and source that is older. -/
theorem returnFrom_merge_older (frame : Nat) {r : EventRecord} (flies : r.flight = some frame)
    {older : List EventRecord} (found : older.any (matchesQueued r.kind r.source) = true)
    (rest : List EventRecord) :
    returnFrom frame (r :: rest).length older (r :: rest) =
      returnFrom frame rest.length
        (updFirst (matchesQueued r.kind r.source)
          (fun o => mergeRecords o { r with flight := none }) older) rest := by
  rw [List.length_cons, returnFrom, if_pos flies]
  exact if_pos found

/-- Where the QUEUED record of its kind and source is younger, that one merges into it. -/
theorem returnFrom_merge_younger (frame : Nat) {r y : EventRecord} (flies : r.flight = some frame)
    {older rest : List EventRecord} (noOlder : older.any (matchesQueued r.kind r.source) = false)
    (found : rest.find? (matchesQueued r.kind r.source) = some y) :
    returnFrom frame (r :: rest).length older (r :: rest) =
      returnFrom frame rest.length (older ++ [mergeRecords { r with flight := none } y])
        (rest.eraseP (matchesQueued r.kind r.source)) := by
  rw [List.length_cons, returnFrom, if_pos flies]
  simp only [noOlder, found]
  rfl

/-- A returning record whose kind and source no QUEUED record has is QUEUED in its place. -/
theorem returnFrom_alone (frame : Nat) {r : EventRecord} (flies : r.flight = some frame)
    {older rest : List EventRecord} (noOlder : older.any (matchesQueued r.kind r.source) = false)
    (noYounger : rest.find? (matchesQueued r.kind r.source) = none) :
    returnFrom frame (r :: rest).length older (r :: rest) =
      returnFrom frame rest.length (older ++ [{ r with flight := none }]) rest := by
  rw [List.length_cons, returnFrom, if_pos flies]
  simp only [noOlder, noYounger]
  rfl

/-! ### Raises (R180, R181) -/

theorem matchesQueued_iff {k : EventKind} {src : Source} {r : EventRecord} :
    matchesQueued k src r = true ↔ r.flight = none ∧ r.kind = k ∧ r.source = src := by
  simp [matchesQueued, and_assoc]

theorem matchesQueued_eq_false {k : EventKind} {src : Source} {r : EventRecord} :
    matchesQueued k src r = false ↔ ¬(r.flight = none ∧ r.kind = k ∧ r.source = src) := by
  rw [← matchesQueued_iff, Bool.not_eq_true]

theorem any_matchesQueued_eq_false {k : EventKind} {src : Source} {rs : List EventRecord} :
    rs.any (matchesQueued k src) = false ↔
      ∀ r ∈ rs, ¬(r.flight = none ∧ r.kind = k ∧ r.source = src) := by
  rw [List.any_eq_false]
  exact forall₂_congr fun r _ => not_congr matchesQueued_iff

section
variable (q : EventQueue) (k : EventKind) (src : Source) (d1 d2 stamp : Word16)

/-- The record of a raise that finds no QUEUED one of its kind and source. -/
def raisedRecord : EventRecord := ⟨k, rankOf q k, src, d1, d2, stamp, 0, 0, none⟩

variable {q k src}

theorem raiseInto_off (off : (q.kinds.get (kindCode k)).enable = false) :
    raiseInto q k src d1 d2 stamp = q := if_pos off

theorem raiseInto_coalesce (on : (q.kinds.get (kindCode k)).enable = true)
    (found : q.records.any (matchesQueued k src) = true) :
    raiseInto q k src d1 d2 stamp =
      { q with records := updFirst (matchesQueued k src) (coalesceInto d1 d2) q.records } := by
  simp [raiseInto, on, found]

theorem raiseInto_room (on : (q.kinds.get (kindCode k)).enable = true)
    (new : q.records.any (matchesQueued k src) = false) (room : q.records.length < 32) :
    raiseInto q k src d1 d2 stamp =
      { q with records := q.records ++ [raisedRecord q k src d1 d2 stamp] } := by
  simp [raiseInto, on, new, room, raisedRecord]

theorem raiseInto_lost (on : (q.kinds.get (kindCode k)).enable = true)
    (new : q.records.any (matchesQueued k src) = false) (full : 32 ≤ q.records.length)
    (above : ∀ r ∈ q.records, r.flight = none → rankOf q k ≤ r.rank) :
    raiseInto q k src d1 d2 stamp = { q with lost := min (q.lost + 1) 255 } := by
  rw [raiseInto, if_neg (by simp [on]), if_neg (by simp [new]), if_neg (Nat.not_lt.mpr full)]
  cases lowest : lowestRank q.records with
  | none => rfl
  | some low =>
    obtain ⟨⟨r, mem, queued, rfl⟩, -⟩ := lowestRank_eq_some lowest
    exact if_neg (Nat.not_lt.mpr (above r mem queued))

theorem raiseInto_evict (on : (q.kinds.get (kindCode k)).enable = true)
    (new : q.records.any (matchesQueued k src) = false) (full : 32 ≤ q.records.length) {low : Nat}
    (lowest : lowestRank q.records = some low) (below : low < rankOf q k) :
    raiseInto q k src d1 d2 stamp =
      { q with
        records :=
          eraseLast (fun r => r.flight == none && r.rank == low) q.records ++
            [raisedRecord q k src d1 d2 stamp]
        lost := min (q.lost + 1) 255 } := by
  rw [raiseInto, if_neg (by simp [on]), if_neg (by simp [new]), if_neg (Nat.not_lt.mpr full)]
  simp only [lowest]
  exact if_pos below

end

/-- The lowest rank is the rank of a record that no QUEUED one lies below. -/
theorem lowestRank_of_mem {rs : List EventRecord} {r : EventRecord} (mem : r ∈ rs)
    (queued : r.flight = none) (least : ∀ y ∈ rs, y.flight = none → r.rank ≤ y.rank) :
    lowestRank rs = some r.rank := by
  cases lowest : lowestRank rs with
  | none => exact absurd queued (lowestRank_eq_none.mp lowest r mem)
  | some low =>
    obtain ⟨⟨x, mem', queued', rfl⟩, bound⟩ := lowestRank_eq_some lowest
    exact congrArg some (Nat.le_antisymm (bound r mem queued) (least x mem' queued'))

theorem after_eventRaise (k : EventKind) (src : Source) (d1 d2 : Word16) (s : State)
    {q : EventQueue} (is : raiseInto s.events k src d1 d2 s.ring.lastGood = q) :
    exec (.eventRaise k src d1 d2) s =
      .next { s.takeUp (.eventRaise k src d1 d2) with events := q } := by
  rw [← is]
  rfl

theorem exec_eventReturn (frame : Nat) (s : State) :
    exec (.eventReturn frame) s =
      .next
        { s.takeUp (.eventReturn frame) with
          events := { s.events with records := returnFrame frame s.events.records } } := rfl

/-- A return that comes to the same records from two queues is the same. -/
theorem exec_eventReturn_congr (frame : Nat) (s : State) {l : List EventRecord}
    (same : returnFrame frame s.events.records = returnFrame frame l) :
    exec (.eventReturn frame) s =
      exec (.eventReturn frame) { s with events := { s.events with records := l } } := by
  rw [exec_eventReturn, exec_eventReturn, same]
  rfl

/-- Settles O54: a raise by the branches of `raiseInto`, and a return by its first record of the
frame, with the records before it passed over. -/
theorem eventsAreQueued : Obligations.EventsAreQueued := by
  refine ⟨?raise, ?frames⟩
  case raise =>
    intro k src d1 d2 s t q rank new same put
    refine ⟨fun off => ?_, fun on => ⟨fun older r younger split is before => ?_, ?_, ?_⟩⟩
    · exact after_eventRaise _ _ _ _ _ (raiseInto_off _ _ _ off)
    · have here : matchesQueued k src r = true := matchesQueued_iff.mpr is
      have found : s.events.records.any (matchesQueued k src) = true :=
        List.any_eq_true.mpr ⟨r, by simp [show s.events.records = _ from split], here⟩
      refine after_eventRaise _ _ _ _ _ ((raiseInto_coalesce _ _ _ on found).trans ?_)
      rw [show s.events.records = _ from split, updFirst_split _ _ _ _ _
        (fun y mem => matchesQueued_eq_false.mpr (before y mem)) here]
      rfl
    · intro alone room
      exact after_eventRaise _ _ _ _ _
        (raiseInto_room _ _ _ on (any_matchesQueued_eq_false.mpr alone) room)
    · intro alone full
      have none := any_matchesQueued_eq_false.mpr alone
      refine ⟨fun above => ?_, fun older r younger split queued below before after => ?_⟩
      · exact after_eventRaise _ _ _ _ _ (raiseInto_lost _ _ _ on none full above)
      · have least : ∀ y ∈ q.records, y.flight = .none → r.rank ≤ y.rank := by
          rw [split]
          intro y mem waits
          obtain mem | rfl | mem := by simpa using mem
          · exact before y mem waits
          · exact Nat.le_refl _
          · exact (after y mem waits).le
        have lowest := lowestRank_of_mem (by simp [split]) queued least
        refine after_eventRaise _ _ _ _ _ ((raiseInto_evict _ _ _ on none full lowest below).trans ?_)
        rw [show s.events.records = _ from split, eraseLast_split _ _ _ _ (fun y mem => ?_)
          (by simp [queued])]
        · rfl
        · by_cases waits : y.flight = .none
          · simp [waits, (after y mem waits).ne']
          · simp [waits]
  case frames =>
    intro frame s
    refine ⟨?_, ⟨_, exec_eventReturn frame s⟩, fun apart => ?_, ?_⟩
    · have test : (fun r : EventRecord => r.flight != some frame) =
          fun r => decide (r.flight ≠ some frame) := by
        funext r
        by_cases flies : r.flight = some frame <;> simp [flies]
      simp only [← test]
      rfl
    · rw [exec_eventReturn, returnFrame_apart frame apart]
      rfl
    · intro a b r split flies apart same merged goesOnFrom
      have start : returnFrame frame s.events.records =
          returnFrom frame (r :: b).length a (r :: b) := by
        rw [split, returnFrame_split frame apart]
      have resume {a' : List EventRecord} (apart' : ∀ x ∈ a', x.flight ≠ some frame)
          (l : List EventRecord) : returnFrom frame l.length a' l = returnFrame frame (a' ++ l) :=
        (returnFrame_split frame apart' l).symm
      refine ⟨fun alone => ?_, fun a1 y a2 split' is before => ?_, fun b1 y b2 split' is before => ?_⟩
      · have noOlder : a.any (matchesQueued r.kind r.source) = false :=
          any_matchesQueued_eq_false.mpr fun x mem => alone x (by simp [mem])
        have noYounger : b.any (matchesQueued r.kind r.source) = false :=
          any_matchesQueued_eq_false.mpr fun x mem => alone x (by simp [mem])
        have noYounger' : b.find? (matchesQueued r.kind r.source) = none :=
          List.find?_eq_none.mpr (List.any_eq_false.mp noYounger)
        apply exec_eventReturn_congr
        rw [start, returnFrom_alone frame flies noOlder noYounger',
          resume (by simpa [or_imp, forall_and] using apart)]
        simp
      · have here : matchesQueued r.kind r.source y = true := matchesQueued_iff.mpr is
        have found : a.any (matchesQueued r.kind r.source) = true :=
          List.any_eq_true.mpr ⟨y, by simp [split'], here⟩
        apply exec_eventReturn_congr
        rw [start, returnFrom_merge_older frame flies found, split',
          updFirst_split _ _ _ _ _ (fun x mem => matchesQueued_eq_false.mpr (before x mem)) here,
          resume]
        · rfl
        · simp only [split', List.mem_append, List.mem_cons, or_imp, forall_and] at apart
          obtain ⟨apart1, -, apart2⟩ := apart
          simp only [List.mem_append, List.mem_cons, or_imp, forall_and, forall_eq]
          exact ⟨apart1, by simp [mergeRecords], apart2⟩
      · have here : matchesQueued r.kind r.source y = true := matchesQueued_iff.mpr is
        have noOlder : a.any (matchesQueued r.kind r.source) = false :=
          any_matchesQueued_eq_false.mpr fun x mem => before x (by simp [mem])
        have passed : ∀ x ∈ b1, matchesQueued r.kind r.source x = false :=
          fun x mem => matchesQueued_eq_false.mpr (before x (by simp [mem]))
        have found : b.find? (matchesQueued r.kind r.source) = some y := by
          rw [split', find_split _ _ _ _ passed here]
        apply exec_eventReturn_congr
        rw [start, returnFrom_merge_younger frame flies noOlder found, split',
          eraseP_split _ _ _ _ passed here, returnFrom_fuel frame (by simp), resume]
        · simp [mergeRecords, merged]
        · simp only [List.mem_append, List.mem_cons, or_imp, forall_and]
          exact ⟨apart, by simp [mergeRecords]⟩

/-! ### Law 8 -/

theorem twins_comm {a b : EventRecord} : twins a b ↔ twins b a := by
  simp only [twins]
  grind

/-- Changes that keep kind and source, or that put a record in flight, make no twins. -/
theorem recordsGood_updFirst {p : EventRecord → Bool} {f : EventRecord → EventRecord}
    {rs : List EventRecord} (keeps : ∀ r x, p r = true → twins (f r) x → twins r x)
    (good : recordsGood rs) : recordsGood (updFirst p f rs) := by
  obtain ⟨short, apart⟩ := good
  refine ⟨(updFirst_length p f rs).trans_le short, pairwise_updFirst ?_ ?_ apart⟩
  · exact fun a b is none both => none (keeps a b is both)
  · exact fun a b is none both => none (twins_comm.mp (keeps b a is (twins_comm.mp both)))

theorem recordsGood_sublist {rs rs' : List EventRecord} (sub : rs'.Sublist rs)
    (good : recordsGood rs) : recordsGood rs' :=
  ⟨sub.length_le.trans good.1, good.2.sublist sub⟩

/-- A record with no QUEUED one of its kind and source may join. -/
theorem recordsGood_concat {rs : List EventRecord} {r : EventRecord} (room : rs.length < 32)
    (alone : rs.any (matchesQueued r.kind r.source) = false) (good : recordsGood rs) :
    recordsGood (rs ++ [r]) := by
  refine ⟨by simpa using room, List.pairwise_append.mpr ⟨good.2, by simp, fun x mem y mem' => ?_⟩⟩
  obtain rfl := List.mem_singleton.mp mem'
  rintro ⟨queued, -, kind, source⟩
  exact any_matchesQueued_eq_false.mp alone x mem ⟨queued, kind, source⟩

theorem eraseLast_sublist {α : Type} (p : α → Bool) (l : List α) : (eraseLast p l).Sublist l := by
  simpa [eraseLast] using List.reverse_sublist.mpr (List.eraseP_sublist (p := p) (l := l.reverse))

theorem eraseLast_length {α : Type} (p : α → Bool) {l : List α} {x : α} (mem : x ∈ l)
    (is : p x = true) : (eraseLast p l).length = l.length - 1 := by
  simp [eraseLast, List.length_eraseP_of_mem (List.mem_reverse.mpr mem) is]

theorem raiseInto_good {q : EventQueue} (k : EventKind) (src : Source) (d1 d2 stamp : Word16)
    (good : recordsGood q.records) : recordsGood (raiseInto q k src d1 d2 stamp).records := by
  by_cases on : (q.kinds.get (kindCode k)).enable = true
  case neg => rwa [raiseInto_off _ _ _ (by simpa using on)]
  by_cases found : q.records.any (matchesQueued k src) = true
  case pos =>
    rw [raiseInto_coalesce _ _ _ on found]
    exact recordsGood_updFirst (fun r x _ both => both) good
  have new : q.records.any (matchesQueued k src) = false := by simpa using found
  by_cases room : q.records.length < 32
  case pos =>
    rw [raiseInto_room _ _ _ on new room]
    exact recordsGood_concat room new good
  have full : 32 ≤ q.records.length := by omega
  by_cases above : ∀ r ∈ q.records, r.flight = none → rankOf q k ≤ r.rank
  case pos => rwa [raiseInto_lost _ _ _ on new full above]
  cases lowest : lowestRank q.records with
  | none => exact absurd (fun r mem queued => absurd queued (lowestRank_eq_none.mp lowest r mem)) above
  | some low =>
    obtain ⟨⟨x, mem, queued, rank⟩, least⟩ := lowestRank_eq_some lowest
    have below : low < rankOf q k := by
      push Not at above
      obtain ⟨r, mem', queued', lower⟩ := above
      exact (least r mem' queued').trans_lt lower
    rw [raiseInto_evict _ _ _ on new full lowest below]
    have sub := eraseLast_sublist (fun r : EventRecord => r.flight == none && r.rank == low) q.records
    refine recordsGood_concat ?_ ?_ (recordsGood_sublist sub good)
    · rw [eraseLast_length _ mem (by simp [queued, rank])]
      have := good.1
      omega
    · rw [any_matchesQueued_eq_false] at new ⊢
      exact fun r left => new r (sub.mem left)

theorem fillSlot_good {q q' : EventQueue} {frame : Nat} {r : EventRecord}
    (filled : fillSlot q frame = some (r, q')) (good : recordsGood q.records) :
    recordsGood q'.records := by
  unfold fillSlot at filled
  split at filled
  · cases filled
  · obtain ⟨-, rfl⟩ := Prod.mk.inj (Option.some.inj filled)
    exact recordsGood_updFirst (fun r x _ both => absurd both.1 (by simp [launch])) good

/-- A record may be put in the place of one of its kind and source, where no other QUEUED one has
them. -/
theorem recordsGood_replace {a b : List EventRecord} {r r' : EventRecord}
    (before : a.any (matchesQueued r'.kind r'.source) = false)
    (after : b.any (matchesQueued r'.kind r'.source) = false) (good : recordsGood (a ++ r :: b)) :
    recordsGood (a ++ r' :: b) := by
  obtain ⟨short, apart⟩ := good
  obtain ⟨apartOld, apartNew, across⟩ := List.pairwise_append.mp apart
  obtain ⟨-, apartRest⟩ := List.pairwise_cons.mp apartNew
  rw [any_matchesQueued_eq_false] at before after
  refine ⟨by simpa using short, List.pairwise_append.mpr ⟨apartOld, List.pairwise_cons.mpr
    ⟨fun y mem => ?_, apartRest⟩, fun x mem y mem' => ?_⟩⟩
  · rintro ⟨-, queued, kind, source⟩
    exact after y mem ⟨queued, kind.symm, source.symm⟩
  · obtain rfl | mem' := List.mem_cons.mp mem'
    · rintro ⟨queued, -, kind, source⟩
      exact before x mem ⟨queued, kind, source⟩
    · exact across x mem y (by simp [mem'])

/-- Where one QUEUED record has a kind and source, no later one has them. -/
theorem recordsGood_only {a b : List EventRecord} {x : EventRecord} {k : EventKind} {src : Source}
    (is : matchesQueued k src x = true) (good : recordsGood (a ++ x :: b)) :
    b.any (matchesQueued k src) = false := by
  obtain ⟨queued, rfl, rfl⟩ := matchesQueued_iff.mp is
  obtain ⟨-, apartNew, -⟩ := List.pairwise_append.mp good.2
  rw [any_matchesQueued_eq_false]
  rintro y mem ⟨queued', kind, source⟩
  exact (List.pairwise_cons.mp apartNew).1 y mem ⟨queued, queued', kind.symm, source.symm⟩

/-- The returning record merged with a QUEUED one, or QUEUED alone, leaves no twins. -/
theorem returnFrom_good (frame : Nat) (n : Nat) {older rest : List EventRecord}
    (good : recordsGood (older ++ rest)) : recordsGood (returnFrom frame n older rest) := by
  induction n generalizing older rest with
  | zero => simpa [returnFrom] using good
  | succ n ih =>
    cases rest with
    | nil => simpa [returnFrom] using good
    | cons r rest =>
      rw [returnFrom]
      dsimp only
      split
      · split
        · next found =>
          obtain ⟨a, x, b, rfl, is, before⟩ := first_split found
          apply ih
          rw [updFirst_split _ _ _ _ _ before is]
          obtain ⟨queued, kind, source⟩ := matchesQueued_iff.mp is
          have others : recordsGood (a ++ x :: (b ++ rest)) :=
            recordsGood_sublist (by simp) good
          have none : (b ++ rest).any (matchesQueued r.kind r.source) = false :=
            recordsGood_only is others
          have none' : a.any (matchesQueued r.kind r.source) = false := by
            rw [List.any_eq_false]
            exact fun z mem => by simp [before z mem]
          rw [List.append_assoc, List.cons_append]
          refine recordsGood_replace ?_ ?_ others <;> simpa only [mergeRecords, kind, source]
        · next none =>
          have noOlder : older.any (matchesQueued r.kind r.source) = false := by simpa using none
          split
          · next y found =>
            obtain ⟨is, b1, b2, rfl, before⟩ := List.find?_eq_some_iff_append.mp found
            have before' : ∀ z ∈ b1, matchesQueued r.kind r.source z = false :=
              fun z mem => by simpa using before z mem
            have none2 : b2.any (matchesQueued r.kind r.source) = false :=
              recordsGood_only (a := older ++ r :: b1) is (by simpa using good)
            have noYounger : (b1 ++ b2).any (matchesQueued r.kind r.source) = false := by
              rw [List.any_append, none2, Bool.or_false, List.any_eq_false]
              exact fun z mem => by simp [before' z mem]
            apply ih
            rw [eraseP_split _ _ _ _ before' is, List.append_assoc, List.singleton_append]
            exact recordsGood_replace (r := r) noOlder noYounger
              (recordsGood_sublist (by simp) good)
          · next none' =>
            have noYounger : rest.any (matchesQueued r.kind r.source) = false :=
              List.any_eq_false.mpr (List.find?_eq_none.mp none')
            apply ih
            rw [List.append_assoc, List.singleton_append]
            exact recordsGood_replace noOlder noYounger good
      · exact ih (by simpa using good)

end Sys2Proof.Machine
end

section
/-! PROOFS. What the arrival of octets and symbols is made of: a property that is kept by the few
changes the Ring Interface makes is kept by every command of the traffic path.  With it, Law 8 is kept
by every step. -/

namespace Sys2Proof.Machine

open Sys2Proof

/-- The changes the Ring Interface makes as octets and symbols arrive: something leaves on port B,
its own record changes, an event is raised, a return is handed, a slot takes a record, a request is
staged and a good end hands its frame over. -/
structure KeptByArrival (L : State → Prop) : Prop where
  emit : ∀ s xs, L s → L (s.emit xs)
  ring : ∀ s r, r.mgmtSlots = s.ring.mgmtSlots ∨ r.mgmtSlots = [] → L s → L (s.setRing r)
  raise : ∀ s k src d1 d2, L s → L (s.raise k src d1 d2)
  giveBack : ∀ s frame, L s → L (s.hand (.eventReturn frame))
  fill : ∀ s frame r q, fillSlot s.events frame = some (r, q) → L s → L (s.setEvents q)
  stage : ∀ s p, L s → L (s.stage (judgeStaging (judgeRequest p s) s).staged)
  good : ∀ s, L s → L (goodEnd s)

namespace KeptByArrival

variable {L : State → Prop} {s : State} (K : KeptByArrival L)

include K

theorem emitOctets (os : List Octet) (law : L s) : L (s.emitOctets os) := K.emit s _ law

theorem setFrame (f : FrameContext) (st : Reception) (law : L s) : L (s.setFrame f st) :=
  K.ring s _ (.inl rfl) law

theorem badEnd (why : BadEnd) (out : List PortSymbol) (st : Reception) (law : L s) :
    L (badEnd why out st s) :=
  K.raise _ _ _ _ _ (K.giveBack _ _ (K.ring _ _ (.inr rfl) (K.emit _ _ (K.emitOctets _ law))))

theorem beginFrame (law : L s) : L (beginFrame s) := K.ring _ _ (.inr rfl) (K.emit s _ law)

theorem rxStart (law : L s) : L (rxStart s) := by
  unfold Machine.rxStart
  split
  · exact K.emit s _ law
  · split
    · exact K.beginFrame (K.badEnd _ _ _ law)
    · exact K.beginFrame law

theorem rxHeader (o : Octet) (law : L s) : L (rxHeader o s) := by
  simp only [Machine.rxHeader]
  split
  · exact K.badEnd _ _ _ law
  · split <;> exact K.setFrame _ _ (K.emitOctets _ law)

theorem passCell (c : Cell) (law : L s) : L (passCell c s).1 := by
  have take (e : Fin 128) : L (takeCell e c s).1 := by
    simp only [takeCell]
    split
    · exact law
    · split
      · exact K.raise _ _ _ _ _ law
      · exact K.ring _ _ (.inl rfl) law
  have give (e : Fin 128) : L (giveCell e c s).1 := by
    simp only [giveCell]
    split
    · exact K.raise _ _ _ _ _ law
    · split
      · exact K.raise _ _ _ _ _ law
      · exact law
  have data : L (passData c s).1 := by
    unfold passData
    split
    · exact law
    · split
      · exact take _
      · exact give _
  have request : L (passMgmt c s).1 := by
    unfold passMgmt
    split
    · unfold passRequest
      split
      · exact law
      · exact K.stage s _ law
    · exact law
  have slot : L (passSlot c s).1 := by
    unfold passSlot
    split
    · exact law
    · split
      · exact law
      · next r q filled => exact K.fill _ _ _ _ filled law
  unfold Machine.passCell
  repeat' split
  · exact data
  · exact request
  · exact slot
  · exact law

theorem completeCell (c : Cell) (law : L s) : L (completeCell c s) :=
  K.setFrame _ _ (K.emitOctets _ (K.passCell c law))

theorem rxCell (o : Octet) (law : L s) : L (rxCell o s) := by
  simp only [Machine.rxCell]
  split
  · exact K.badEnd _ _ _ law
  · split
    · exact K.completeCell _ (K.setFrame _ _ law)
    · exact K.setFrame _ _ law

theorem rxCheck (o : Octet) (law : L s) : L (rxCheck o s) := by
  simp only [Machine.rxCheck]
  split
  · exact K.setFrame _ _ law
  · exact K.setFrame _ _ (K.emitOctets _ law)

theorem rxOctet (o : Octet) (law : L s) : L (rxOctet o s) := by
  unfold Machine.rxOctet
  split
  · exact K.emit s _ law
  split
  · exact K.ring _ _ (.inl rfl) (K.emitOctets _ law)
  split
  · exact K.badEnd _ _ _ law
  split
  · exact K.rxHeader o law
  · exact K.rxCell o law
  · exact K.rxCheck o law
  · exact K.badEnd _ _ _ law
  · exact K.emit s _ law
  · exact K.emit s _ law

theorem rxOctets (os : List Octet) (law : L s) : L (rxOctets os s) := by
  unfold Machine.rxOctets
  induction os generalizing s with
  | nil => exact law
  | cons o os ih => exact ih (K.rxOctet o law)

theorem rxEnd (law : L s) : L (rxEnd s) := by
  unfold Machine.rxEnd
  split
  · exact K.emit s _ law
  split
  · exact K.ring _ _ (.inl rfl) (K.emit _ _ law)
  split
  · exact K.badEnd _ _ _ law
  split
  · exact K.good s law
  · exact K.badEnd _ _ _ law

theorem rxTail (tail : FrameTail) (law : L s) : L (rxTail tail s) := by
  cases tail with
  | endSymbol => exact K.rxEnd law
  | abortSymbol =>
    simp only [Machine.rxTail, rxAbort]
    split
    · exact K.emit s _ law
    split
    · exact K.ring _ _ (.inl rfl) (K.emit _ _ law)
    · exact K.badEnd _ _ _ law
  | idleSymbol =>
    simp only [Machine.rxTail, rxIdle]
    split
    · exact K.emit s _ law
    split
    · exact K.ring _ _ (.inl rfl) (K.emit _ _ law)
    · exact K.badEnd _ _ _ law
  | nothing => exact law

theorem rxLoss (law : L s) : L (rxLoss s) := by
  refine K.ring _ _ (.inl rfl) ?_
  split
  · exact law
  split
  · exact K.emit s _ law
  · exact K.badEnd _ _ _ law

theorem arriveCell (c : Cell) (law : L s) : L (arriveCell c s) := by
  unfold Machine.arriveCell
  split
  · exact K.completeCell c (K.setFrame _ _ law)
  · exact K.rxOctets _ law

end KeptByArrival

/-! ### Law 8 -/

theorem eventLaw_congr {s t : State} (same : t.events = s.events) (law : eventLaw s) : eventLaw t := by
  rwa [eventLaw, same]

theorem eventLaw_arrival : KeptByArrival eventLaw where
  emit _ _ law := law
  ring _ _ _ law := law
  raise _ _ _ _ _ law := law
  giveBack _ _ law := law
  fill _ _ _ _ filled law := fillSlot_good filled law
  stage s p law := eventLaw_congr (by simp) law
  good s law := eventLaw_congr (by simp) law

theorem recordsGood_nil : recordsGood [] := ⟨by simp, .nil⟩

theorem afterResetOf_events_good (k : ResetKind) (q : EventQueue) :
    recordsGood (EventQueue.afterResetOf k q).records :=
  raiseInto_good _ _ _ _ _ recordsGood_nil

theorem endTransparent_eventLaw (s : State) : eventLaw (endTransparent s) := by
  rw [eventLaw, endTransparent_blocks s (f := State.events) (by simp) (by simp) (by simp)]
  exact afterResetOf_events_good _ _

theorem powerOn_eventLaw (straps : BitVec 5) (s : State) : eventLaw (powerOn straps s) := by
  rw [eventLaw, powerOn_blocks straps s (f := State.events) (by simp) (by simp) (by simp)
    (fun _ => rfl) (fun _ => rfl)]
  exact afterResetOf_events_good _ _

theorem returnFrame_good (frame : Nat) {rs : List EventRecord} (good : recordsGood rs) :
    recordsGood (returnFrame frame rs) :=
  returnFrom_good frame _ (by simpa using good)

theorem after_eventLaw_of_acts {c : Instr} (s : State) (acts : actsOnEvents c = true)
    (law : eventLaw s) : eventLaw (s.after c) := by
  have K := eventLaw_arrival
  have taken : eventLaw (s.takeUp c) := eventLaw_congr (by simp) law
  cases c <;> cases acts
  case powerOnReset straps => exact powerOn_eventLaw straps s
  case tick =>
    exact tick_induction s (eventLaw_congr (by simp) law) (fun _ law => law)
      (fun u _ => endTransparent_eventLaw u) (fun u law => eventLaw_congr (by simp) law)
  case transparentPeriodEnd =>
    rw [after_transparentPeriodEnd]
    split
    · exact endTransparent_eventLaw _
    · exact taken
  case frameStart octets => exact K.rxOctets octets (K.rxStart taken)
  case frameGoodEnd octets phase =>
    exact K.rxEnd (K.rxOctets octets (eventLaw_congr (by simp) taken))
  case frameBadEnd octets tail => exact K.rxTail tail (K.rxOctets octets taken)
  case eventRaise k src d1 d2 => exact raiseInto_good k src d1 d2 _ taken
  case eventRelease frame => exact recordsGood_sublist List.filter_sublist taken
  case eventReturn frame => exact returnFrame_good frame taken
  case setExpressA | setExpressB | setEventKind => exact taken
  all_goals exact K.arriveCell _ taken

theorem after_eventLaw (c : Instr) (s : State) (law : eventLaw s) : eventLaw (s.after c) := by
  cases acts : actsOnEvents c with
  | true => exact after_eventLaw_of_acts s acts law
  | false => exact eventLaw_congr (after_events s acts) law

/-- Settles O55: each command keeps Law 8, by what it does to the queue. -/
theorem eventLawKept : Obligations.EventLawKept := by
  intro s t law e
  exact step_keeps (fun s q law => law) after_eventLaw law e

end Sys2Proof.Machine
end

section
/-! PROOFS. The order queues (chapter 6) and Law 7: every operation of a dispense engine leaves a
queue of at most eight orders, with at most one ACTIVE order on a line and no order past its count. -/

namespace Sys2Proof.Machine

open Sys2Proof

/-! ### A run of the blocks on a tick -/

theorem foldl_keeps {σ α : Type} {L : σ → Prop} {g : σ → α → σ} (kept : ∀ s a, L s → L (g s a))
    (l : List α) {s : σ} (law : L s) : L (l.foldl g s) := by
  induction l generalizing s with
  | nil => exact law
  | cons a l ih => exact ih (kept s a law)

/-- What every block keeps as it takes the tick is kept by all of them. -/
theorem tickBlocks_induction {L : State → Prop} {s : State}
    (time : L { advanceTime (1000 - s.phase) s with phase := 0 })
    (heads : ∀ s h, L s → L (tickHead s h)) (filters : ∀ s c, L s → L (tickFilter s c))
    (dispense : ∀ s p, L s → L (tickDispense s p)) (conds : ∀ s p, L s → L (tickCond s p))
    (idle : ∀ s p, L s → L (tickIdle s p)) (port : ∀ s, L s → L (tickPort s))
    (inputs : ∀ s i, L s → L (tickInput s i)) (groups : ∀ s g, L s → L (tickGroup s g)) :
    L (tickBlocks s) :=
  foldl_keeps groups _ <| foldl_keeps inputs _ <| port _ <| foldl_keeps idle _ <|
    foldl_keeps conds _ <| foldl_keeps dispense _ <| foldl_keeps filters _ <|
    foldl_keeps heads _ time

/-! ### Law 7 of one queue -/

theorem queueGood_sublist {os os' : List Order} (sub : os'.Sublist os) (good : queueGood os) :
    queueGood os' := by
  obtain ⟨short, single, bound⟩ := good
  exact ⟨sub.length_le.trans short, fun l => (sub.countP_le).trans (single l),
    fun o mem => bound o (sub.mem mem)⟩

theorem activeOn_eq_true {l : Line} {o : Order} :
    activeOn l o = true ↔ o.active = true ∧ o.line = l := by simp [activeOn]

theorem queuedOn_eq_true {l : Line} {o : Order} :
    queuedOn l o = true ↔ o.active = false ∧ o.line = l := by simp [queuedOn]

/-- Replacing an order by one that is ACTIVE on the same lines keeps Law 7. -/
theorem queueGood_replace {a b : List Order} {o o' : Order}
    (same : ∀ l, activeOn l o' = activeOn l o) (bound : o'.strokes ≤ o'.count)
    (good : queueGood (a ++ o :: b)) : queueGood (a ++ o' :: b) := by
  obtain ⟨short, single, counts⟩ := good
  refine ⟨by simpa using short, fun l => ?_, fun x mem => ?_⟩
  · simpa only [List.countP_append, List.countP_cons, same] using single l
  · simp only [List.mem_append, List.mem_cons, or_imp, forall_and, forall_eq] at counts mem
    obtain mem | rfl | mem := mem
    · exact counts.1 x mem
    · exact bound
    · exact counts.2.2 x mem

/-- One more stroke for an order that has one left. -/
theorem queueGood_stroke {l : Line} {os : List Order} {o : Order} (found : os.find? (activeOn l) = some o)
    (left : o.strokes < o.count) (good : queueGood os) :
    queueGood (updOrder (activeOn l) (fun o => { o with strokes := o.strokes + 1 }) os) := by
  obtain ⟨is, a, b, rfl, before⟩ := List.find?_eq_some_iff_append.mp found
  rw [updOrder_split _ _ _ _ _ (fun y mem => by simpa using before y mem) is]
  exact queueGood_replace (o := o) (fun _ => rfl) left good

/-- On a line without an ACTIVE order the first QUEUED one may become ACTIVE. -/
theorem queueGood_activate {l : Line} {os : List Order} {o : Order}
    (none : os.any (activeOn l) = false) (found : os.find? (queuedOn l) = some o)
    (good : queueGood os) :
    queueGood (updOrder (queuedOn l) (fun o => { o with active := true }) os) := by
  obtain ⟨is, a, b, rfl, before⟩ := List.find?_eq_some_iff_append.mp found
  obtain ⟨waits, rfl⟩ := queuedOn_eq_true.mp is
  rw [updOrder_split _ _ _ _ _ (fun y mem => by simpa using before y mem) is]
  obtain ⟨short, single, counts⟩ := good
  refine ⟨by simpa using short, fun l => ?_, ?_⟩
  · have at_most := single l
    rw [List.countP_append, List.countP_cons] at at_most ⊢
    by_cases here : o.line = l
    · subst here
      obtain ⟨noA, -, noB⟩ : (∀ x ∈ a, activeOn o.line x = false) ∧ activeOn o.line o = false ∧
          ∀ x ∈ b, activeOn o.line x = false := by simpa using none
      rw [List.countP_eq_zero.mpr fun x mem => by simp [noA x mem],
        List.countP_eq_zero.mpr fun x mem => by simp [noB x mem]]
      split <;> omega
    · simpa [activeOn, here] using at_most.trans' (by simp)
  · simp only [List.mem_append, List.mem_cons, or_imp, forall_and, forall_eq] at counts ⊢
    exact counts

/-! ### Law 7 of every queue -/

theorem queueLaw_congr {s t : State} (same : t.queues = s.queues) (law : queueLaw s) : queueLaw t :=
  fun p => by
    rw [same]
    exact law p

theorem queueLaw_setOrders {s : State} (p : Platen) {os : List Order} (good : queueGood os)
    (law : queueLaw s) : queueLaw (s.setOrders p os) := by
  intro q
  by_cases is : p = q
  · subst is
    simpa using good
  · simpa [Tab.get_upd, is] using law q

theorem endOrders_queueLaw (p : Platen) (which : Order → Bool) (st : EndStatus) {s : State}
    (law : queueLaw s) : queueLaw (endOrders p which st s) :=
  foldl_keeps (fun _ _ law => queueLaw_congr (by simp) law) _
    (queueLaw_setOrders p (queueGood_sublist List.filter_sublist (law p)) law)

theorem endFirst_queueLaw (p : Platen) (which : Order → Bool) (st : EndStatus) {s : State}
    (law : queueLaw s) : queueLaw (endFirst p which st s) := by
  simp only [endFirst]
  split
  · exact law
  · exact queueLaw_congr (by simp)
      (queueLaw_setOrders p (queueGood_sublist (List.eraseP_sublist (p := which)) (law p)) law)

/-- The end of the line's ACTIVE order is all that the actions at the miss limit do to a queue. -/
theorem flowFault_queues (p : Platen) (l : Line) (s : State) :
    (flowFault p l s).queues = (endFirst p (activeOn l) .flowFault s).queues := by
  simp only [flowFault]
  split <;> simp

theorem closeWindow_queueLaw (p : Platen) (l : Line) {s : State} (law : queueLaw s) :
    queueLaw (closeWindow p l s) := by
  simp only [closeWindow]
  split
  · exact law
  split
  · exact law
  split
  · exact queueLaw_congr (flowFault_queues p l _) (endFirst_queueLaw _ _ _ law)
  · exact law

/-- A window that closes below the miss limit ends no order. -/
theorem closeWindow_queues (p : Platen) (l : Line) {s : State}
    (below : LineState.missReaches (s.lineOf p l) = false) :
    (closeWindow p l s).queues = s.queues := by
  unfold LineState.missReaches at below
  simp only [closeWindow]
  cases open_ : (s.lineOf p l).window with
  | none => rfl
  | some w =>
    simp only [open_, Bool.and_eq_false_iff] at below
    dsimp only
    split
    · rfl
    split
    · simp_all
    · rfl

theorem countStroke_queues (p : Platen) (l : Line) (o : Order) (s : State) :
    (countStroke p l o s).queues =
      (s.setOrders p
        (updOrder (activeOn l) (fun o => { o with strokes := o.strokes + 1 })
          (s.queues.get p).orders)).queues := by
  simp only [countStroke]
  split <;> rfl

theorem countStroke_queueLaw {p : Platen} {l : Line} {o : Order} {s : State}
    (found : (s.queues.get p).orders.find? (activeOn l) = some o) (left : o.strokes < o.count)
    (law : queueLaw s) : queueLaw (countStroke p l o s) :=
  queueLaw_congr (countStroke_queues p l o s)
    (queueLaw_setOrders p (queueGood_stroke found left (law p)) law)

@[simp] theorem lineOf_setLineOf (s : State) (p : Platen) (l : Line) (x : LineState) :
    (s.setLineOf p l x).lineOf p l = x := by simp [State.lineOf, State.setLineOf]

/-- A line as its pump is actuated: the elapsed time starts anew. -/
def State.actuate (s : State) (p : Platen) (l : Line) : State :=
  ({ s with pumpOut := s.pumpOut ++ [lineIx p l] } : State).setLineOf p l
    { s.lineOf p l with elapsed := 0 }

@[simp] theorem actuate_queues (s : State) (p : Platen) (l : Line) :
    (s.actuate p l).queues = s.queues := rfl

theorem lineOf_actuate (s : State) (p : Platen) (l : Line) :
    (s.actuate p l).lineOf p l = { s.lineOf p l with elapsed := 0 } := by
  simp [State.actuate]

/-- A stroke: the pump is actuated, and the stroke counted before its window's miss ends the order,
or after the window that was open closed below the miss limit. -/
theorem issueStroke_eq {p : Platen} {l : Line} {o : Order} {s : State}
    (found : s.activeOrder p l = some o) :
    issueStroke p l s =
      if o.count ≤ o.strokes then s
      else if LineState.missReaches (s.lineOf p l) then
        openWindow p l (closeWindow p l (countStroke p l o (s.actuate p l)))
      else if o.strokes + 1 = o.count then
        endFirst p (activeOn l) .done
          (countStroke p l o (openWindow p l (closeWindow p l (s.actuate p l))))
      else countStroke p l o (openWindow p l (closeWindow p l (s.actuate p l))) := by
  simp only [issueStroke, found]
  rfl

theorem issueStroke_none {p : Platen} {l : Line} {s : State} (none : s.activeOrder p l = none) :
    issueStroke p l s = s := by
  simp [issueStroke, none]

theorem issueStroke_queueLaw (p : Platen) (l : Line) {s : State} (law : queueLaw s) :
    queueLaw (issueStroke p l s) := by
  cases found : s.activeOrder p l with
  | none => rwa [issueStroke_none found]
  | some o =>
    rw [issueStroke_eq found]
    split
    · exact law
    next left =>
    have left : o.strokes < o.count := Nat.lt_of_not_le left
    split
    · exact queueLaw_congr (by simp) (closeWindow_queueLaw p l
        (countStroke_queueLaw (s := s.actuate p l) (l := l) found left law))
    next below =>
    have below : LineState.missReaches ((s.actuate p l).lineOf p l) = false := by
      rw [lineOf_actuate]
      simpa [LineState.missReaches] using below
    have same : (openWindow p l (closeWindow p l (s.actuate p l))).queues = s.queues := by
      simp [closeWindow_queues p l below]
    have counted : queueLaw
        (countStroke p l o (openWindow p l (closeWindow p l (s.actuate p l)))) :=
      countStroke_queueLaw (l := l) (by rw [same]; exact found) left (queueLaw_congr same law)
    split
    · exact endFirst_queueLaw _ _ _ counted
    · exact counted

/-! ### Eligibility and the events of a dispense engine -/

theorem judgeLine_queueLaw (p : Platen) (l : Line) (fuel : Nat) {s : State} (law : queueLaw s) :
    queueLaw (judgeLine p l fuel s) := by
  induction fuel generalizing s with
  | zero => exact law
  | succ fuel ih =>
    rw [judgeLine]
    split
    · exact law
    next none =>
    split
    · exact law
    next o found =>
    have activated := queueLaw_setOrders p
      (queueGood_activate (by simpa using none) found (law p)) law
    dsimp only
    (repeat' split)
    · exact ih (endFirst_queueLaw _ _ _ law)
    · exact ih (endFirst_queueLaw _ _ _ law)
    · exact ih (endFirst_queueLaw _ _ _ law)
    · exact ih (issueStroke_queueLaw _ _ activated)
    · exact activated

theorem judgeOrders_queueLaw (p : Platen) {s : State} (law : queueLaw s) :
    queueLaw (judgeOrders p s) :=
  foldl_keeps (fun _ _ law => judgeLine_queueLaw _ _ _ law) _ law

theorem judgeIfEnded_queueLaw (p : Platen) (before : Nat) {s : State} (law : queueLaw s) :
    queueLaw (judgeIfEnded p before s) := by
  unfold judgeIfEnded
  split
  · exact judgeOrders_queueLaw p law
  · exact law

theorem offerOrder_queueLaw (p : Platen) (o : Offer) {s : State} (law : queueLaw s) :
    queueLaw (offerOrder p o s) := by
  simp only [offerOrder]
  split
  · exact law
  split
  · exact law
  split
  · exact law
  next room =>
  refine judgeOrders_queueLaw p fun q => ?_
  by_cases is : p = q
  · subst is
    obtain ⟨-, single, counts⟩ := law p
    refine ⟨by simp; omega, fun l => ?_, ?_⟩
    · simpa [List.countP_append, activeOn] using single l
    · simpa [or_imp, forall_and] using counts
  · simpa [Tab.get_upd, is] using law q

theorem triggerLine_queueLaw (p : Platen) (h : Head) (s : State) (l : Line) (law : queueLaw s) :
    queueLaw (triggerLine p h s l) := by
  unfold triggerLine
  dsimp only
  (repeat' split)
  · exact law
  · exact law
  · exact issueStroke_queueLaw _ _ law
  · exact law
  · exact law

theorem cycleNoticeAt_queueLaw (p : Platen) (h : Head) {s : State} (law : queueLaw s) :
    queueLaw (cycleNoticeAt p h s) := by
  unfold cycleNoticeAt
  split
  · have same (u : State) : (reloadIdle p u).queues = u.queues := by simp
    exact queueLaw_congr (same _)
      (judgeIfEnded_queueLaw p _ (foldl_keeps (triggerLine_queueLaw p h) _ law))
  · exact law

theorem burstStroke_queueLaw (p : Platen) (l : Line) {s : State} (law : queueLaw s) :
    queueLaw (burstStroke p l s) := by
  unfold burstStroke
  split
  · exact law
  split
  · exact issueStroke_queueLaw _ _ law
  · exact law

theorem owedStroke_queueLaw (p : Platen) (l : Line) {s : State} (law : queueLaw s) :
    queueLaw (owedStroke p l s) := by
  unfold owedStroke
  dsimp only
  split
  · exact issueStroke_queueLaw _ _ law
  · exact law

theorem tickWindow_queueLaw (p : Platen) (l : Line) {s : State} (law : queueLaw s) :
    queueLaw (tickWindow p l s) := by
  unfold tickWindow
  dsimp only
  split
  · exact law
  split
  · exact closeWindow_queueLaw p l law
  · exact law

theorem tickLine_queueLaw (p : Platen) (s : State) (l : Line) (law : queueLaw s) :
    queueLaw (tickLine p s l) := by
  unfold tickLine
  exact owedStroke_queueLaw p l (burstStroke_queueLaw p l (tickWindow_queueLaw p l law))

theorem tickDispense_queueLaw (s : State) (p : Platen) (law : queueLaw s) :
    queueLaw (tickDispense s p) :=
  judgeIfEnded_queueLaw p _ (foldl_keeps (tickLine_queueLaw p) _ law)

/-! ### Every command -/

theorem queueLaw_of_empty {s : State} (empty : s.queues = Tab.all 3 ⟨[], 0⟩) : queueLaw s := by
  intro p
  rw [empty, Tab.get_all]
  exact ⟨by simp, by simp, by simp⟩

theorem endTransparent_queueLaw (s : State) : queueLaw (endTransparent s) := by
  apply queueLaw_of_empty
  rw [endTransparent_blocks s (f := State.queues) (by simp) (by simp) (by simp),
    resetBlocks_queues]

theorem powerOn_queueLaw (straps : BitVec 5) (s : State) : queueLaw (powerOn straps s) := by
  apply queueLaw_of_empty
  rw [powerOn_blocks straps s (f := State.queues) (by simp) (by simp) (by simp) (fun _ => rfl)
    (fun _ => rfl), resetBlocks_queues]

theorem after_queueLaw_of_acts {c : Instr} (s : State) (acts : actsOnQueues c = true)
    (law : queueLaw s) : queueLaw (s.after c) := by
  have taken : queueLaw (s.takeUp c) := queueLaw_congr (by simp) law
  cases c <;> cases acts
  case powerOnReset straps => exact powerOn_queueLaw straps s
  case tick =>
    refine tick_induction s ?_ (fun _ law => law) (fun u _ => endTransparent_queueLaw u)
      (fun u => queueLaw_congr (by simp))
    exact tickBlocks_induction (queueLaw_congr (by simp) taken) (fun u h => queueLaw_congr (by simp))
      (fun u c => queueLaw_congr (by simp)) tickDispense_queueLaw
      (fun u p => queueLaw_congr (by simp)) (fun u p => queueLaw_congr (by simp))
      (fun u => queueLaw_congr (by simp)) (fun u i => queueLaw_congr (by simp))
      (fun u g => queueLaw_congr (by simp))
  case transparentPeriodEnd =>
    rw [after_transparentPeriodEnd]
    split
    · exact endTransparent_queueLaw _
    · exact taken
  case orderOffer p o => exact offerOrder_queueLaw p o taken
  case cycleNotice p h => exact cycleNoticeAt_queueLaw p h taken
  case burstStroke p l => exact judgeIfEnded_queueLaw p _ (burstStroke_queueLaw p l taken)
  case owedStroke p l => exact judgeIfEnded_queueLaw p _ (owedStroke_queueLaw p l taken)
  case flowWindowClose p l => exact judgeIfEnded_queueLaw p _ (closeWindow_queueLaw p l taken)
  case estopNoticeDispense p => exact endOrders_queueLaw p _ _ taken
  all_goals exact judgeOrders_queueLaw _ (endOrders_queueLaw _ _ _ taken)

theorem after_queueLaw (c : Instr) (s : State) (law : queueLaw s) : queueLaw (s.after c) := by
  cases acts : actsOnQueues c with
  | true => exact after_queueLaw_of_acts s acts law
  | false => exact queueLaw_congr (after_queues s acts) law

/-- Settles O58: each command keeps Law 7, by what it does to the queues. -/
theorem queueLawKept : Obligations.QueueLawKept := by
  intro s t law e
  exact step_keeps (fun s q law => law) after_queueLaw law e

end Sys2Proof.Machine
end

section
/-! PROOFS. What the blocks hand to one another: every operation but a head's and a reset's appends
events that carry records and settings in their ranges and release no program. -/

namespace Sys2Proof.Machine

open Sys2Proof

/-- An event that any block may hand: a record and a setting in range, and no release of a
program, which the heads alone hand. -/
def routine (i : Instr) : Bool :=
  goodRecord i && goodSetting i &&
    (match i with
      | .programRelease _ => false
      | _ => true)

theorem routine_eq_true {i : Instr} :
    routine i = true ↔
      goodRecord i = true ∧ goodSetting i = true ∧ ∀ h, i ≠ .programRelease h := by
  cases i <;> simp [routine, goodRecord, goodSetting]

/-- From `s` to `t` only routine events have been handed. -/
def Hands (s t : State) : Prop := ∃ l, t.handed = s.handed ++ l ∧ ∀ i ∈ l, routine i = true

namespace Hands

variable {s t u : State}

theorem refl (s : State) : Hands s s := ⟨[], by simp⟩

theorem trans (first : Hands s t) (second : Hands t u) : Hands s u := by
  obtain ⟨l, is, good⟩ := first
  obtain ⟨l', is', good'⟩ := second
  exact ⟨l ++ l', by simp [is, is'], by simpa [or_imp, forall_and] using ⟨good, good'⟩⟩

theorem next (second : Hands t u) (first : Hands s t) : Hands s u := first.trans second

/-- A change that leaves what is handed as it was. -/
theorem same (is : t.handed = s.handed) : Hands s t := ⟨[], by simp [is]⟩

/-- The same after others. -/
theorem leaves (same : u.handed = t.handed) (hands : Hands s t) : Hands s u :=
  hands.trans ⟨[], by simp [same]⟩

theorem handAll {l : List Instr} (good : ∀ i ∈ l, routine i = true) (hands : Hands s t) :
    Hands s (t.handAll l) :=
  hands.trans ⟨l, rfl, good⟩

theorem hand {i : Instr} (good : routine i = true) (hands : Hands s t) : Hands s (t.hand i) :=
  hands.trans ⟨[i], rfl, by simpa using good⟩

theorem raise (k : EventKind) (src : Source) (d1 d2 : Word16) (hands : Hands s t) :
    Hands s (t.raise k src d1 d2) :=
  hands.hand rfl

theorem handWriteNotice (x : WrittenEntry) (hands : Hands s t) : Hands s (t.handWriteNotice x) :=
  hands.hand (t := { t with written := t.written ++ [x] }) rfl

theorem raiseDropped (g : Group) (t' : TableId) (e : Bool) (n : Nat) (hands : Hands s t) :
    Hands s (t.raiseDropped g t' e n) :=
  hands.raise _ _ _ _

theorem foldl {α : Type} {f : State → α → State} (each : ∀ t a, Hands t (f t a)) (l : List α)
    (hands : Hands s t) : Hands s (l.foldl f t) :=
  foldl_keeps (fun _ _ before => before.trans (each _ _)) l hands

/-- What was waiting still is. -/
theorem mem (hands : Hands s t) {i : Instr} (waits : i ∈ s.handed) : i ∈ t.handed := by
  obtain ⟨l, is, -⟩ := hands
  simp [is, waits]

/-- No release joins. -/
theorem count_release (hands : Hands s t) (h : Head) :
    t.handed.count (.programRelease h) = s.handed.count (.programRelease h) := by
  obtain ⟨l, is, good⟩ := hands
  have none : l.count (.programRelease h) = 0 :=
    List.count_eq_zero.mpr fun mem => by simpa [routine] using good _ mem
  rw [is, List.count_append, none, Nat.add_zero]

theorem release_mem_iff (hands : Hands s t) (h : Head) :
    .programRelease h ∈ t.handed ↔ .programRelease h ∈ s.handed := by
  rw [← List.count_pos_iff, ← List.count_pos_iff, hands.count_release]

end Hands

/-! ### Zones and gauges -/

theorem setSetpoint_hands (s : State) (c : ZoneCh) (v : Nat) : Hands s (s.setSetpoint c v) := by
  rw [Hands, State.setSetpoint_handed]
  refine ⟨_, rfl, ?_⟩
  split <;> simp [routine, goodRecord, goodSetting]

theorem deriveZone_hands (h : Head) (r : StepRecord) (trims : Tab 7 Int) (s : State) (z : Zone) :
    Hands s (deriveZone h r trims s z) := by
  unfold deriveZone
  dsimp only
  exact (setSetpoint_hands _ _ _).next (.same rfl)

theorem deriveZones_hands (h : Head) (r : StepRecord) (trims : Tab 7 Int) (s : State) :
    Hands s (deriveZones h r trims s) :=
  .foldl (deriveZone_hands h r trims) _ (.refl s)

theorem clearZone_hands (h : Head) (s : State) (z : Zone) : Hands s (clearZone h s z) := by
  rw [clearZone_eq]
  exact .same rfl

theorem clearZones_hands (h : Head) (s : State) : Hands s (clearZones h s) :=
  .foldl (clearZone_hands h) _ (.refl s)

theorem tickHead_hands (s : State) (h : Head) : Hands s (tickHead s h) := by
  unfold tickHead
  split
  · have moved : Hands s ((List.finRange 7).foldl (safeMoveZone h) s) :=
      .foldl (fun s z => setSetpoint_hands s _ _) _ (.refl s)
    exact moved.leaves (by simp [safeSettle])
  · exact .refl s

theorem bandMonitor_hands (h : Head) (band : Nat) (z : Zone) (s : State) :
    Hands s (bandMonitor h band z s).1 := by
  unfold bandMonitor
  dsimp only
  split
  · exact .same rfl
  · exact .raise _ _ _ _ (.same rfl)
  · exact .raise _ _ _ _ (.same rfl)

theorem applyZone_hands (isErase : Bool) (c : ZoneCh) (e : ZoneConfig) (s : State) :
    Hands s (applyZone isErase c e s) := by
  unfold applyZone
  dsimp only
  split
  · exact (Hands.refl s).raiseDropped _ _ _ _
  · refine .handWriteNotice _ ?_
    split <;> exact .leaves rfl ((setSetpoint_hands _ _ _).next (.same rfl))

theorem overpressureUpdate_hands (c : ZoneCh) (fb : Nat) (s : State) :
    Hands s (overpressureUpdate c fb s) := by
  unfold overpressureUpdate
  dsimp only
  split
  · exact .hand rfl (.raise _ _ _ _ (.same rfl))
  · exact .same rfl

theorem handUpdate_hands (c : Chan) (fb : Nat) (s : State) : Hands s (handUpdate c fb s) := by
  unfold handUpdate
  split
  · exact overpressureUpdate_hands _ _ _
  split
  · exact (Hands.refl s).hand rfl
  · exact .refl s

theorem arriveWord_hands (w : GaugeBits) (s : State) : Hands s (arriveWord w s) := by
  unfold arriveWord takeSample
  dsimp only
  (repeat' split)
  · exact (Hands.refl s).raise _ _ _ _
  · exact (Hands.refl s).raise _ _ _ _
  · exact (Hands.refl s).raise _ _ _ _
  · exact (handUpdate_hands _ _ _).next (.same rfl)
  · exact .same rfl

theorem judgeStale_hands (c : Chan) (s : State) : Hands s (judgeStale c s) := by
  unfold judgeStale
  dsimp only
  split
  · exact .raise _ _ _ _ (.same rfl)
  · exact .refl s

theorem tickFilter_hands (s : State) (c : Chan) : Hands s (tickFilter s c) :=
  (judgeStale_hands _ _).next (.same rfl)

/-! ### Dispense -/

theorem reportEnd_hands (p : Platen) (st : EndStatus) (s : State) (o : Order) :
    Hands s (reportEnd p st s o) := by
  unfold reportEnd
  dsimp only
  split <;> exact .raise _ _ _ _ (.same rfl)

theorem endOrders_hands (p : Platen) (which : Order → Bool) (st : EndStatus) (s : State) :
    Hands s (endOrders p which st s) :=
  .foldl (reportEnd_hands p st) _ (.same rfl)

theorem endFirst_hands (p : Platen) (which : Order → Bool) (st : EndStatus) (s : State) :
    Hands s (endFirst p which st s) := by
  unfold endFirst
  dsimp only
  split
  · exact .refl s
  · exact (reportEnd_hands _ _ _ _).next (.same rfl)

theorem flowFault_hands (p : Platen) (l : Line) (s : State) : Hands s (flowFault p l s) := by
  have raised (d1 d2 : Word16) :
      Hands s ((endFirst p (activeOn l) .flowFault s).raise .flowFault (.line (lineIx p l)) d1 d2) :=
    .raise _ _ _ _ (endFirst_hands _ _ _ _)
  unfold flowFault
  dsimp only
  split
  · exact .leaves rfl (.hand rfl (raised _ _))
  · exact .leaves rfl (raised _ _)

theorem closeWindow_hands (p : Platen) (l : Line) (s : State) : Hands s (closeWindow p l s) := by
  unfold closeWindow
  dsimp only
  (repeat' split)
  · exact .refl s
  · exact .same rfl
  · exact (flowFault_hands _ _ _).next (.same rfl)
  · exact .same rfl

theorem countStroke_hands (p : Platen) (l : Line) (o : Order) (s : State) :
    Hands s (countStroke p l o s) := by
  unfold countStroke
  dsimp only
  split
  · exact .same rfl
  · exact .hand rfl (.same rfl)

theorem issueStroke_hands (p : Platen) (l : Line) (s : State) : Hands s (issueStroke p l s) := by
  have actuated : Hands s (s.actuate p l) := .same rfl
  have opened (u : State) : Hands u (openWindow p l u) := .same rfl
  have counted (o : Order) :
      Hands s (countStroke p l o (openWindow p l (closeWindow p l (s.actuate p l)))) :=
    ((actuated.trans (closeWindow_hands _ _ _)).trans (opened _)).trans (countStroke_hands _ _ _ _)
  cases found : s.activeOrder p l with
  | none =>
    rw [issueStroke_none found]
    exact .refl s
  | some o =>
    rw [issueStroke_eq found]
    (repeat' split)
    · exact .refl s
    · exact ((actuated.trans (countStroke_hands _ _ _ _)).trans (closeWindow_hands _ _ _)).trans
        (opened _)
    · exact (counted o).trans (endFirst_hands _ _ _ _)
    · exact counted o

theorem judgeLine_hands (p : Platen) (l : Line) (fuel : Nat) (s : State) :
    Hands s (judgeLine p l fuel s) := by
  induction fuel generalizing s with
  | zero => exact .refl s
  | succ fuel ih =>
    rw [judgeLine]
    dsimp only
    (repeat' split)
    · exact .refl s
    · exact .refl s
    · exact (endFirst_hands _ _ _ _).trans (ih _)
    · exact (endFirst_hands _ _ _ _).trans (ih _)
    · exact (endFirst_hands _ _ _ _).trans (ih _)
    · exact (ih _).next ((issueStroke_hands _ _ _).next (.same rfl))
    · exact .same rfl

theorem judgeOrders_hands (p : Platen) (s : State) : Hands s (judgeOrders p s) :=
  .foldl (fun s l => judgeLine_hands p l _ s) _ (.refl s)

theorem judgeIfEnded_hands (p : Platen) (before : Nat) (s : State) :
    Hands s (judgeIfEnded p before s) := by
  unfold judgeIfEnded
  split
  · exact judgeOrders_hands p s
  · exact .refl s

theorem offerOrder_hands (p : Platen) (o : Offer) (s : State) : Hands s (offerOrder p o s) := by
  unfold offerOrder
  dsimp only
  (repeat' split)
  · exact .refl s
  · exact (Hands.refl s).raise _ _ _ _
  · exact (Hands.refl s).raise _ _ _ _
  · exact (judgeOrders_hands _ _).next (.same rfl)

theorem triggerLine_hands (p : Platen) (h : Head) (s : State) (l : Line) :
    Hands s (triggerLine p h s l) := by
  unfold triggerLine
  dsimp only
  (repeat' split)
  · exact .refl s
  · exact .refl s
  · exact issueStroke_hands _ _ _
  · exact .same rfl
  · exact .refl s

theorem cycleNoticeAt_hands (p : Platen) (h : Head) (s : State) :
    Hands s (cycleNoticeAt p h s) := by
  unfold cycleNoticeAt
  dsimp only
  split
  · exact ((Hands.foldl (triggerLine_hands p h) _ (.refl s)).trans
      (judgeIfEnded_hands _ _ _)).leaves rfl
  · exact .refl s

theorem burstStroke_hands (p : Platen) (l : Line) (s : State) : Hands s (burstStroke p l s) := by
  unfold burstStroke
  (repeat' split)
  · exact .refl s
  · exact issueStroke_hands _ _ _
  · exact .refl s

theorem owedStroke_hands (p : Platen) (l : Line) (s : State) : Hands s (owedStroke p l s) := by
  unfold owedStroke
  dsimp only
  split
  · exact (issueStroke_hands _ _ _).next (.same rfl)
  · exact .refl s

theorem tickWindow_hands (p : Platen) (l : Line) (s : State) : Hands s (tickWindow p l s) := by
  unfold tickWindow
  dsimp only
  (repeat' split)
  · exact .refl s
  · exact closeWindow_hands _ _ _
  · exact .same rfl

theorem tickLine_hands (p : Platen) (s : State) (l : Line) : Hands s (tickLine p s l) :=
  (owedStroke_hands _ _ _).next ((burstStroke_hands _ _ _).next
    ((tickWindow_hands _ _ _).next (.same rfl)))

theorem tickDispense_hands (s : State) (p : Platen) : Hands s (tickDispense s p) :=
  (Hands.foldl (tickLine_hands p) _ (.refl s)).trans (judgeIfEnded_hands _ _ _)

theorem applyLine_hands (isErase : Bool) (i : LineIx) (e : LineConfig) (s : State) :
    Hands s (applyLine isErase i e s) := by
  unfold applyLine
  split
  · exact (Hands.refl s).raiseDropped _ _ _ _
  · exact .handWriteNotice _ (.same rfl)

/-! ### Conditioners -/

theorem driveCond_hands (s : State) (p : Platen) (c : Conditioner) : Hands s (s.driveCond p c) :=
  .same (by simp)

theorem startSegment_hands (p : Platen) (k : Fin 8) (seg : Nat) (s : State) :
    Hands s (startSegment p k seg s) :=
  .hand rfl (driveCond_hands s p _)

theorem enterParking_hands (p : Platen) (override : Bool) (s : State) :
    Hands s (enterParking p override s) :=
  driveCond_hands s p _

theorem enterFaulted_hands (p : Platen) (cause : CondFaultCause) (d2 : Nat) (s : State) :
    Hands s (enterFaulted p cause d2 s) :=
  .raise _ _ _ _ (driveCond_hands s p _)

theorem endSegment_hands (p : Platen) (s : State) : Hands s (endSegment p s) := by
  unfold endSegment
  dsimp only
  (repeat' split)
  · exact (startSegment_hands _ _ _ _).next (.same rfl)
  · exact enterParking_hands _ _ _
  · exact startSegment_hands _ _ _ _
  · exact (startSegment_hands _ _ _ _).next (.same rfl)
  · exact (enterParking_hands _ _ _).next (.same rfl)

theorem applyCondCommand_hands (p : Platen) (cmd : CondCommand) (s : State) :
    Hands s (applyCondCommand p cmd s).1 := by
  have parks (override : Bool) (u : State) (same : u.handed = s.handed) :
      Hands s (enterParking p override u) :=
    (enterParking_hands _ _ _).next (.same same)
  cases cmd with
  | sweep k =>
    simp only [applyCondCommand]
    (repeat' split)
    · exact .refl s
    · exact .same rfl
    · exact (startSegment_hands _ _ _ _).next (.same rfl)
  | park =>
    simp only [applyCondCommand]
    (repeat' split)
    · exact parks _ _ rfl
    all_goals exact .refl s
  | clearFault =>
    simp only [applyCondCommand]
    (repeat' split)
    · exact .refl s
    · exact parks _ _ rfl
    · exact .refl s
  | overloadAck =>
    simp only [applyCondCommand]
    (repeat' split)
    · exact parks _ _ rfl
    all_goals exact .refl s
  | unknown => exact .refl s

theorem raiseCondRefusal_hands (p : Platen) (code : Octet) (o : CondOutcome) (s : State) :
    Hands s (raiseCondRefusal p code o s) := by
  unfold raiseCondRefusal
  split
  · exact (Hands.refl s).raise _ _ _ _
  · exact .refl s

theorem newCondCommand_hands (p : Platen) (v : CommandValue) (s : State) :
    Hands s (newCondCommand p v s) :=
  (raiseCondRefusal_hands _ _ _ _).next
    (.leaves rfl ((applyCondCommand_hands _ _ _).next (.same rfl)))

theorem deliverCondCommand_hands (p : Platen) (v : CommandValue) (s : State) :
    Hands s (deliverCondCommand p v s) := by
  unfold deliverCondCommand
  (repeat' split)
  · exact .same rfl
  · exact .refl s
  · exact newCondCommand_hands p v s

theorem stepCommandAt_hands (p : Platen) (c : StepCommand) (s : State) :
    Hands s (stepCommandAt p c s) := by
  have applied (code : Octet) (cmd : CondCommand) :
      Hands s (raiseCondRefusal p code (applyCondCommand p cmd s).2 (applyCondCommand p cmd s).1) :=
    (raiseCondRefusal_hands _ _ _ _).next (applyCondCommand_hands _ _ _)
  cases c with
  | sweep k => exact applied 1 (.sweep k)
  | park => exact applied 2 .park

theorem parkIfSweeping_hands (p : Platen) (s : State) : Hands s (parkIfSweeping p s) := by
  unfold parkIfSweeping
  split
  · exact enterParking_hands _ _ _
  · exact .refl s

theorem overloadAt_hands (p : Platen) (s : State) : Hands s (overloadAt p s) := by
  unfold overloadAt
  dsimp only
  split
  · exact enterFaulted_hands _ _ _ _
  · exact .refl s

theorem judgePosition_hands (p : Platen) (fb : Nat) (s : State) :
    Hands s (judgePosition p fb s) := by
  unfold judgePosition
  dsimp only
  (repeat' split)
  · exact (endSegment_hands _ _).next (.same rfl)
  · exact .same rfl
  · exact .refl s
  · exact .same rfl
  · exact .refl s
  · exact .refl s

theorem reachTimeoutAt_hands (p : Platen) (s : State) : Hands s (reachTimeoutAt p s) := by
  unfold reachTimeoutAt
  dsimp only
  split
  · exact (enterFaulted_hands _ _ _ _).next (.same rfl)
  · exact .refl s

theorem parkTimeoutAt_hands (p : Platen) (s : State) : Hands s (parkTimeoutAt p s) := by
  unfold parkTimeoutAt
  dsimp only
  split
  · exact (enterFaulted_hands _ _ _ _).next (.same rfl)
  · exact .refl s

theorem dwellEndAt_hands (p : Platen) (s : State) : Hands s (dwellEndAt p s) := by
  unfold dwellEndAt
  dsimp only
  split
  · exact endSegment_hands _ _
  · exact .refl s

theorem tickCond_hands (s : State) (p : Platen) : Hands s (tickCond s p) := by
  unfold tickCond
  dsimp only
  (repeat' split)
  · exact .same rfl
  · exact dwellEndAt_hands _ _
  · exact reachTimeoutAt_hands _ _
  · exact .same rfl
  · exact parkTimeoutAt_hands _ _
  · exact .refl s
  · exact .refl s

/-! ### The Program Store's, the sweep tables' and the Cell Map's writes -/

theorem applyDir_hands (isErase : Bool) (i : Fin 16) (e : DirEntry) (s : State) :
    Hands s (applyDir isErase i e s) := by
  unfold applyDir
  split
  · exact (Hands.refl s).raiseDropped _ _ _ _
  · exact .hand rfl (.same rfl)

theorem applyStep_hands (isErase : Bool) (i : Fin 96) (r : StepRecord) (s : State) :
    Hands s (applyStep isErase i r s) := by
  unfold applyStep
  split
  · exact (Hands.refl s).raiseDropped _ _ _ _
  · exact .hand rfl (.same rfl)

theorem applyProfile_hands (isErase : Bool) (k : Fin 8) (e : ProfileEntry) (s : State) :
    Hands s (applyProfile isErase k e s) := by
  unfold applyProfile
  split
  · exact (Hands.refl s).raiseDropped _ _ _ _
  · exact .handWriteNotice _ (.same rfl)

theorem applySegment_hands (isErase : Bool) (i : Fin 96) (r : SegmentRecord) (s : State) :
    Hands s (applySegment isErase i r s) := by
  unfold applySegment
  split
  · exact (Hands.refl s).raiseDropped _ _ _ _
  · exact .handWriteNotice _ (.same rfl)

theorem applyMapWrite_hands (i : Fin 128) (e : MapEntry) (s : State) :
    Hands s (applyMapWrite i e s) := by
  unfold applyMapWrite
  split
  · exact (Hands.refl s).raiseDropped _ _ _ _
  · exact .hand rfl (.same rfl)

theorem judgeRequired_hands (filled : List (Fin 128)) (s : State) (e : Fin 128) :
    Hands s (judgeRequired filled s e) := by
  unfold judgeRequired
  dsimp only
  (repeat' split)
  · exact .same rfl
  · exact .leaves rfl (.raise _ _ _ _ (.refl s))
  · exact .refl s
  · exact .refl s

/-! ### Docks, idle timers, inputs, the cadence and the verifier -/

theorem applyDock_hands (p : Platen) (x : Octet) (s : State) : Hands s (applyDock p x s).1 :=
  .same (by simp)

theorem newDock_hands (p : Platen) (x : Octet) (seq : Word16) (s : State) :
    Hands s (newDock p x seq s) := by
  unfold newDock
  dsimp only
  split
  · exact .raise _ _ _ _ (.leaves rfl ((applyDock_hands _ _ _).next (.same rfl)))
  · exact .leaves rfl ((applyDock_hands _ _ _).next (.same rfl))

theorem deliverDock_hands (p : Platen) (v : DockValue) (s : State) :
    Hands s (deliverDock p v s) := by
  unfold deliverDock
  (repeat' split)
  · exact .same rfl
  · exact .refl s
  · exact newDock_hands _ _ _ _

theorem expireIdle_hands (p : Platen) (s : State) : Hands s (expireIdle p s) := by
  have offered : Hands s ((s.raise .idleWet (.platen p) (w16 (s.idle.get p).line.val)
      (w16 (s.idle.get p).count)).hand (.orderOffer p
        ⟨.idleWet, (s.idle.get p).line, (s.idle.get p).count, .burst⟩)) :=
    ((Hands.refl s).raise _ _ _ _).hand rfl
  unfold expireIdle
  dsimp only
  split
  · exact (offered.hand rfl).leaves rfl
  · exact offered.leaves rfl

theorem tickIdle_hands (s : State) (p : Platen) : Hands s (tickIdle s p) := by
  unfold tickIdle
  dsimp only
  (repeat' split)
  · exact .refl s
  · exact .same rfl
  · exact (expireIdle_hands _ _).next (.same rfl)
  · exact .same rfl

theorem risingNotices_routine (f : InputFunction) : ∀ i ∈ risingNotices f, routine i = true := by
  cases f <;> simp [risingNotices, routine, goodRecord, goodSetting, or_imp, forall_and]

theorem updateInput_hands (i : Fin 16) (u : InputUnit) (s : State) :
    Hands s (updateInput i u s) := by
  have raised (d1 d2 : Word16) : Hands s ((s.setInput i u).raise .inputChange (.input i) d1 d2) :=
    .raise _ _ _ _ (.same rfl)
  unfold updateInput
  dsimp only
  (repeat' split)
  · exact .same rfl
  · exact (raised _ _).handAll (risingNotices_routine _)
  · exact raised _ _
  · exact raised _ _

theorem settleInput_hands (i : Fin 16) (s : State) : Hands s (settleInput i s) :=
  updateInput_hands _ _ _

theorem changeLevel_hands (i : Fin 16) (level : Bool) (s : State) :
    Hands s (changeLevel i level s) := by
  unfold changeLevel
  dsimp only
  (repeat' split)
  · exact .refl s
  · exact (settleInput_hands _ _).next (.same rfl)
  · exact .same rfl

theorem tickInput_hands (s : State) (i : Fin 16) : Hands s (tickInput s i) := by
  unfold tickInput
  dsimp only
  (repeat' split)
  · exact .refl s
  · exact (settleInput_hands _ _).next (.same rfl)
  · exact .same rfl

theorem applyInput_hands (isErase : Bool) (i : Fin 16) (e : InputConfig) (s : State) :
    Hands s (applyInput isErase i e s) := by
  unfold applyInput
  split
  · exact (Hands.refl s).raise _ _ _ _
  · exact updateInput_hands _ _ _

theorem clearInputAt_hands (i : Fin 16) (s : State) : Hands s (clearInputAt i s) := by
  unfold clearInputAt
  dsimp only
  split
  · exact (Hands.refl s).raise _ _ _ _
  · exact updateInput_hands _ _ _

theorem refilterInputs_hands (s : State) : Hands s (refilterInputs s) := by
  refine .foldl (fun s i => ?_) _ (.refl s)
  unfold refilterInput
  dsimp only
  split
  · exact settleInput_hands _ _
  · exact .refl s

theorem cadenceViolation_hands (v : Violation) (s : State) : Hands s (cadenceViolation v s) := by
  unfold cadenceViolation
  dsimp only
  (repeat' split)
  · exact .refl s
  · refine .handAll ?_ (.raise _ _ _ _ (.raise _ _ _ _ (.same rfl)))
    simp [routine, goodRecord, goodSetting]
  · exact .raise _ _ _ _ (.same rfl)
  · exact .raise _ _ _ _ (.same rfl)

theorem lateExpiry_hands (e : BitVec 32) (s : State) : Hands s (lateExpiry e s) :=
  (cadenceViolation_hands _ _).next (.same rfl)

theorem passExpiries_hands (fuel span : Nat) (s : State) : Hands s (passExpiries fuel span s) := by
  induction fuel generalizing span s with
  | zero => exact .same rfl
  | succ fuel ih =>
    rw [passExpiries]
    dsimp only
    (repeat' split)
    · exact .same rfl
    · exact (ih _ _).next ((lateExpiry_hands _ _).next (.same rfl))
    · exact .same rfl

theorem advanceToPhase_hands (phase : Nat) (s : State) : Hands s (advanceToPhase phase s) := by
  unfold advanceToPhase
  split
  · exact .refl s
  · exact (passExpiries_hands _ _ s).leaves rfl

theorem takeExpiry_hands (s : State) : Hands s (takeExpiry s) := by
  unfold takeExpiry
  dsimp only
  (repeat' split)
  · exact .refl s
  · exact (lateExpiry_hands _ _).next (.same rfl)
  · exact lateExpiry_hands _ _

theorem inWindow_hands (s : State) : Hands s (inWindow s) := by
  unfold inWindow
  dsimp only
  (repeat' split)
  · exact .refl s
  · exact .same rfl
  · exact .same rfl
  · exact .raise _ _ _ _ (.same rfl)

theorem judgeInterval_hands (us : BitVec 32) (s : State) : Hands s (judgeInterval us s) := by
  unfold judgeInterval
  dsimp only
  split
  · exact .same rfl
  all_goals
    (repeat' split)
    · exact .refl s
    · exact .refl s
    · exact cadenceViolation_hands _ _
    · exact inWindow_hands _
    · exact .refl s

theorem cycleFrameNotice_hands (us : BitVec 32) (s : State) : Hands s (cycleFrameNotice us s) :=
  (judgeInterval_hands us s).leaves rfl

theorem failGroup_hands (g : Group) (crc : BitVec 16) (s : State) :
    Hands s (failGroup g crc s) := by
  refine .handAll ?_ (.raise _ _ _ _ (.same rfl))
  cases g <;> simp [failedNotices, routine, goodRecord, goodSetting]

theorem completeScan_hands (g : Group) (s : State) : Hands s (completeScan g s) := by
  unfold completeScan
  dsimp only
  split
  · exact .leaves rfl (.raise _ _ _ _ (.same rfl))
  · exact failGroup_hands _ _ _

theorem completeRescan_hands (g : Group) (s : State) : Hands s (completeRescan g s) := by
  unfold completeRescan
  dsimp only
  split
  · exact .same rfl
  · exact failGroup_hands _ _ _

theorem tickGroup_hands (s : State) (g : Group) : Hands s (tickGroup s g) := by
  unfold tickGroup completeAt
  dsimp only
  (repeat' split)
  · exact .refl s
  · exact .same rfl
  · exact completeScan_hands _ _
  · exact completeRescan_hands _ _
  · exact .refl s
  · exact .refl s

/-! ### The tick, and the commands that hand nothing else -/

theorem tickBlocks_hands (s : State) : Hands s (tickBlocks s) :=
  tickBlocks_induction (L := Hands s) ((passExpiries_hands _ _ s).leaves rfl)
    (fun _ h before => before.trans (tickHead_hands _ h))
    (fun _ c before => before.trans (tickFilter_hands _ c))
    (fun _ p before => before.trans (tickDispense_hands _ p))
    (fun _ p before => before.trans (tickCond_hands _ p))
    (fun _ p before => before.trans (tickIdle_hands _ p))
    (fun _ before => before.leaves (by simp))
    (fun _ i before => before.trans (tickInput_hands _ i))
    (fun _ g before => before.trans (tickGroup_hands _ g))

end Sys2Proof.Machine
end

section
/-! PROOFS. What a head does (chapter 2): the equations of a step start and a step's end, and that
every stage of a delivery, every cause and every command but an accepted START or CLEAR leaves an
IDLE head IDLE, a head in SAFE_HOLD there, and hands one release of its program exactly where the
head stops running it. -/

namespace Sys2Proof.Machine

open Sys2Proof

/-! ### One head's record after a change -/

theorem isActive_iff {r : HeadRecord} :
    r.isActive = true ↔ r.state = .running ∨ r.state = .paused := by simp [HeadRecord.isActive]

/-- What a step start hands the platen the head is docked to. -/
def State.stepEvents (s : State) (h : Head) (r : StepRecord) : List Instr :=
  match s.platenOf h with
  | some p => stepActions h p r
  | none => []

/-- The head record at the start of step `idx`, whose record is `c`. -/
def HeadRecord.stepStarted (r : HeadRecord) (idx : Nat) (c : StepRecord) : HeadRecord :=
  { r with
    stepIndex := idx, context := some c, cycleCount := 0, settledRun := 0, skip := false,
    latch := r.endpoint }

theorem platenOf_congr {s t : State} (same : t.docks = s.docks) (h : Head) :
    t.platenOf h = s.platenOf h := by simp [State.platenOf, same]

@[simp] theorem handAll_nil (s : State) : s.handAll [] = s := by
  cases s
  simp [State.handAll, State.setHanded]

theorem startStep_eq (h : Head) (p : Fin 16) (idx : Nat) (s : State) :
    startStep h p idx s =
      (maskZones h
        (s.setHead h ((s.heads.get h).stepStarted idx (s.stepRecordOf p idx)))).handAll
          (s.stepEvents h (s.stepRecordOf p idx)) := by
  unfold startStep State.stepEvents
  have same : (maskZones h (s.setHead h
      ((s.heads.get h).stepStarted idx (s.stepRecordOf p idx)))).platenOf h = s.platenOf h :=
    platenOf_congr (by simp) h
  simp only [HeadRecord.stepStarted] at same ⊢
  simp only [same]
  cases s.platenOf h with
  | some pl => rfl
  | none => simp only [handAll_nil]

theorem stepActions_routine (h : Head) (p : Platen) (r : StepRecord) :
    ∀ i ∈ stepActions h p r, routine i = true := by
  unfold stepActions
  split <;> split <;> simp [routine, goodRecord, goodSetting]

theorem stepEvents_routine (s : State) (h : Head) (r : StepRecord) :
    ∀ i ∈ s.stepEvents h r, routine i = true := by
  unfold State.stepEvents
  split
  · exact stepActions_routine _ _ _
  · simp

theorem handStepEnd_hands (h : Head) (s : State) : Hands s (handStepEnd h s) := by
  unfold handStepEnd
  split
  · exact .hand rfl (.refl s)
  · exact .refl s

/-! ### Releases -/

/-- From `s` to `t` routine events have been handed, and `n` releases of head `h`. -/
def Releases (h : Head) (n : Nat) (s t : State) : Prop :=
  ∃ l, t.handed = s.handed ++ l ∧ (∀ i ∈ l, routine i = true ∨ i = .programRelease h) ∧
    l.count (.programRelease h) = n

theorem Hands.releases {s t : State} (hands : Hands s t) (h : Head) : Releases h 0 s t := by
  obtain ⟨l, is, good⟩ := hands
  refine ⟨l, is, fun i mem => .inl (good i mem), List.count_eq_zero.mpr fun mem => ?_⟩
  simpa [routine] using good _ mem

theorem Releases.trans {h : Head} {m n : Nat} {s t u : State} (first : Releases h m s t)
    (second : Releases h n t u) : Releases h (m + n) s u := by
  obtain ⟨l, is, good, count⟩ := first
  obtain ⟨l', is', good', count'⟩ := second
  exact ⟨l ++ l', by simp [is, is'], by simpa [or_imp, forall_and] using ⟨good, good'⟩,
    by simp [count, count']⟩

theorem Releases.count_same {h : Head} {n : Nat} {s t : State} (r : Releases h n s t) :
    t.handed.count (.programRelease h) = s.handed.count (.programRelease h) + n := by
  obtain ⟨l, is, -, count⟩ := r
  rw [is, List.count_append, count]

theorem Releases.count_other {h k : Head} {n : Nat} {s t : State} (r : Releases h n s t)
    (ne : k ≠ h) : t.handed.count (.programRelease k) = s.handed.count (.programRelease k) := by
  obtain ⟨l, is, good, -⟩ := r
  have none : l.count (.programRelease k) = 0 := List.count_eq_zero.mpr fun mem => by
    obtain no | other := good _ mem
    · simp [routine] at no
    · exact ne (by simpa using other)
  rw [is, List.count_append, none, Nat.add_zero]

theorem Releases.mem {h : Head} {n : Nat} {s t : State} (r : Releases h n s t) {i : Instr}
    (waits : i ∈ s.handed) : i ∈ t.handed := by
  obtain ⟨l, is, -⟩ := r
  simp [is, waits]

/-- What joins carries records and settings in range. -/
theorem Releases.good {h : Head} {n : Nat} {s t : State} (r : Releases h n s t)
    (good : ∀ i ∈ s.handed, goodRecord i = true ∧ goodSetting i = true) :
    ∀ i ∈ t.handed, goodRecord i = true ∧ goodSetting i = true := by
  obtain ⟨l, is, fine, -⟩ := r
  rw [is]
  intro i mem
  obtain mem | mem := List.mem_append.mp mem
  · exact good i mem
  · obtain plain | rfl := fine i mem
    · exact ⟨(routine_eq_true.mp plain).1, (routine_eq_true.mp plain).2.1⟩
    · exact ⟨rfl, rfl⟩

/-! ### The conduct of one head -/

/-- Whether a head stops running its program from `r` to `r'`. -/
def stops (r r' : HeadRecord) : Nat := if r.isActive = true ∧ r'.isActive = false then 1 else 0

/-- From `s` to `t` head `h` neither leaves IDLE, comes to it nor leaves SAFE_HOLD, and starts no
program; it hands one release where it stops running its program.  Every other head, the Program
Store, the docks, the cadence and the ring are as they were. -/
structure Conduct (h : Head) (s t : State) : Prop where
  others : ∀ k, k ≠ h → t.heads.get k = s.heads.get k
  program : (t.heads.get h).program = (s.heads.get h).program
  idle : (t.heads.get h).state = .idle ↔ (s.heads.get h).state = .idle
  hold : (s.heads.get h).state = .safeHold → (t.heads.get h).state = .safeHold
  active : (t.heads.get h).isActive = true → (s.heads.get h).isActive = true
  releases : Releases h (stops (s.heads.get h) (t.heads.get h)) s t
  store : t.store = s.store
  docks : t.docks = s.docks
  cadence : t.cadence = s.cadence
  ring : t.ring = s.ring

namespace Conduct

variable {h : Head} {s t u : State}

theorem trans (first : Conduct h s t) (second : Conduct h t u) : Conduct h s u where
  others k ne := (second.others k ne).trans (first.others k ne)
  program := second.program.trans first.program
  idle := second.idle.trans first.idle
  hold := second.hold ∘ first.hold
  active := first.active ∘ second.active
  releases := by
    have counts : stops (s.heads.get h) (t.heads.get h) + stops (t.heads.get h) (u.heads.get h) =
        stops (s.heads.get h) (u.heads.get h) := by
      have one := first.active
      have two := second.active
      unfold stops
      cases is : (s.heads.get h).isActive <;> cases is' : (t.heads.get h).isActive <;>
        cases is'' : (u.heads.get h).isActive <;> simp [is, is', is''] at one two ⊢
    exact counts ▸ first.releases.trans second.releases
  store := second.store.trans first.store
  docks := second.docks.trans first.docks
  cadence := second.cadence.trans first.cadence
  ring := second.ring.trans first.ring

theorem next (second : Conduct h t u) (first : Conduct h s t) : Conduct h s u := first.trans second

/-- A change that leaves every head's record as it was. -/
theorem of_heads (heads : t.heads = s.heads) (hands : Hands s t) (store : t.store = s.store)
    (docks : t.docks = s.docks) (cadence : t.cadence = s.cadence) (ring : t.ring = s.ring) :
    Conduct h s t where
  others k _ := by rw [heads]
  program := by rw [heads]
  idle := by rw [heads]
  hold := by simp [heads]
  active := by simp [heads]
  releases := by
    have none : stops (s.heads.get h) (t.heads.get h) = 0 := by simp [stops, heads]
    exact none ▸ hands.releases h
  store := store
  docks := docks
  cadence := cadence
  ring := ring

theorem refl (h : Head) (s : State) : Conduct h s s := of_heads rfl (.refl s) rfl rfl rfl rfl

/-- A new record of the head that goes on running its program, or that does not run one. -/
theorem setHead {r : HeadRecord} (program : r.program = (s.heads.get h).program)
    (idle : r.state = .idle ↔ (s.heads.get h).state = .idle)
    (hold : (s.heads.get h).state = .safeHold → r.state = .safeHold)
    (active : r.isActive = (s.heads.get h).isActive) : Conduct h s (s.setHead h r) where
  others k ne := by simp [Tab.get_upd_ne _ _ ne.symm]
  program := by simpa using program
  idle := by simpa using idle
  hold := by simpa using hold
  active := by simp [← active]
  releases := by
    have none : stops (s.heads.get h) ((s.setHead h r).heads.get h) = 0 := by
      simp [stops, active]
    exact none ▸ Hands.releases (.same rfl) h
  store := rfl
  docks := rfl
  cadence := rfl
  ring := rfl

/-- A new record of the head in the same state, with the same program. -/
theorem setHead_same {r : HeadRecord} (program : r.program = (s.heads.get h).program)
    (state : r.state = (s.heads.get h).state) : Conduct h s (s.setHead h r) :=
  setHead program (by rw [state]) (by simp [state]) (by simp [HeadRecord.isActive, state])

theorem foldl {α : Type} {f : State → α → State} (each : ∀ s a, Conduct h s (f s a)) (l : List α)
    (s : State) : Conduct h s (l.foldl f s) :=
  foldl_keeps (fun _ _ before => before.trans (each _ _)) l (refl h s)

end Conduct

/-! ### Safe hold and step ends -/

theorem safeHoldEvents_releases (h : Head) (cause : SafeCause) (r : HeadRecord) (pl : Option Platen) :
    (∀ i ∈ safeHoldEvents h cause r pl, routine i = true ∨ i = .programRelease h) ∧
      (safeHoldEvents h cause r pl).count (.programRelease h) =
        if r.state = .running ∨ r.state = .paused then 1 else 0 := by
  unfold safeHoldEvents
  constructor
  · intro i
    split <;> cases pl <;> simp +contextual [routine, goodRecord, goodSetting, or_imp]
  · split <;> cases pl <;> simp

theorem enterSafeHold_conduct {h : Head} {s : State} (cause : SafeCause)
    (runs : (s.heads.get h).state = .running ∨ (s.heads.get h).state = .paused ∨
      (s.heads.get h).state = .done) : Conduct h s (enterSafeHold h cause s) := by
  obtain ⟨good, count⟩ := safeHoldEvents_releases h cause (s.heads.get h) (s.platenOf h)
  rw [enterSafeHold_eq]
  refine ⟨fun k ne => by simp [Tab.get_upd_ne _ _ ne.symm], by simp, ?_, by simp, by simp [HeadRecord.isActive],
    ⟨_, rfl, good, count.trans ?_⟩, rfl, rfl, rfl, rfl⟩
  · obtain is | is | is := runs <;> simp [is]
  · obtain is | is | is := runs <;> simp [stops, HeadRecord.isActive, is]

theorem causeEnters_state {cause : SafeCause} {st : HeadState} (enters : causeEnters cause st = true) :
    st = .running ∨ st = .paused ∨ st = .done := by
  cases st <;> simp [causeEnters] at enters ⊢

theorem safeHoldCause_conduct (h : Head) (cause : SafeCause) (s : State) :
    Conduct h s (safeHoldCause h cause s) := by
  unfold safeHoldCause
  split
  · next enters => exact enterSafeHold_conduct cause (causeEnters_state enters)
  · exact .refl h s

theorem startStep_conduct (h : Head) (p : Fin 16) (idx : Nat) (s : State) :
    Conduct h s (startStep h p idx s) := by
  rw [startStep_eq]
  have masked := Conduct.setHead_same (h := h) (s := s)
    (r := (s.heads.get h).stepStarted idx (s.stepRecordOf p idx)) rfl rfl
  refine masked.trans (.of_heads (by simp) ?_ (by simp) (by simp) (by simp) (by simp))
  exact .handAll (stepEvents_routine _ _ _) (.same (by simp))

/-- The program's end: the head is DONE, its release is handed and PROGRAM_DONE raised. -/
theorem programDone_conduct {h : Head} {s : State} (runs : (s.heads.get h).state = .running)
    (d1 d2 : Word16) :
    Conduct h s
      (((s.setHead h { s.heads.get h with skip := false, state := .done }).hand
        (.programRelease h)).raise .programDone (.head h) d1 d2) where
  others k ne := by simp [Tab.get_upd_ne _ _ ne.symm]
  program := by simp
  idle := by simp [runs]
  hold := by simp [runs]
  active := by simp [HeadRecord.isActive]
  releases :=
    ⟨[.programRelease h, .eventRaise .programDone (.head h) d1 d2], by simp,
      by simp [routine, goodRecord, goodSetting], by simp [stops, HeadRecord.isActive, runs]⟩
  store := by simp
  docks := by simp
  cadence := by simp
  ring := by simp

theorem handStepEnd_conduct (h : Head) (s : State) : Conduct h s (handStepEnd h s) :=
  .of_heads (by simp) (handStepEnd_hands h s) (by simp) (by simp) (by simp) (by simp)

theorem endStep_conduct {h : Head} {s : State} (runs : (s.heads.get h).state = .running) :
    Conduct h s (endStep h s) := by
  have noted := handStepEnd_conduct h s
  have heads : (handStepEnd h s).heads = s.heads := by simp
  have unmarked : Conduct h s ((handStepEnd h s).setHead h
      { (handStepEnd h s).heads.get h with skip := false }) :=
    noted.trans (.setHead_same rfl rfl)
  unfold endStep
  dsimp only
  split
  · exact unmarked
  split
  · exact unmarked.trans (startStep_conduct h _ _ _)
  · have done := programDone_conduct (h := h) (s := (handStepEnd h s).setHead h
      { (handStepEnd h s).heads.get h with skip := false }) (by simpa using runs)
    refine unmarked.trans ?_
    simpa using done _ _

theorem timeoutStep_conduct {h : Head} {s : State} (c : StepRecord)
    (runs : (s.heads.get h).state = .running) : Conduct h s (timeoutStep h c s) := by
  have raised (d1 d2 : Word16) : Conduct h s (s.raise .stepTimeout (.head h) d1 d2) :=
    .of_heads rfl (.raise _ _ _ _ (.refl s)) rfl rfl rfl rfl
  unfold timeoutStep
  dsimp only
  split
  · exact (raised _ _).trans (safeHoldCause_conduct h _ _)
  · exact (raised _ _).trans (endStep_conduct runs)

/-! ### The stages of a delivery -/

theorem bandMonitor_conduct (h : Head) (band : Nat) (z : Zone) (s : State) :
    Conduct h s (bandMonitor h band z s).1 :=
  .of_heads (by simp) (bandMonitor_hands _ _ _ _) (by simp) (by simp) (by simp) (by simp)

theorem applyBandAction_conduct (h : Head) (a : BandAction) (s : State) :
    Conduct h s (applyBandAction h a s) := by
  cases a with
  | report => exact .refl h s
  | hold =>
    simp only [applyBandAction]
    split
    · next runs =>
      exact .setHead rfl (by simp [runs]) (by simp [runs]) (by simp [HeadRecord.isActive, runs])
    · exact .refl h s
  | safe => exact safeHoldCause_conduct h _ s

theorem stageBandZone_conduct (h : Head) (band : Nat) (acc : State × Bool) (z : Zone) :
    Conduct h acc.1 (stageBandZone h band acc z).1 := by
  unfold stageBandZone
  dsimp only
  split
  · exact (bandMonitor_conduct h _ _ _).trans (applyBandAction_conduct h _ _)
  · exact bandMonitor_conduct h _ _ _

theorem stageBand_conduct (h : Head) (s : State) : Conduct h s (stageBand h s).1 :=
  foldl_keeps (L := fun acc : State × Bool => Conduct h s acc.1)
    (fun acc z before => before.trans (stageBandZone_conduct h _ acc z)) _ (.refl h s)

theorem stageInputs_conduct (h : Head) (d : Delivery) (started : Bool) (s : State) :
    Conduct h s (stageInputs h d started s) :=
  .setHead_same rfl rfl

theorem stageSetpoints_conduct (h : Head) (s : State) : Conduct h s (stageSetpoints h s) := by
  unfold stageSetpoints
  dsimp only
  split
  · exact .of_heads (by simp) (deriveZones_hands _ _ _ _) (by simp) (by simp) (by simp) (by simp)
  · exact .refl h s
  · exact .of_heads (by simp) (.same (by simp)) (by simp) (by simp) (by simp) (by simp)
  all_goals exact .refl h s

theorem stageEnd_conduct {h : Head} {s : State} (runs : (s.heads.get h).state = .running)
    (skipBefore met : Bool) : Conduct h s (stageEnd h skipBefore met s) := by
  have counted (c : StepRecord) : Conduct h s (s.setHead h (countCycle (s.heads.get h) c met)) :=
    .setHead_same rfl rfl
  have told {u : State} (p : Platen) : Conduct h u (u.hand (.cycleNotice p h)) :=
    .of_heads rfl (.hand rfl (.refl u)) rfl rfl rfl rfl
  unfold stageEnd
  dsimp only
  split
  · exact .refl h s
  next c _ =>
  have noticed : Conduct h s
      (match (s.setHead h (countCycle (s.heads.get h) c met)).platenOf h with
        | some p => (s.setHead h (countCycle (s.heads.get h) c met)).hand (.cycleNotice p h)
        | none => s.setHead h (countCycle (s.heads.get h) c met)) := by
    split
    · exact (counted c).trans (told _)
    · exact counted c
  have still : ((match (s.setHead h (countCycle (s.heads.get h) c met)).platenOf h with
        | some p => (s.setHead h (countCycle (s.heads.get h) c met)).hand (.cycleNotice p h)
        | none => s.setHead h (countCycle (s.heads.get h) c met)).heads.get h).state =
      .running := by
    split <;> simpa [countCycle] using runs
  split
  · exact noticed.trans (endStep_conduct still)
  · exact noticed.trans (timeoutStep_conduct c still)
  · exact noticed

/-- The state and the settled test after stages 2 and 3 of a delivery. -/
def State.banded (h : Head) (d : Delivery) (started : Bool) (s : State) : State × Bool :=
  let s := stageInputs h d started s
  if runsBand (s.heads.get h).state then stageBand h s else (s, false)

/-- Stages 2 to 5 of a delivery. -/
def State.staged (h : Head) (d : Delivery) (started skipBefore : Bool) (s : State) : State :=
  let x := s.banded h d started
  let s := stageSetpoints h x.1
  if (s.heads.get h).state = .running then stageEnd h skipBefore x.2 s else s

theorem deliverCycle_eq (h : Head) (d : Delivery) (s : State) :
    deliverCycle h d s =
      (stageCommand h d.command s).staged h d
        (startedStep (s.heads.get h).state ((stageCommand h d.command s).heads.get h).state)
        (s.heads.get h).skip := rfl

theorem banded_conduct (h : Head) (d : Delivery) (started : Bool) (s : State) :
    Conduct h s (s.banded h d started).1 := by
  have stored := stageInputs_conduct h d started s
  unfold State.banded
  dsimp only
  split
  · exact stored.trans (stageBand_conduct h _)
  · exact stored

theorem staged_conduct (h : Head) (d : Delivery) (started skipBefore : Bool) (s : State) :
    Conduct h s (s.staged h d started skipBefore) := by
  have set := (banded_conduct h d started s).trans (stageSetpoints_conduct h _)
  unfold State.staged
  dsimp only
  split
  · next is => exact set.trans (stageEnd_conduct is _ _)
  · exact set

end Sys2Proof.Machine
end

section
/-! PROOFS. The commands of a head: what an accepted START and an accepted CLEAR do, that no other
command leaves IDLE or SAFE_HOLD (Law 9, R21), and the docks of running heads (Law 5). -/

namespace Sys2Proof.Machine

open Sys2Proof

/-! ### START and CLEAR accepted -/

/-- A waiting release of the head is taken, and with it its claim; without one nothing is. -/
theorem takeRelease_handed (h : Head) (s : State) :
    (s.takeRelease h).handed = s.handed.erase (.programRelease h) := by
  unfold State.takeRelease
  split
  · rfl
  · next none => rw [List.erase_of_not_mem none]

/-- Only the claim of the head is touched by the taking of its release. -/
theorem takeRelease_store (h : Head) (s : State) :
    ∃ c, (s.takeRelease h).store = { s.store with claims := s.store.claims.upd h c } := by
  unfold State.takeRelease
  split
  · exact ⟨none, rfl⟩
  · exact ⟨s.store.claims.get h, by rw [Tab.upd_get_same]⟩

/-- An accepted START of program `p` by its number (R21): the head was IDLE and docked, the program
valid and the gates open.  It is RUNNING, under its claim, and a waiting release has been taken. -/
structure Started (h : Head) (number : Octet) (p : Fin 16) (s t : State) : Prop where
  fromIdle : (s.heads.get h).state = .idle
  others : ∀ k, k ≠ h → t.heads.get k = s.heads.get k
  docked : ∃ d, s.platenOf h = some d
  valid : s.validProgram number = some p
  gates : startVerdict h s = none
  running : (t.heads.get h).state = .running
  program : (t.heads.get h).program = some p
  context : ∃ c, (t.heads.get h).context = some c
  claimed : t.store = { s.store with claims := s.store.claims.upd h (some p) }
  docks : t.docks = s.docks
  cadence : t.cadence = s.cadence
  ring : t.ring = s.ring
  hands : Hands (s.takeRelease h) t

/-- An accepted CLEAR (R24): a head that was DONE, or in SAFE_HOLD and SETTLED, is IDLE. -/
structure Cleared (h : Head) (s t : State) : Prop where
  fromEnd : (s.heads.get h).state = .done ∨
    ((s.heads.get h).state = .safeHold ∧ (s.heads.get h).substate = .settled)
  others : ∀ k, k ≠ h → t.heads.get k = s.heads.get k
  idle : (t.heads.get h).state = .idle
  store : t.store = s.store
  docks : t.docks = s.docks
  cadence : t.cadence = s.cadence
  ring : t.ring = s.ring
  hands : Hands s t

/-- What a head command does: it goes on, refuses a START after a waiting release, starts or
clears. -/
inductive HeadActs (h : Head) (cmd : HeadCommand) (s t : State) : Prop where
  | goesOn (conduct : Conduct h s t)
  | refuses (idle : (s.heads.get h).state = .idle) (conduct : Conduct h (s.takeRelease h) t)
  | starts (number : Octet) (p : Fin 16) (is : cmd = .start number) (started : Started h number p s t)
  | clears (is : cmd = .clear) (cleared : Cleared h s t)

theorem validProgram_takeRelease (h : Head) (x : Octet) (s : State) :
    (s.takeRelease h).validProgram x = s.validProgram x := by
  obtain ⟨c, is⟩ := takeRelease_store h s
  simp [State.validProgram, State.rangeValid, is]

theorem startVerdict_takeRelease (h : Head) (s : State) :
    startVerdict h (s.takeRelease h) = startVerdict h s := by
  simp [startVerdict, State.gateOpen, State.groupVerified, State.zoneGateOpen, State.gateOpenFor,
    State.functionActive]

theorem startHead_acts {h : Head} {s : State} (number : Octet)
    (idle : (s.heads.get h).state = .idle) :
    HeadActs h (.start number) s (startHead h number s).1 := by
  unfold startHead
  split
  · exact .goesOn (.refl h s)
  next d docked =>
  dsimp only
  rw [validProgram_takeRelease]
  split
  · exact .refuses idle (.refl h _)
  next p valid =>
  rw [startVerdict_takeRelease]
  split
  · exact .refuses idle (.refl h _)
  next gates =>
  obtain ⟨c, store⟩ := takeRelease_store h s
  dsimp only
  rw [startStep_eq]
  exact .starts number p rfl
    { fromIdle := idle
      others := fun k ne => by simp [Tab.get_upd_ne _ _ ne.symm]
      docked := ⟨d, docked⟩
      valid := valid
      gates := gates
      running := by simp [HeadRecord.stepStarted]
      program := by simp [HeadRecord.stepStarted]
      context := ⟨_, by simp [HeadRecord.stepStarted]; rfl⟩
      claimed := by simp [State.setClaim, store]
      docks := by simp
      cadence := by simp
      ring := by simp
      hands := .handAll (stepEvents_routine _ _ _) (.same (by simp)) }

theorem clearHead_cleared {h : Head} {s : State}
    (fromEnd : (s.heads.get h).state = .done ∨
      ((s.heads.get h).state = .safeHold ∧ (s.heads.get h).substate = .settled)) :
    Cleared h s (clearHead h s) where
  fromEnd := fromEnd
  others k ne := by simp [clearHead, Tab.get_upd_ne _ _ ne.symm]
  idle := by simp [clearHead]
  store := by simp [clearHead]
  docks := by simp [clearHead]
  cadence := by simp [clearHead]
  ring := by simp [clearHead]
  hands := .leaves (by simp [clearHead]) (clearZones_hands h s)

theorem applyHeadCommand_acts (h : Head) (cmd : HeadCommand) (s : State) :
    HeadActs h cmd s (applyHeadCommand h cmd s).1 := by
  have stays : HeadActs h cmd s s := .goesOn (.refl h s)
  cases cmd with
  | nop => exact stays
  | unknown => exact stays
  | start number =>
    simp only [applyHeadCommand]
    split
    · next idle => exact startHead_acts number idle
    all_goals exact stays
  | pause =>
    simp only [applyHeadCommand]
    split
    · next runs =>
      exact .goesOn (.setHead rfl (by simp [runs]) (by simp [runs]) (by simp [HeadRecord.isActive, runs]))
    all_goals exact stays
  | resume =>
    simp only [applyHeadCommand]
    split
    · next rests =>
      exact .goesOn (.setHead rfl (by simp [rests]) (by simp [rests]) (by simp [HeadRecord.isActive, rests]))
    all_goals exact stays
  | skip =>
    simp only [applyHeadCommand]
    split
    · exact .goesOn (.setHead_same rfl rfl)
    all_goals exact stays
  | abort =>
    simp only [applyHeadCommand]
    split
    · next is => exact .goesOn (enterSafeHold_conduct _ (.inl is))
    · next is => exact .goesOn (enterSafeHold_conduct _ (.inr (.inl is)))
    · next is => exact .goesOn (enterSafeHold_conduct _ (.inr (.inr is)))
    all_goals exact stays
  | clear =>
    simp only [applyHeadCommand]
    split
    · exact stays
    · exact stays
    · exact stays
    · next is => exact .clears rfl (clearHead_cleared (.inl is))
    · next is =>
      split
      · next settled => exact .clears rfl (clearHead_cleared (.inr ⟨is, settled⟩))
      · exact stays

/-! ### Every command to a head -/

/-- A command acts on its head, and the head then goes on. -/
def HeadRun (h : Head) (cmd : HeadCommand) (s t : State) : Prop :=
  ∃ u, HeadActs h cmd s u ∧ Conduct h u t

theorem HeadRun.trans {h : Head} {cmd : HeadCommand} {s t u : State} (run : HeadRun h cmd s t)
    (conduct : Conduct h t u) : HeadRun h cmd s u := by
  obtain ⟨v, acts, goes⟩ := run
  exact ⟨v, acts, goes.trans conduct⟩

theorem raiseHeadRefusal_conduct (h : Head) (code : Octet) (o : HeadOutcome) (s : State) :
    Conduct h s (raiseHeadRefusal h code o s) := by
  unfold raiseHeadRefusal
  split
  · exact .of_heads rfl (.raise _ _ _ _ (.refl s)) rfl rfl rfl rfl
  · exact .refl h s

theorem newHeadCommand_run (h : Head) (v : CommandValue) (s : State) :
    ∃ m, HeadRun h (headCommandOf v.code v.arg) (s.setMap m) (newHeadCommand h v s) :=
  ⟨_, _, applyHeadCommand_acts h _ _,
    (raiseHeadRefusal_conduct h _ _ _).next (.setHead_same rfl rfl)⟩

theorem kickPort_conduct (h : Head) (s : State) : Conduct h s s.kickPort :=
  .of_heads (by simp) (.same (by simp)) (by simp) (by simp) (by simp) (by simp)

theorem setMap_conduct (h : Head) (s : State) (m : CellMap) : Conduct h s (s.setMap m) :=
  .of_heads rfl (.same rfl) rfl rfl rfl rfl

theorem deliverCycle_run (h : Head) (d : Delivery) (s : State) :
    Conduct h s (deliverCycle h d s) ∨
      ∃ v m, d.command = some v ∧
        HeadRun h (headCommandOf v.code v.arg) (s.setMap m) (deliverCycle h d s) := by
  rw [deliverCycle_eq]
  generalize startedStep _ _ = started
  have goesOn := staged_conduct h d started (s.heads.get h).skip (stageCommand h d.command s)
  rcases is : d.command with _ | v
  · exact .inl (by simpa [is, stageCommand] using goesOn)
  rw [is] at goesOn
  unfold stageCommand at goesOn ⊢
  dsimp only at goesOn ⊢
  split at goesOn
  · next learned =>
    exact .inl (goesOn.next (.next (.setHead_same rfl rfl) (setMap_conduct h s _)))
  · next q learned =>
    split at goesOn
    · next seen =>
      rw [if_pos seen]
      exact .inl goesOn
    · next new =>
      rw [if_neg new]
      obtain ⟨m, run⟩ := newHeadCommand_run h v s
      exact .inr ⟨v, m, rfl, run.trans goesOn⟩

/-- The commands that carry a head command. -/
inductive Commands (h : Head) : Instr → HeadCommand → Prop where
  | start (p : Octet) (q : Word16) : Commands h (.start h p q) (.start p)
  | pause (q : Word16) : Commands h (.pause h q) .pause
  | resume (q : Word16) : Commands h (.resume h q) .resume
  | skip (q : Word16) : Commands h (.skip h q) .skip
  | abort (q : Word16) : Commands h (.abort h q) .abort
  | clear (q : Word16) : Commands h (.clear h q) .clear
  | nop (q : Word16) : Commands h (.nop h q) .nop
  | delivery (d : Delivery) (v : CommandValue) (carries : d.command = some v) :
      Commands h (.cycleDelivery h d) (headCommandOf v.code v.arg)

/-- The commands that act on every block, and may reset the heads. -/
def resets : Instr → Bool
  | .powerOnReset _ | .tick | .transparentPeriodEnd => true
  | _ => false

theorem applyZone_conduct (isErase : Bool) (c : ZoneCh) (e : ZoneConfig) (s : State) :
    Conduct (headOfZone c) s (applyZone isErase c e s) := by
  have heads : (applyZone isErase c e s).heads = s.heads ∨ ∃ st,
      (applyZone isErase c e s).heads =
        s.heads.upd (headOfZone c) { s.heads.get (headOfZone c) with substate := st } := by
    unfold applyZone
    dsimp only
    split
    · exact .inl rfl
    · split
      · exact .inr ⟨_, by simp [State.handWriteNotice, State.hand, State.setHanded]; rfl⟩
      · exact .inl (by simp [State.handWriteNotice, State.hand, State.setHanded])
  have hands := applyZone_hands isErase c e s
  obtain same | ⟨st, changed⟩ := heads
  · exact .of_heads same hands (by simp) (by simp) (by simp) (by simp)
  · refine ⟨fun k ne => by simp [changed, Tab.get_upd_ne _ _ ne.symm], by simp [changed],
      by simp [changed], by simp [changed], fun is => by simpa [changed, isActive_iff] using is, ?_, by simp,
      by simp, by simp, by simp⟩
    have none : stops (s.heads.get (headOfZone c))
        ((applyZone isErase c e s).heads.get (headOfZone c)) = 0 := by
      have same : ((applyZone isErase c e s).heads.get (headOfZone c)).isActive =
          (s.heads.get (headOfZone c)).isActive := by
        rw [changed, Tab.get_upd_same]
        rfl
      simp [stops, same]
    exact none ▸ hands.releases _

/-- Every command that acts on the heads is one head's: it goes on, or takes a command. -/
theorem after_head {c : Instr} (s : State) (acts : actsOnHeads c = true) (local_ : resets c = false) :
    ∃ h, Conduct h (s.takeUp c) (s.after c) ∨
      ∃ cmd m, Commands h c cmd ∧ HeadRun h cmd ((s.takeUp c).setMap m) (s.after c) := by
  have command {h : Head} {v : CommandValue} {cmd : HeadCommand}
      (is : headCommandOf v.code v.arg = cmd) (carries : Commands h c cmd)
      (result : Conduct h (newHeadCommand h v (s.takeUp c)) (s.after c)) :
      ∃ h, Conduct h (s.takeUp c) (s.after c) ∨
        ∃ cmd m, Commands h c cmd ∧ HeadRun h cmd ((s.takeUp c).setMap m) (s.after c) := by
    obtain ⟨m, run⟩ := newHeadCommand_run h v (s.takeUp c)
    exact ⟨h, .inr ⟨cmd, m, carries, is ▸ run.trans result⟩⟩
  cases c <;> cases acts <;> cases local_
  case cycleDelivery h d =>
    refine ⟨h, ?_⟩
    obtain goes | ⟨v, m, carries, run⟩ := deliverCycle_run h d (s.takeUp (.cycleDelivery h d))
    · exact .inl (goes.trans (kickPort_conduct h _))
    · exact .inr ⟨_, m, .delivery d v carries, run.trans (kickPort_conduct h _)⟩
  case start h p q => exact command (v := ⟨1, p, q⟩) rfl (.start p q) (.refl h _)
  case pause h q => exact command (v := ⟨2, 0, q⟩) rfl (.pause q) (.refl h _)
  case resume h q => exact command (v := ⟨3, 0, q⟩) rfl (.resume q) (.refl h _)
  case skip h q => exact command (v := ⟨4, 0, q⟩) rfl (.skip q) (.refl h _)
  case abort h q => exact command (v := ⟨5, 0, q⟩) rfl (.abort q) (.refl h _)
  case clear h q => exact command (v := ⟨6, 0, q⟩) rfl (.clear q) (kickPort_conduct h _)
  case nop h q => exact command (v := ⟨0, 0, q⟩) rfl (.nop q) (.refl h _)
  case overpressureNotice h => exact ⟨h, .inl (safeHoldCause_conduct h _ _)⟩
  case cadenceLostNotice h => exact ⟨h, .inl (safeHoldCause_conduct h _ _)⟩
  case estopNoticeHead h => exact ⟨h, .inl (safeHoldCause_conduct h _ _)⟩
  case tableFailedNotice h => exact ⟨h, .inl (safeHoldCause_conduct h _ _)⟩
  case flowFaultNotice h => exact ⟨h, .inl (safeHoldCause_conduct h _ _)⟩
  case zoneWriteApply c e =>
    exact ⟨headOfZone c, .inl ((applyZone_conduct _ _ _ _).trans (kickPort_conduct _ _))⟩
  case zoneEraseApply c =>
    exact ⟨headOfZone c, .inl ((applyZone_conduct _ _ _ _).trans (kickPort_conduct _ _))⟩

/-! ### The heads after the commands that act on every block -/

/-- A tick's blocks keep the state of every head. -/
theorem tickBlocks_head (s : State) (h : Head) :
    ∃ st, (tickBlocks s).heads.get h = { s.heads.get h with substate := st } := by
  have part := congrArg Prod.fst (tickBlocks_headPart h s)
  rw [State.headPart, safeTicked] at part
  split at part
  · exact ⟨_, part⟩
  · exact ⟨(s.heads.get h).substate, part⟩

theorem tickBlocks_isActive (s : State) (h : Head) :
    ((tickBlocks s).heads.get h).isActive = (s.heads.get h).isActive := by
  obtain ⟨st, is⟩ := tickBlocks_head s h
  rw [is]
  rfl

theorem endTransparent_heads (s : State) : (endTransparent s).heads = Tab.all 4 .afterReset :=
  endTransparent_blocks s (f := State.heads) (by simp) (by simp) (by simp)

theorem powerOn_heads (straps : BitVec 5) (s : State) :
    (powerOn straps s).heads = Tab.all 4 .afterReset :=
  powerOn_blocks straps s (f := State.heads) (by simp) (by simp) (by simp) (fun _ => rfl)
    (fun _ => rfl)

/-- A head after a command that acts on every block: as the tick's blocks leave it, or reset. -/
theorem after_resets_head {c : Instr} (s : State) (acts : resets c = true) (h : Head) :
    ((s.after c).heads.get h = HeadRecord.afterReset ∧
        ((∃ straps, c = .powerOnReset straps) ∨
          (s.ring.transparent = true ∧ (c = .transparentPeriodEnd ∨ c = .tick)))) ∨
      ((s.after c).store = s.store ∧
        ∃ st, (s.after c).heads.get h = { s.heads.get h with substate := st }) := by
  cases c <;> cases acts
  case powerOnReset straps =>
    exact .inl ⟨(congrArg (Tab.get · h) (powerOn_heads straps s)).trans (by simp), .inl ⟨_, rfl⟩⟩
  case transparentPeriodEnd =>
    rw [after_transparentPeriodEnd]
    split
    · next due =>
      exact .inl ⟨by simp [endTransparent_heads], .inr ⟨due.1, .inl rfl⟩⟩
    · exact .inr ⟨rfl, (s.heads.get h).substate, rfl⟩
  case tick =>
    have blocks := tickBlocks_head (s.takeUp .tick) h
    rw [after_tick, takeTick_eq]
    obtain ⟨-, e⟩ | ⟨-, e⟩ | ⟨mark, e⟩ := tickTransparent_cases (tickBlocks (s.takeUp .tick)) <;> rw [e]
    · exact .inr ⟨by simp, by simpa using blocks⟩
    · exact .inr ⟨by simp [State.countReset], by simpa [State.countReset] using blocks⟩
    · exact .inl ⟨by simp [endTransparent_heads], .inr ⟨by simpa using mark, .inr rfl⟩⟩

/-! ### Law 9 and the way out of IDLE -/

theorem HeadRun.other {h k : Head} {cmd : HeadCommand} {s t : State} (run : HeadRun h cmd s t)
    (ne : k ≠ h) : t.heads.get k = s.heads.get k := by
  obtain ⟨u, acts, goes⟩ := run
  rw [goes.others k ne]
  cases acts with
  | goesOn conduct => exact conduct.others k ne
  | refuses idle conduct => simpa using conduct.others k ne
  | starts number p is started => exact started.others k ne
  | clears is cleared => exact cleared.others k ne

/-- A head leaves SAFE_HOLD by a CLEAR alone, and from SETTLED to IDLE. -/
theorem HeadRun.leaves_safeHold {h : Head} {cmd : HeadCommand} {s t : State} (run : HeadRun h cmd s t)
    (hold : (s.heads.get h).state = .safeHold) (left : (t.heads.get h).state ≠ .safeHold) :
    (t.heads.get h).state = .idle ∧ (s.heads.get h).substate = .settled ∧ cmd = .clear := by
  obtain ⟨u, acts, goes⟩ := run
  cases acts with
  | goesOn conduct => exact absurd (goes.hold (conduct.hold hold)) left
  | refuses idle conduct => simp [hold] at idle
  | starts number p is started => exact absurd (hold.symm.trans started.fromIdle) (by simp)
  | clears is cleared =>
    obtain done | ⟨-, settled⟩ := cleared.fromEnd
    · simp [hold] at done
    · exact ⟨goes.idle.mpr cleared.idle, settled, is⟩

/-- A head leaves IDLE by a START alone. -/
theorem HeadRun.leaves_idle {h : Head} {cmd : HeadCommand} {s t : State} (run : HeadRun h cmd s t)
    (idle : (s.heads.get h).state = .idle) (left : (t.heads.get h).state ≠ .idle) :
    ∃ number p u, cmd = .start number ∧ Started h number p s u ∧ Conduct h u t := by
  obtain ⟨u, acts, goes⟩ := run
  cases acts with
  | goesOn conduct => exact absurd (goes.idle.mpr (conduct.idle.mpr idle)) left
  | refuses _ conduct => exact absurd (goes.idle.mpr (conduct.idle.mpr (by simpa using idle))) left
  | starts number p is started => exact ⟨number, p, u, is, started, goes⟩
  | clears is cleared => exact absurd (goes.idle.mpr cleared.idle) left

theorem headCommandOf_clear {code arg : Octet} (is : headCommandOf code arg = .clear) :
    code = 6 := by
  unfold headCommandOf at is
  split at is <;> simp at is
  next six => exact BitVec.eq_of_toNat_eq six

theorem headCommandOf_start {code arg number : Octet} (is : headCommandOf code arg = .start number) :
    code = 1 ∧ arg = number := by
  unfold headCommandOf at is
  split at is <;> simp at is
  next one => exact ⟨BitVec.eq_of_toNat_eq one, is⟩

theorem Commands.clear_cases {h : Head} {c : Instr} (carries : Commands h c .clear) :
    (∃ q, c = .clear h q) ∨ ∃ d v, c = .cycleDelivery h d ∧ d.command = some v ∧ v.code = 6 := by
  generalize is : HeadCommand.clear = cmd at carries
  cases carries with
  | clear q => exact .inl ⟨q, rfl⟩
  | delivery d v has => exact .inr ⟨d, v, rfl, has, headCommandOf_clear is.symm⟩
  | _ => cases is

theorem Commands.start_cases {h : Head} {c : Instr} {number : Octet}
    (carries : Commands h c (.start number)) :
    (∃ q, c = .start h number q) ∨
      ∃ d v, c = .cycleDelivery h d ∧ d.command = some v ∧ v.code = 1 ∧ v.arg = number := by
  generalize is : HeadCommand.start number = cmd at carries
  cases carries with
  | start p q => exact .inl ⟨q, by cases is; rfl⟩
  | delivery d v has => exact .inr ⟨d, v, rfl, has, headCommandOf_start is.symm⟩
  | _ => cases is

/-- Settles O25: of the commands that act on a head, CLEAR and the resets alone leave SAFE_HOLD. -/
theorem safeHoldLeftOnlyByClear : Obligations.SafeHoldLeftOnlyByClear := by
  intro c k s t e hold left
  obtain rfl := after_of_exec e
  cases acts : actsOnHeads c with
  | false => exact absurd (by rwa [after_heads s acts]) left
  | true =>
    cases all : resets c with
    | true =>
      obtain ⟨is, by_reset⟩ | ⟨-, st, is⟩ := after_resets_head s all k
      · exact ⟨by rw [is]; rfl, .inr by_reset⟩
      · exact absurd (by rw [is]; exact hold) left
    | false =>
      obtain ⟨h, goes⟩ := after_head s acts all
      by_cases same : k = h
      case neg =>
        have unchanged : (s.after c).heads.get k = s.heads.get k := by
          obtain conduct | ⟨cmd, m, -, run⟩ := goes
          · simpa using conduct.others k same
          · simpa using run.other same
        exact absurd (by rwa [unchanged]) left
      subst same
      obtain conduct | ⟨cmd, m, carries, run⟩ := goes
      · exact absurd (conduct.hold (by simpa using hold)) left
      · obtain ⟨idle, settled, rfl⟩ := run.leaves_safeHold (by simpa using hold) left
        exact ⟨idle, .inl ⟨by simpa using settled, carries.clear_cases⟩⟩

theorem platenOf_docked {s : State} {h : Head} {d : Platen} (is : s.platenOf h = some d) :
    (s.docks.get d).docked = some h := by
  simpa using List.find?_some is

theorem validProgram_facts {s : State} {number : Octet} {p : Fin 16}
    (valid : s.validProgram number = some p) :
    number.toNat = p.val ∧ (s.store.dir.get p).valid = true ∧
      ∀ j < (s.store.dir.get p).count,
        ∃ i : Fin 96, i.val = (s.store.dir.get p).first + j ∧
          (s.store.steps.get i).valid = true := by
  unfold State.validProgram at valid
  split at valid
  case isFalse => cases valid
  dsimp only at valid
  split at valid
  case isFalse => cases valid
  next good =>
  obtain rfl := Option.some.inj valid
  obtain ⟨entry, range⟩ := Bool.and_eq_true_iff.mp good
  refine ⟨rfl, entry, fun j lt => ?_⟩
  have here := List.all_eq_true.mp range j (by simpa using lt)
  split at here
  · next inside => exact ⟨⟨_, inside⟩, rfl, here⟩
  · cases here

/-- The gates of a START, as its verdict judges them. -/
theorem startVerdict_eq_none {h : Head} {s : State} (open_ : startVerdict h s = none) :
    (s.verifier.vbr = true →
        s.verifier.cellmap.state = .verified ∧ s.verifier.program.state = .verified ∧
          s.verifier.zone.state = .verified ∧ ∀ c, headOfZone c = h → .zone c ∉ s.written) ∧
      s.cadence.state = .locked ∧ s.functionActive .estop = false ∧
      s.functionActive .airLow = false := by
  unfold startVerdict at open_
  split at open_
  · cases open_
  split at open_
  · cases open_
  split at open_
  · cases open_
  split at open_
  · cases open_
  next groups locked estop air =>
  simp only [Bool.not_eq_true', Bool.not_eq_false, Bool.and_eq_true, State.gateOpen_iff,
    State.zoneGateOpen_iff] at groups
  obtain ⟨⟨map, program⟩, zone⟩ := groups
  exact ⟨fun on => ⟨map on, program on, zone on⟩, not_not.mp locked, by simpa using estop,
    by simpa using air⟩

/-- Settles O26: of the commands that act on a head, an accepted START alone leaves IDLE. -/
theorem idleLeftOnlyByStart : Obligations.IdleLeftOnlyByStart := by
  intro c k s t e idle left
  obtain rfl := after_of_exec e
  cases acts : actsOnHeads c with
  | false => exact absurd (by rwa [after_heads s acts]) left
  | true =>
    cases all : resets c with
    | true =>
      obtain ⟨is, -⟩ | ⟨-, st, is⟩ := after_resets_head s all k
      · exact absurd (by rw [is]; rfl) left
      · exact absurd (by rw [is]; exact idle) left
    | false =>
      obtain ⟨h, goes⟩ := after_head s acts all
      by_cases same : k = h
      case neg =>
        have unchanged : (s.after c).heads.get k = s.heads.get k := by
          obtain conduct | ⟨cmd, m, -, run⟩ := goes
          · simpa using conduct.others k same
          · simpa using run.other same
        exact absurd (by rwa [unchanged]) left
      subst same
      obtain conduct | ⟨cmd, m, carries, run⟩ := goes
      · exact absurd (conduct.idle.mpr (by simpa using idle)) left
      · obtain ⟨number, p, u, rfl, started, -⟩ := run.leaves_idle (by simpa using idle) left
        obtain ⟨d, docked⟩ := started.docked
        obtain ⟨groups, locked, estop, air⟩ := startVerdict_eq_none started.gates
        have notice (g : Group) : c ≠ .writeNotice g := by
          rintro rfl
          cases acts
        refine ⟨number, p, carries.start_cases, ⟨d, by simpa using platenOf_docked docked⟩, ?_, ?_,
          by simpa using locked, by simpa [State.functionActive] using estop,
          by simpa [State.functionActive] using air⟩
        · simpa using validProgram_facts started.valid
        · have waits : ((s.takeUp c).setMap m).written = s.written :=
            State.written_takeUp_of_ne notice
          rw [waits] at groups
          simpa using groups

end Sys2Proof.Machine
end

section
/-! PROOFS. The Dock Table (chapter 5): what a dock command does to the entries, and Law 5. -/

namespace Sys2Proof.Machine

open Sys2Proof

/-! ### The entries -/

/-- An entry that no longer holds head `h`. -/
def DockEntry.without (h : Head) (d : DockEntry) : DockEntry :=
  if d.docked = some h then { d with docked := none } else d

theorem undock_docks (h : Head) (s : State) (p : Platen) :
    (undock h s).docks.get p = (s.docks.get p).without h := by
  refine foldl_acts_once (fun s => s.docks.get p) (DockEntry.without h) (undockAt h) p ?_ ?_
    (List.nodup_finRange 3) (List.mem_finRange p) s
  · intro s
    unfold undockAt DockEntry.without
    split <;> simp
  · intro s q ne
    unfold undockAt
    split
    · simp [Tab.get_upd_ne _ _ ne]
    · rfl

theorem without_docked {h k : Head} {d : DockEntry} :
    (d.without h).docked = some k ↔ d.docked = some k ∧ k ≠ h := by
  unfold DockEntry.without
  split
  · next is => simp [is, eq_comm]
  · next isnt =>
    refine ⟨fun is => ⟨is, ?_⟩, fun is => is.1⟩
    rintro rfl
    exact isnt is

theorem dockHead_heads (p : Platen) (h : Head) (s : State) : (dockHead p h s).1.heads = s.heads := by
  simp

/-- Where a command that names a head moves it, the head was running no program; it leaves every
other entry and comes to this one, which held none. -/
theorem dockHead_cases (p : Platen) (h : Head) (s : State) :
    (dockHead p h s).1 = s ∨
      ((s.heads.get h).isActive = false ∧ (s.docks.get p).docked = none ∧
        ∀ q, ((dockHead p h s).1.docks.get q).docked =
          if p = q then some h else ((s.docks.get q).without h).docked) := by
  unfold dockHead
  split
  · exact .inl rfl
  split
  · exact .inl rfl
  split
  · exact .inl rfl
  next free idle =>
  refine .inr ⟨by simpa using idle, not_not.mp free, fun q => ?_⟩
  by_cases is : p = q
  · subst is
    simp
  · simp [Tab.get_upd_ne _ _ is, undock_docks, is]

/-- Where a command with NONE empties the entry, its head was running no program. -/
theorem dockNone_cases (p : Platen) (s : State) :
    (dockNone p s).1 = s ∨
      ∃ h, (s.docks.get p).docked = some h ∧ (s.heads.get h).isActive = false ∧
        ∀ q, ((dockNone p s).1.docks.get q).docked =
          if p = q then none else (s.docks.get q).docked := by
  unfold dockNone
  split
  · exact .inl rfl
  next h holds =>
  split
  · exact .inl rfl
  next idle =>
  refine .inr ⟨h, holds, by simpa using idle, fun q => ?_⟩
  by_cases is : p = q
  · subst is
    simp
  · simp [Tab.get_upd_ne _ _ is, is]

/-! ### Law 5 -/

theorem dockLaw_congr {s t : State} (heads : t.heads = s.heads)
    (docked : ∀ p, (t.docks.get p).docked = (s.docks.get p).docked) (law : dockLaw s) :
    dockLaw t := by
  simpa only [dockLaw, heads, docked] using law

theorem dockHead_dockLaw (p : Platen) (h : Head) {s : State} (law : dockLaw s) :
    dockLaw (dockHead p h s).1 := by
  obtain same | ⟨idle, free, entries⟩ := dockHead_cases p h s
  · rwa [same]
  obtain ⟨runs, single⟩ := law
  refine ⟨fun k active => ?_, fun q q' k here there => ?_⟩
  · rw [dockHead_heads] at active
    obtain ⟨q, docked⟩ := runs k active
    have apart : p ≠ q := by
      rintro rfl
      simp [free] at docked
    refine ⟨q, ?_⟩
    rw [entries, if_neg apart, without_docked]
    refine ⟨docked, ?_⟩
    rintro rfl
    simp [idle] at active
  · rw [entries] at here there
    split at here <;> split at there
    · next is is' => exact is.symm.trans is'
    · rw [without_docked] at there
      exact absurd (by simpa using here.symm) there.2
    · rw [without_docked] at here
      exact absurd (by simpa using there.symm) here.2
    · exact single q q' k (without_docked.mp here).1 (without_docked.mp there).1

theorem dockNone_dockLaw (p : Platen) {s : State} (law : dockLaw s) :
    dockLaw (dockNone p s).1 := by
  have heads : (dockNone p s).1.heads = s.heads := by simp
  obtain same | ⟨h, holds, idle, entries⟩ := dockNone_cases p s
  · rwa [same]
  obtain ⟨runs, single⟩ := law
  refine ⟨fun k active => ?_, fun q q' k here there => ?_⟩
  · rw [heads] at active
    obtain ⟨q, docked⟩ := runs k active
    have apart : p ≠ q := by
      rintro rfl
      obtain rfl : h = k := by simpa [holds] using docked
      simp [idle] at active
    exact ⟨q, by rw [entries, if_neg apart, docked]⟩
  · rw [entries] at here there
    split at here
    · cases here
    · split at there
      · cases there
      · exact single q q' k here there

theorem applyDock_dockLaw (p : Platen) (x : Octet) {s : State} (law : dockLaw s) :
    dockLaw (applyDock p x s).1 := by
  unfold applyDock
  split
  · exact dockNone_dockLaw p law
  split
  · exact dockHead_dockLaw p _ law
  · exact law

theorem newDock_dockLaw (p : Platen) (x : Octet) (seq : Word16) {s : State} (law : dockLaw s) :
    dockLaw (newDock p x seq s) := by
  have answered (u : State) (o : DockOutcome) (law : dockLaw u) :
      dockLaw (u.setDock p { u.docks.get p with lastSeq := seq, lastOutcome := o }) := by
    refine dockLaw_congr (s := u) rfl (fun q => ?_) law
    by_cases is : p = q
    · subst is
      simp
    · simp [Tab.get_upd_ne _ _ is]
  have applied (m : CellMap) : dockLaw (applyDock p x (s.setMap m)).1 := applyDock_dockLaw p x law
  unfold newDock
  dsimp only
  split
  · exact dockLaw_congr rfl (fun _ => rfl) (answered _ _ (applied _))
  · exact answered _ _ (applied _)

theorem deliverDock_dockLaw (p : Platen) (v : DockValue) {s : State} (law : dockLaw s) :
    dockLaw (deliverDock p v s) := by
  unfold deliverDock
  split
  · refine dockLaw_congr (s := s) rfl (fun q => ?_) law
    by_cases is : p = q
    · subst is
      simp
    · simp [Tab.get_upd_ne _ _ is]
  split
  · exact law
  · exact newDock_dockLaw p _ _ law

/-- A head that goes on runs its program only if it did. -/
theorem Conduct.dockLaw {h : Head} {s t : State} (conduct : Conduct h s t) (law : dockLaw s) :
    dockLaw t := by
  obtain ⟨runs, single⟩ := law
  refine ⟨fun k active => ?_, by rwa [conduct.docks]⟩
  rw [conduct.docks]
  refine runs k ?_
  by_cases is : k = h
  · subst is
    exact conduct.active active
  · rwa [← conduct.others k is]

theorem HeadRun.dockLaw {h : Head} {cmd : HeadCommand} {s t : State} (run : HeadRun h cmd s t)
    (law : dockLaw s) : dockLaw t := by
  obtain ⟨u, acts, goes⟩ := run
  refine goes.dockLaw ?_
  cases acts with
  | goesOn conduct => exact conduct.dockLaw law
  | refuses idle conduct => exact conduct.dockLaw (dockLaw_congr (by simp) (by simp) law)
  | starts number p is started =>
    obtain ⟨runs, single⟩ := law
    refine ⟨fun k active => ?_, by rwa [started.docks]⟩
    rw [started.docks]
    by_cases same : k = h
    · subst same
      obtain ⟨d, docked⟩ := started.docked
      exact ⟨d, platenOf_docked docked⟩
    · exact runs k (by rwa [← started.others k same])
  | clears is cleared =>
    obtain ⟨runs, single⟩ := law
    refine ⟨fun k active => ?_, by rwa [cleared.docks]⟩
    rw [cleared.docks]
    by_cases same : k = h
    · subst same
      simp [isActive_iff, cleared.idle] at active
    · exact runs k (by rwa [← cleared.others k same])

/-- A reset leaves no head running, and keeps the entries or empties them. -/
theorem resetBlocks_dockLaw (k : ResetKind) {s : State} (law : dockLaw s) :
    dockLaw (resetBlocks k s) := by
  have kept (p : Platen) (h : Head) :
      ((resetBlocks k s).docks.get p).docked = some h → (s.docks.get p).docked = some h := by
    simp only [resetBlocks_docks, Tab.get_mapT, DockEntry.afterResetOf, keepOr]
    split <;> simp
  refine ⟨fun h active => ?_, fun p q h here there => law.2 p q h (kept p h here) (kept q h there)⟩
  simp [HeadRecord.afterReset, isActive_iff] at active

theorem endTransparent_dockLaw {s : State} (law : dockLaw s) : dockLaw (endTransparent s) := by
  refine dockLaw_congr ?_ ?_ (resetBlocks_dockLaw (.management s.ring.scope) law)
  · exact endTransparent_blocks s (f := State.heads) (by simp) (by simp) (by simp)
  · intro p
    rw [endTransparent_blocks s (f := State.docks) (by simp) (by simp) (by simp)]

theorem powerOn_dockLaw (straps : BitVec 5) {s : State} (law : dockLaw s) :
    dockLaw (powerOn straps s) := by
  refine dockLaw_congr ?_ ?_ (resetBlocks_dockLaw .powerOn law)
  · exact powerOn_blocks straps s (f := State.heads) (by simp) (by simp) (by simp) (fun _ => rfl)
      (fun _ => rfl)
  · intro p
    rw [powerOn_blocks straps s (f := State.docks) (by simp) (by simp) (by simp) (fun _ => rfl)
      (fun _ => rfl)]

theorem after_resets_dockLaw {c : Instr} (s : State) (all : resets c = true) (law : dockLaw s) :
    dockLaw (s.after c) := by
  have taken : dockLaw (s.takeUp c) := dockLaw_congr rfl (fun _ => rfl) law
  cases c <;> cases all
  case powerOnReset straps =>
    rw [after_powerOnReset]
    exact powerOn_dockLaw straps law
  case transparentPeriodEnd =>
    rw [after_transparentPeriodEnd]
    split
    · exact endTransparent_dockLaw taken
    · exact taken
  case tick =>
    refine tick_induction s ?_ (fun _ law => law) (fun u => endTransparent_dockLaw)
      (fun u => dockLaw_congr (s := u) (by simp) (by simp))
    simpa only [dockLaw, tickBlocks_isActive, tickBlocks_frame] using taken

theorem after_docks_dockLaw {c : Instr} (s : State) (acts : actsOnDocks c = true)
    (local_ : resets c = false) (law : dockLaw s) : dockLaw (s.after c) := by
  have taken : dockLaw (s.takeUp c) := dockLaw_congr rfl (fun _ => rfl) law
  cases c <;> cases acts <;> cases local_
  case dockDelivery p v => exact deliverDock_dockLaw p v taken
  case dockCommandHead p x q => exact newDock_dockLaw p x q taken
  case dockCommandNone p q => exact newDock_dockLaw p _ q taken

theorem after_dockLaw (c : Instr) (s : State) (law : dockLaw s) : dockLaw (s.after c) := by
  have taken : dockLaw (s.takeUp c) := dockLaw_congr rfl (fun _ => rfl) law
  cases all : resets c with
  | true => exact after_resets_dockLaw s all law
  | false =>
    cases acts : actsOnHeads c with
    | true =>
      obtain ⟨h, conduct | ⟨cmd, m, -, run⟩⟩ := after_head s acts all
      · exact conduct.dockLaw taken
      · exact run.dockLaw taken
    | false =>
      cases docks : actsOnDocks c with
      | true => exact after_docks_dockLaw s docks all law
      | false =>
        exact dockLaw_congr (after_heads s acts) (fun p => by rw [after_docks s docks]) law

/-- Settles O57: each command keeps Law 5, by what it does to the heads and the entries. -/
theorem dockLawKept : Obligations.DockLawKept := by
  intro s t law e
  exact step_keeps (fun s q law => law) after_dockLaw law e

end Sys2Proof.Machine
end

section
/-! PROOFS. What requests stage and what every command hands: a staged request carries a record and a
setting within their checks, no fifth is staged, and every command but a head's and a reset's hands
routine events and what was staged. -/

namespace Sys2Proof.Machine

open Sys2Proof

/-! ### Records decoded from octets fit their fields -/

theorem decodeDirEntry_fits {l : List Octet} {e : DirEntry} (is : decodeDirEntry l = some e) :
    e.fits = true := by
  obtain rfl := Option.some.inj is
  simp [DirEntry.fits, octAt_le]

theorem decodeStep_fits {l : List Octet} {r : StepRecord} (is : decodeStep l = some r) :
    r.fits = true := by
  simp only [decodeStep, Option.bind_eq_bind, Option.bind_eq_some_iff, Option.pure_def,
    Option.some.injEq] at is
  obtain ⟨_, -, _, -, _, -, rfl⟩ := is
  have targets : ∀ t ∈ (Tab.ofFn fun z : Zone => octAt16 l (2 * z.val)).entries, t ≤ 65535 := by
    simp [Tab.ofFn, Tab.entries, octAt16_le]
  simpa [StepRecord.fits, octAt_le, octAt16_le] using targets

theorem decodeZone_fits {l : List Octet} {e : ZoneConfig} (is : decodeZone l = some e) :
    e.fits = true := by
  simp only [decodeZone, Option.bind_eq_bind, Option.bind_eq_some_iff, Option.pure_def,
    Option.some.injEq] at is
  obtain ⟨_, -, _, -, rfl⟩ := is
  simp [ZoneConfig.fits, octAt_le, octAt16_le]

theorem decodeLine_fits {l : List Octet} {e : LineConfig} (is : decodeLine l = some e) :
    e.fits = true := by
  simp only [decodeLine, Option.bind_eq_bind, Option.bind_eq_some_iff, Option.pure_def,
    Option.some.injEq] at is
  obtain ⟨_, -, _, -, rfl⟩ := is
  simp [LineConfig.fits, octAt_le, octAt16_le]

theorem decodeProfile_fits {l : List Octet} {e : ProfileEntry} (is : decodeProfile l = some e) :
    e.fits = true := by
  obtain rfl := Option.some.inj is
  simp [ProfileEntry.fits, octAt_le, octAt16_le]

theorem decodeSegment_fits {l : List Octet} {r : SegmentRecord} (is : decodeSegment l = some r) :
    r.fits = true := by
  obtain rfl := Option.some.inj is
  simp [SegmentRecord.fits, octAt16_le]

theorem decodeInput_fits {l : List Octet} {e : InputConfig} (is : decodeInput l = some e) :
    e.fits = true := by
  simp only [decodeInput, Option.bind_eq_bind, Option.bind_eq_some_iff, Option.pure_def,
    Option.some.injEq] at is
  obtain ⟨_, -, _, -, _, -, rfl⟩ := is
  simp [InputConfig.fits, octAt_le]

/-! ### What requests stage -/

/-- A judgement stages, if anything, a routine event. -/
def Judged.stagesRoutine (j : Judged) : Prop := ∀ i, j.staged = some i → routine i = true

theorem refuse_stages (st : Status) : (refuse st).stagesRoutine := by
  simp [Judged.stagesRoutine, refuse]

theorem answer_stages (data : List Octet) : (answer data).stagesRoutine := by
  simp [Judged.stagesRoutine, answer]

theorem accept_stages {i : Instr} (plain : routine i = true) : (accept i).stagesRoutine := by
  simpa [Judged.stagesRoutine, accept] using plain

theorem judgeRecord_stages {α : Type} {r : Option α} {inRange : α → Bool} {inUse : Bool}
    {stage : α → Instr}
    (plain : ∀ x, r = some x → inRange x = true → routine (stage x) = true) :
    (judgeRecord r inRange inUse stage).stagesRoutine := by
  unfold judgeRecord
  split
  · exact refuse_stages _
  next x =>
  split
  · exact refuse_stages _
  next good =>
  split
  · exact refuse_stages _
  · exact accept_stages (plain x rfl (by simpa using good))

theorem judgeWrite_stages (t : TableId) (p : List Octet) (s : State) :
    (judgeWrite t p s).stagesRoutine := by
  unfold judgeWrite
  dsimp only
  cases t with
  | cellmap =>
    dsimp only
    split
    case isFalse => exact refuse_stages _
    unfold judgeMapWrite
    split
    · exact refuse_stages _
    next e _ =>
    split
    · exact refuse_stages _
    next good =>
    split
    · exact refuse_stages _
    · exact accept_stages (by simpa [routine, goodRecord, goodSetting] using good)
  | programDir =>
    dsimp only
    split
    case isFalse => exact refuse_stages _
    exact judgeRecord_stages fun x is good => by
      simp [routine, goodRecord, goodSetting, decodeDirEntry_fits is, good]
  | step =>
    dsimp only
    split
    case isFalse => exact refuse_stages _
    exact judgeRecord_stages fun x is good => by
      simp [routine, goodRecord, goodSetting, decodeStep_fits is, good]
  | zone =>
    dsimp only
    split
    case isFalse => exact refuse_stages _
    exact judgeRecord_stages fun x is good => by
      simp [routine, goodRecord, goodSetting, decodeZone_fits is, good]
  | line =>
    dsimp only
    split
    case isFalse => exact refuse_stages _
    exact judgeRecord_stages fun x is good => by
      simp [routine, goodRecord, goodSetting, decodeLine_fits is, good]
  | profile =>
    dsimp only
    split
    case isFalse => exact refuse_stages _
    exact judgeRecord_stages fun x is good => by
      simp [routine, goodRecord, goodSetting, decodeProfile_fits is, good]
  | segment =>
    dsimp only
    split
    case isFalse => exact refuse_stages _
    exact judgeRecord_stages fun x is good => by
      simp [routine, goodRecord, goodSetting, decodeSegment_fits is, good]
  | input =>
    dsimp only
    split
    case isFalse => exact refuse_stages _
    exact judgeRecord_stages fun x is good => by
      simp [routine, goodRecord, goodSetting, decodeInput_fits is, good]

theorem judgeErase_stages (t : TableId) (p : List Octet) (s : State) :
    (judgeErase t p s).stagesRoutine := by
  have use {inUse : Bool} {i : Instr} (plain : routine i = true) :
      (judgeUse inUse i).stagesRoutine := by
    unfold judgeUse
    split
    · exact refuse_stages _
    · exact accept_stages plain
  unfold judgeErase
  cases t <;> dsimp only <;> split
  case cellmap.isTrue => exact accept_stages rfl
  case programDir.isTrue | step.isTrue | zone.isTrue | line.isTrue | profile.isTrue |
      segment.isTrue | input.isTrue => exact use rfl
  all_goals exact refuse_stages _

theorem judgePlatenSetting_stages {p : List Octet} {lo hi : Nat} {stage : Platen → Nat → Instr}
    (plain : ∀ q v, lo ≤ v ∧ v ≤ hi → routine (stage q v) = true) :
    (judgePlatenSetting p lo hi stage).stagesRoutine := by
  unfold judgePlatenSetting
  (repeat' split)
  · next good => exact accept_stages (plain _ _ good)
  · exact refuse_stages _
  · exact refuse_stages _

theorem judgeSet_stages (p : List Octet) : (judgeSet p).stagesRoutine := by
  have express {stage : Option EventKind → Instr} (plain : ∀ k, routine (stage k) = true) :
      (judgeExpress p stage).stagesRoutine := by
    unfold judgeExpress
    (repeat' split)
    · exact accept_stages (plain _)
    · exact accept_stages (plain _)
    · exact refuse_stages _
  have kind : (judgeEventKind p).stagesRoutine := by
    unfold judgeEventKind
    (repeat' split)
    · exact refuse_stages _
    · exact refuse_stages _
    · exact accept_stages rfl
    · exact refuse_stages _
  have line : (judgeIdleLine p).stagesRoutine := by
    unfold judgeIdleLine
    (repeat' split)
    · exact accept_stages rfl
    · exact refuse_stages _
    · exact refuse_stages _
  have cadence : (judgeCadence p).stagesRoutine := by
    unfold judgeCadence
    dsimp only
    split
    · next good => exact accept_stages (by simpa [routine, goodRecord, goodSetting] using good)
    · exact refuse_stages _
  unfold judgeSet
  split
  · exact cadence
  · split
    · exact accept_stages rfl
    · exact refuse_stages _
  · exact express fun _ => rfl
  · exact express fun _ => rfl
  · exact kind
  · exact judgePlatenSetting_stages fun q v good => by
      simpa [routine, goodRecord, goodSetting] using good
  · exact line
  all_goals first
    | exact refuse_stages _
    | exact judgePlatenSetting_stages fun q v good => by
        simpa [routine, goodRecord, goodSetting] using good

theorem judgeDispense_stages (p : List Octet) (s : State) : (judgeDispense p s).stagesRoutine := by
  unfold judgeDispense
  dsimp only
  (repeat' split)
  · exact refuse_stages _
  · exact refuse_stages _
  · exact accept_stages rfl
  all_goals exact refuse_stages _

theorem judgeOwn_stages (r : Request) (t : TableId) (p : List Octet) (s : State) :
    (judgeOwn r t p s).stagesRoutine := by
  unfold judgeOwn
  cases r with
  | read =>
    simp only [judgeRead]
    split
    · exact answer_stages _
    · exact refuse_stages _
  | write => exact judgeWrite_stages t p s
  | erase => exact judgeErase_stages t p s
  | verify =>
    simp only [judgeVerify]
    split
    · exact accept_stages rfl
    · exact refuse_stages _
  | set => exact judgeSet_stages p
  | status => exact answer_stages _
  | dispense => exact judgeDispense_stages p s
  | stopLine =>
    simp only [judgeStopLine]
    (repeat' split)
    · exact accept_stages rfl
    · exact refuse_stages _
    · exact refuse_stages _
  | clearInput =>
    simp only [judgeClearInput]
    (repeat' split)
    · exact refuse_stages _
    · exact accept_stages rfl
    · exact refuse_stages _
  | reset =>
    simp only [judgeReset]
    (repeat' split)
    · exact refuse_stages _
    · exact refuse_stages _
    · exact accept_stages rfl

theorem judgeRequest_stages (p : List Octet) (s : State) : (judgeRequest p s).stagesRoutine := by
  unfold judgeRequest
  (repeat' split)
  · exact refuse_stages _
  · exact refuse_stages _
  · exact refuse_stages _
  · exact judgeOwn_stages _ _ _ _

/-- What a request stages is routine, and stages only into a free slot. -/
theorem judgeStaging_staged {p : List Octet} {s : State} {i : Instr}
    (is : (judgeStaging (judgeRequest p s) s).staged = some i) :
    routine i = true ∧ s.ring.mgmtSlots.length < 4 := by
  unfold judgeStaging at is
  split at is
  · next none => simp [none] at is
  split at is
  · cases is
  next room => exact ⟨judgeRequest_stages p s i is, Nat.lt_of_not_le room⟩

/-! ### The traffic path -/

/-- From `s` to `t` routine events and what was staged have been handed, and what is staged is
routine or was staged before. -/
structure Passes (s t : State) : Prop where
  handed : ∃ l, t.handed = s.handed ++ l ∧ ∀ i ∈ l, routine i = true ∨ i ∈ s.ring.mgmtSlots
  staged : ∀ i ∈ t.ring.mgmtSlots, routine i = true ∨ i ∈ s.ring.mgmtSlots
  short : slotsLaw s → slotsLaw t

theorem Hands.passes {s t : State} (hands : Hands s t)
    (ring : t.ring.mgmtSlots = s.ring.mgmtSlots) : Passes s t := by
  obtain ⟨l, is, good⟩ := hands
  exact ⟨⟨l, is, fun i mem => .inl (good i mem)⟩, fun i mem => .inr (ring ▸ mem),
    fun law => by rwa [slotsLaw, ring]⟩

theorem Passes.hands {s t u : State} (passes : Passes s t) (hands : Hands t u)
    (ring : u.ring.mgmtSlots = t.ring.mgmtSlots) : Passes s u := by
  obtain ⟨⟨l, is, good⟩, staged, short⟩ := passes
  obtain ⟨l', is', good'⟩ := hands
  refine ⟨⟨l ++ l', by simp [is, is'], fun i mem => ?_⟩, by rwa [ring],
    fun law => by simpa [slotsLaw, ring] using short law⟩
  obtain mem | mem := List.mem_append.mp mem
  · exact good i mem
  · exact .inl (good' i mem)

/-- A change of the ring that empties the management slots. -/
theorem Passes.emptied {s t u : State} (passes : Passes s t) (handed : u.handed = t.handed)
    (ring : u.ring.mgmtSlots = []) : Passes s u := by
  obtain ⟨⟨l, is, good⟩, -, -⟩ := passes
  exact ⟨⟨l, handed.trans is, good⟩, by simp [ring], fun _ => by simp [slotsLaw, ring]⟩

theorem dockDeliveries_routine (slots : Tab 128 (Option Taken)) :
    ∀ i ∈ dockDeliveries slots, routine i = true := by
  simp only [dockDeliveries, List.mem_filterMap, Option.map_eq_some_iff]
  rintro i ⟨p, -, l, -, rfl⟩
  rfl

theorem condDeliveries_routine (slots : Tab 128 (Option Taken)) :
    ∀ i ∈ condDeliveries slots, routine i = true := by
  simp only [condDeliveries, List.mem_filterMap, Option.map_eq_some_iff]
  rintro i ⟨p, -, l, -, rfl⟩
  rfl

/-- What a good end hands besides the staged requests and the release of the frame's records. -/
def Ring.deliveries (r : Ring) (us : BitVec 32) : List Instr :=
  match r.frame.kind with
  | .cycle =>
    ((List.finRange 4).map fun h => Instr.cycleDelivery h (deliveryFor r.takeSlots h)) ++
      dockDeliveries r.takeSlots ++ condDeliveries r.takeSlots ++
      [.cycleFrameNotice us, .requiredEntryJudgement (filledSlots r.takeSlots)]
  | .async => []

theorem handOvers_eq (r : Ring) (us : BitVec 32) :
    handOvers r us = r.deliveries us ++ r.mgmtSlots ++ [.eventRelease r.frame.ordinal] := by
  unfold handOvers Ring.deliveries
  cases r.frame.kind <;> rfl

theorem deliveries_routine (r : Ring) (us : BitVec 32) : ∀ i ∈ r.deliveries us, routine i = true := by
  unfold Ring.deliveries
  split
  · simp only [List.mem_append, or_imp, forall_and]
    refine ⟨⟨⟨?_, dockDeliveries_routine _⟩, condDeliveries_routine _⟩, ?_⟩
    · simp [routine, goodRecord, goodSetting]
    · simp [routine, goodRecord, goodSetting]
  · simp

theorem handOvers_routine (r : Ring) (us : BitVec 32) :
    ∀ i ∈ handOvers r us, routine i = true ∨ i ∈ r.mgmtSlots := by
  intro i mem
  simp only [handOvers_eq, List.mem_append, List.mem_singleton] at mem
  obtain (mem | mem) | rfl := mem
  · exact .inl (deliveries_routine r us i mem)
  · exact .inr mem
  · exact .inl rfl

theorem passes_arrival (s : State) : KeptByArrival (Passes s) where
  emit t xs law := law.hands (.same rfl) rfl
  ring t r is law := by
    obtain is | is := is
    · exact law.hands (.same rfl) is
    · exact law.emptied rfl is
  raise t k src d1 d2 law := law.hands (.raise _ _ _ _ (.refl t)) rfl
  giveBack t frame law := law.hands (.hand rfl (.refl t)) rfl
  fill t frame r q filled law := law.hands (.same rfl) rfl
  stage t p law := by
    obtain ⟨handed, staged, short⟩ := law
    cases is : (judgeStaging (judgeRequest p t) t).staged with
    | none => exact ⟨handed, staged, short⟩
    | some i =>
      obtain ⟨plain, room⟩ := judgeStaging_staged is
      refine ⟨handed, fun j mem => ?_, fun _ => by simpa [slotsLaw, State.stage] using room⟩
      obtain mem | rfl : j ∈ t.ring.mgmtSlots ∨ j = i := by simpa [State.stage] using mem
      · exact staged j mem
      · exact .inl plain
  good t law := by
    obtain ⟨⟨l, is, good⟩, staged, -⟩ := law
    refine ⟨⟨l ++ handOvers t.ring t.us, by simp [goodEnd, is, State.await, State.emit], fun i mem => ?_⟩,
      by simp [goodEnd, State.await, Ring.emptied], fun _ => by
        simp [slotsLaw, goodEnd, State.await, Ring.emptied]⟩
    obtain mem | mem := List.mem_append.mp mem
    · exact good i mem
    · obtain plain | held := handOvers_routine _ _ i mem
      · exact .inl plain
      · exact staged i held

/-! ### Every command -/

/-- A command that acts neither on the heads nor on the ring hands routine events alone. -/
theorem after_hands {c : Instr} (s : State) (heads : actsOnHeads c = false)
    (ring : actsOnRing c = false) : Hands (s.takeUp c) (s.after c) := by
  have kick {u : State} (hands : Hands (s.takeUp c) u) : Hands (s.takeUp c) u.kickPort :=
    hands.leaves (by simp)
  have ifSo {p : Prop} [Decidable p] {u : State} (hands : Hands (s.takeUp c) u) :
      Hands (s.takeUp c) (if p then u else s.takeUp c) := by
    split
    · exact hands
    · exact .refl _
  have ifNot {p : Prop} [Decidable p] {u : State} (hands : Hands (s.takeUp c) u) :
      Hands (s.takeUp c) (if p then s.takeUp c else u) := by
    split
    · exact .refl _
    · exact hands
  cases c <;> cases heads <;> cases ring
  case inputLevelChange i level =>
    rw [after_inputLevelChange]
    exact changeLevel_hands _ _ _
  case programRelease h => exact .same rfl
  case regulatorRefresh | regulatorWordDone => exact kick (.same rfl)
  case gaugeWord w => exact arriveWord_hands _ _
  case gaugeStale c => exact judgeStale_hands _ _
  case dockDelivery p v => exact deliverDock_hands _ _ _
  case dockCommandHead p x q => exact newDock_hands _ _ _ _
  case dockCommandNone p q => exact newDock_hands _ _ _ _
  case cycleNotice p h => exact cycleNoticeAt_hands _ _ _
  case idleTimerReload p => exact .same rfl
  case idleExpiry p => exact ifNot (expireIdle_hands _ _)
  case orderOffer p o => exact offerOrder_hands _ _ _
  case burstStroke p l => exact (judgeIfEnded_hands _ _ _).next (burstStroke_hands _ _ _)
  case owedStroke p l => exact (judgeIfEnded_hands _ _ _).next (owedStroke_hands _ _ _)
  case flowPulse p l => exact .same (creditPulse_frame p l _).2.1
  case flowWindowClose p l => exact (judgeIfEnded_hands _ _ _).next (closeWindow_hands _ _ _)
  case stepEndNotice | headSafeNotice | supplyLowNotice | lineGroupFailedNotice | stopLineApply =>
    exact (judgeOrders_hands _ _).next (endOrders_hands _ _ _ _)
  case estopNoticeDispense p => exact endOrders_hands _ _ _ _
  case conditionerCommandDelivery p v => exact kick (deliverCondCommand_hands _ _ _)
  case sweep | park | clearFault | overloadAck => exact kick (newCondCommand_hands _ _ _)
  case stepConditionerCommand p c => exact kick (stepCommandAt_hands _ _ _)
  case parkRequest | estopNoticeConditioner => exact kick (parkIfSweeping_hands _ _)
  case positionUpdate p fb => exact kick (judgePosition_hands _ _ _)
  case reachTimeout p => exact kick (reachTimeoutAt_hands _ _)
  case dwellEnd p => exact kick (dwellEndAt_hands _ _)
  case parkTimeout p => exact kick (parkTimeoutAt_hands _ _)
  case condOverloadNotice p => exact kick (overloadAt_hands _ _)
  case programDirWriteApply | programDirEraseApply => exact applyDir_hands _ _ _ _
  case stepWriteApply | stepEraseApply => exact applyStep_hands _ _ _ _
  case lineWriteApply | lineEraseApply => exact applyLine_hands _ _ _ _
  case profileWriteApply | profileEraseApply => exact applyProfile_hands _ _ _ _
  case segmentWriteApply | segmentEraseApply => exact applySegment_hands _ _ _ _
  case cellmapWriteApply i e => exact applyMapWrite_hands _ _ _
  case cellmapEraseApply i => exact .hand rfl (.same rfl)
  case inputWriteApply | inputEraseApply => exact applyInput_hands _ _ _ _
  case inputFilterSettled i => exact ifNot (settleInput_hands _ _)
  case clearInputApply i => exact clearInputAt_hands _ _
  case scanComplete g => exact ifSo (completeScan_hands _ _)
  case rescanComplete g => exact ifSo (completeRescan_hands _ _)
  case cycleFrameNotice us => exact cycleFrameNotice_hands _ _
  case cadenceLateExpiry => exact takeExpiry_hands _
  case requiredEntryJudgement filled => exact .foldl (judgeRequired_hands filled) _ (.refl _)
  all_goals exact .same rfl

end Sys2Proof.Machine
end

section
/-! PROOFS. Laws 6 and 10 and the staged requests: what the Cadence Monitor keeps, what the heads and
the Program Store keep of a running program, and that requests stay in range. -/

namespace Sys2Proof.Machine

open Sys2Proof

/-! ### What every command hands -/

theorem Passes.same {s t : State} (handed : t.handed = s.handed)
    (slots : t.ring.mgmtSlots = s.ring.mgmtSlots) : Passes s t :=
  (Hands.same handed).passes slots

theorem applyReset_passes (scope : Scope) (frame : Option Nat) (s : State) :
    Passes s (applyReset scope frame s) := by
  have through : (goThrough s).ring.mgmtSlots = s.ring.mgmtSlots := by
    unfold goThrough
    dsimp only
    (repeat' split) <;> rfl
  unfold applyReset
  dsimp only
  split
  · exact (Hands.raise _ _ _ _ (.refl s)).passes rfl
  split
  · exact .same rfl rfl
  · exact .same (by simp) through

theorem after_ring_passes {c : Instr} (s : State) (ring : actsOnRing c = true)
    (all : resets c = false) : Passes (s.takeUp c) (s.after c) := by
  have start : Passes (s.takeUp c) (s.takeUp c) := (Hands.refl _).passes rfl
  have K := passes_arrival (s.takeUp c)
  cases c <;> cases ring <;> cases all
  case symbolLockGained =>
    have linked : Passes (s.takeUp .symbolLockGained)
        (if (s.takeUp .symbolLockGained).ring.link = .down then
          (s.takeUp .symbolLockGained).setRing { (s.takeUp .symbolLockGained).ring with link := .sync }
        else s.takeUp .symbolLockGained) := by
      split
      · exact K.ring _ _ (.inl rfl) start
      · exact start
    exact linked
  case lossOfSignal => exact K.rxLoss start
  case frameStart octets => exact K.rxOctets octets (K.rxStart start)
  case frameGoodEnd octets phase =>
    exact K.rxEnd (K.rxOctets octets (start.hands (advanceToPhase_hands _ _) (by simp)))
  case frameBadEnd octets tail => exact K.rxTail tail (K.rxOctets octets start)
  case resetApply scope => exact applyReset_passes _ _ _
  all_goals exact K.arriveCell _ start

/-- Every command but a head's and a reset hands routine events and what was staged. -/
theorem after_passes {c : Instr} (s : State) (heads : actsOnHeads c = false)
    (all : resets c = false) : Passes (s.takeUp c) (s.after c) := by
  cases ring : actsOnRing c with
  | true => exact after_ring_passes s ring all
  | false =>
    refine (after_hands s heads ring).passes ?_
    rw [after_ring s ring]
    simp

/-! ### Reset values -/

/-- What a reset of every block leaves, as far as the laws ask. -/
structure FreshlyReset (s t : State) : Prop where
  heads : t.heads = Tab.all 4 .afterReset
  handed : ∀ i ∈ t.handed, routine i = true
  staged : t.ring.mgmtSlots = []
  cadence : ∃ k, t.cadence = Cadence.afterResetOf k s.cadence

theorem refilterInputs_handed {s : State} (empty : s.handed = []) :
    ∀ i ∈ (refilterInputs s).kickPort.handed, routine i = true := by
  obtain ⟨l, is, good⟩ := refilterInputs_hands s
  simpa [is, empty] using good

theorem endTransparent_fresh (s : State) : FreshlyReset s (endTransparent s) where
  heads := endTransparent_heads s
  handed := by
    unfold endTransparent
    exact refilterInputs_handed rfl
  staged := by simp [endTransparent, Ring.afterManagementReset, Ring.emptied]
  cadence := ⟨_, endTransparent_blocks s (f := State.cadence) (by simp) (by simp) (by simp)⟩

theorem powerOn_fresh (straps : BitVec 5) (s : State) : FreshlyReset s (powerOn straps s) where
  heads := powerOn_heads straps s
  handed := by
    unfold powerOn
    dsimp only
    split <;> exact refilterInputs_handed rfl
  staged := by
    unfold powerOn
    dsimp only
    split <;> simp [Ring.afterPowerOn]
  cadence := ⟨_, powerOn_blocks straps s (f := State.cadence) (by simp) (by simp) (by simp)
    (fun _ => rfl) (fun _ => rfl)⟩

/-- A law that a reset establishes and that the tick's blocks, a reset's count and the port keep is
kept by every command that acts on all blocks. -/
theorem after_resets_keeps {L : State → Prop} {c : Instr} (s : State) (all : resets c = true)
    (law : L s) (taken : L (s.takeUp c)) (fresh : ∀ u t, L u → FreshlyReset u t → L t)
    (blocks : L (tickBlocks (s.takeUp .tick))) (count : ∀ u, L u → L u.countReset)
    (port : ∀ u, L u → L u.kickPort) : L (s.after c) := by
  cases c <;> cases all
  case powerOnReset straps =>
    rw [after_powerOnReset]
    exact fresh _ _ law (powerOn_fresh straps s)
  case transparentPeriodEnd =>
    rw [after_transparentPeriodEnd]
    split
    · exact fresh _ _ taken (endTransparent_fresh _)
    · exact taken
  case tick =>
    exact tick_induction s blocks count (fun u law => fresh _ _ law (endTransparent_fresh u)) port

/-! ### Staged requests -/

/-- A request within its checks. -/
def sound (i : Instr) : Prop := goodRecord i = true ∧ goodSetting i = true

theorem routine_sound {i : Instr} (plain : routine i = true) : sound i := by
  obtain ⟨record, setting, -⟩ := routine_eq_true.mp plain
  exact ⟨record, setting⟩

theorem stagedLaw_iff {s : State} :
    stagedLaw s ↔ (∀ i ∈ s.handed, sound i) ∧ ∀ i ∈ s.ring.mgmtSlots, sound i :=
  List.forall_mem_append

theorem Passes.stagedLaw {s t : State} (passes : Passes s t) (law : stagedLaw s) : stagedLaw t := by
  obtain ⟨⟨l, is, good⟩, staged, -⟩ := passes
  obtain ⟨handed, slots⟩ := stagedLaw_iff.mp law
  have joins {i : Instr} (from_ : routine i = true ∨ i ∈ s.ring.mgmtSlots) : sound i :=
    from_.elim routine_sound (slots i)
  refine stagedLaw_iff.mpr ⟨fun i mem => ?_, fun i mem => joins (staged i mem)⟩
  rw [is] at mem
  exact (List.mem_append.mp mem).elim (handed i) fun mem => joins (good i mem)

theorem Conduct.stagedLaw {h : Head} {s t : State} (conduct : Conduct h s t) (law : stagedLaw s) :
    stagedLaw t := by
  obtain ⟨handed, slots⟩ := stagedLaw_iff.mp law
  exact stagedLaw_iff.mpr ⟨conduct.releases.good handed, by rwa [conduct.ring]⟩

theorem takeRelease_stagedLaw {h : Head} {s : State} (law : stagedLaw s) :
    stagedLaw (s.takeRelease h) := by
  obtain ⟨handed, slots⟩ := stagedLaw_iff.mp law
  refine stagedLaw_iff.mpr ⟨fun i mem => ?_, by simpa using slots⟩
  rw [takeRelease_handed] at mem
  exact handed i (List.mem_of_mem_erase mem)

theorem HeadRun.stagedLaw {h : Head} {cmd : HeadCommand} {s t : State} (run : HeadRun h cmd s t)
    (law : stagedLaw s) : stagedLaw t := by
  obtain ⟨u, acts, goes⟩ := run
  refine goes.stagedLaw ?_
  cases acts with
  | goesOn conduct => exact conduct.stagedLaw law
  | refuses idle conduct => exact conduct.stagedLaw (takeRelease_stagedLaw law)
  | starts number p is started =>
    exact (started.hands.passes (by simp [started.ring])).stagedLaw (takeRelease_stagedLaw law)
  | clears is cleared => exact (cleared.hands.passes (by rw [cleared.ring])).stagedLaw law

theorem takeUp_stagedLaw {c : Instr} {s : State} (law : stagedLaw s) : stagedLaw (s.takeUp c) := by
  obtain ⟨handed, slots⟩ := stagedLaw_iff.mp law
  exact stagedLaw_iff.mpr ⟨fun i mem => handed i (State.mem_takeUp mem), slots⟩

theorem FreshlyReset.stagedLaw {s t : State} (fresh : FreshlyReset s t) : stagedLaw t :=
  stagedLaw_iff.mpr ⟨fun i mem => routine_sound (fresh.handed i mem), by simp [fresh.staged]⟩

theorem after_stagedLaw (c : Instr) (s : State) (law : stagedLaw s) : stagedLaw (s.after c) := by
  have taken : stagedLaw (s.takeUp c) := takeUp_stagedLaw law
  cases all : resets c with
  | true =>
    exact after_resets_keeps s all law taken (fun _ _ _ fresh => fresh.stagedLaw)
      (((tickBlocks_hands _).passes (by simp)).stagedLaw (takeUp_stagedLaw law)) (fun _ law => law)
      (fun u law => ((Hands.same (by simp)).passes (by simp)).stagedLaw law)
  | false =>
    cases acts : actsOnHeads c with
    | true =>
      obtain ⟨h, conduct | ⟨cmd, m, -, run⟩⟩ := after_head s acts all
      · exact conduct.stagedLaw taken
      · exact run.stagedLaw taken
    | false => exact (after_passes s acts all).stagedLaw taken

theorem slotsLaw_congr {s t : State} (ring : t.ring = s.ring) (law : slotsLaw s) : slotsLaw t := by
  rwa [slotsLaw, ring]

theorem HeadRun.ring {h : Head} {cmd : HeadCommand} {s t : State} (run : HeadRun h cmd s t) :
    t.ring = s.ring := by
  obtain ⟨u, acts, goes⟩ := run
  rw [goes.ring]
  cases acts with
  | goesOn conduct => exact conduct.ring
  | refuses idle conduct => simpa using conduct.ring
  | starts number p is started => exact started.ring
  | clears is cleared => exact cleared.ring

theorem after_slotsLaw (c : Instr) (s : State) (law : slotsLaw s) : slotsLaw (s.after c) := by
  cases all : resets c with
  | true =>
    exact after_resets_keeps (L := slotsLaw) s all law law
      (fun _ _ _ fresh => by simp [slotsLaw, fresh.staged])
      (slotsLaw_congr (by simp) law) (fun _ law => law) (fun u => slotsLaw_congr (by simp))
  | false =>
    cases acts : actsOnHeads c with
    | true =>
      obtain ⟨h, conduct | ⟨cmd, m, -, run⟩⟩ := after_head s acts all
      · exact slotsLaw_congr conduct.ring law
      · exact slotsLaw_congr run.ring law
    | false => exact (after_passes s acts all).short law

/-! ### The Cadence Monitor -/

/-- The changes the Cadence Monitor makes as time passes and cycle frames end. -/
structure KeptByCadence (L : State → Prop) : Prop where
  clock : ∀ s us phase, L s → L { s with us := us, phase := phase }
  timer : ∀ s x t, L s → L (s.setCadence { s.cadence with expired := x, timer := t })
  ended : ∀ s e x t, L s → L (s.setCadence { s.cadence with lastEnd := e, expired := x, timer := t })
  locks : ∀ s, L s → s.cadence.state = .unarmed →
    L (s.setCadence { s.cadence with state := .locked })
  violation : ∀ v s, L s → L (cadenceViolation v s)
  window : ∀ s, L s → L (inWindow s)

namespace KeptByCadence

variable {L : State → Prop} {s : State} (K : KeptByCadence L)

include K

theorem lateExpiry (e : BitVec 32) (law : L s) : L (lateExpiry e s) :=
  K.violation _ _ (K.timer _ _ _ law)

theorem passExpiries (fuel span : Nat) (law : L s) : L (passExpiries fuel span s) := by
  induction fuel generalizing span s with
  | zero => exact K.clock s _ s.phase law
  | succ fuel ih =>
    rw [Machine.passExpiries]
    dsimp only
    (repeat' split)
    · exact K.clock s _ s.phase law
    · exact ih _ (K.lateExpiry _ (K.clock s _ s.phase law))
    · exact K.clock s _ s.phase law

theorem advanceToPhase (phase : Nat) (law : L s) : L (advanceToPhase phase s) := by
  unfold Machine.advanceToPhase
  split
  · exact law
  · exact K.clock _ _ phase (K.passExpiries _ _ law)

theorem takeExpiry (law : L s) : L (takeExpiry s) := by
  unfold Machine.takeExpiry
  dsimp only
  (repeat' split)
  · exact law
  · exact K.lateExpiry _ (K.clock s _ _ law)
  · exact K.lateExpiry _ law

theorem cycleFrameNotice (us : BitVec 32) (law : L s) : L (cycleFrameNotice us s) := by
  have judged : L (judgeInterval us s) := by
    unfold judgeInterval
    dsimp only
    split
    · next is => exact K.locks s law is
    all_goals
      (repeat' split)
      · exact law
      · exact law
      · exact K.violation _ _ law
      · exact K.window _ law
      · exact law
  exact K.ended _ _ _ _ judged

end KeptByCadence

/-- The part of Law 10 about the count. -/
theorem cadenceLaw_kept : KeptByCadence cadenceLaw where
  clock _ _ _ law := law
  timer _ _ _ law := law
  ended _ _ _ _ law := law
  locks s law is := by
    obtain ⟨limit, count⟩ := law
    simp only [is] at count
    exact ⟨limit, by simpa [count] using Nat.lt_of_succ_le limit⟩
  violation v s law := by
    obtain ⟨limit, count⟩ := law
    unfold cadenceViolation
    dsimp only
    split
    · next is => exact ⟨limit, by simpa [is] using count⟩
    · next is =>
      simp only [is] at count
      refine ⟨?_, ?_⟩
      · split <;> simpa using limit
      · by_cases lost : s.cadence.limit ≤ s.cadence.violations + 1
        · simpa [lost] using count
        · simpa [lost] using Nat.lt_of_not_le lost
    · next is => exact ⟨limit, by simpa [is] using count⟩
  window s law := by
    obtain ⟨limit, count⟩ := law
    unfold inWindow
    dsimp only
    split
    · next is => exact ⟨limit, by simpa [is] using count⟩
    · next is =>
      simp only [is] at count
      exact ⟨limit, by simpa [is] using (Nat.sub_le _ 1).trans_lt count⟩
    · next is =>
      split
      · exact ⟨limit, by simpa [is] using count⟩
      · exact ⟨limit, limit⟩

theorem cadenceLaw_congr {s t : State} (same : t.cadence = s.cadence) (law : cadenceLaw s) :
    cadenceLaw t := by
  rwa [cadenceLaw, same]

theorem FreshlyReset.cadenceLaw {s t : State} (fresh : FreshlyReset s t) (law : cadenceLaw s) :
    cadenceLaw t := by
  obtain ⟨limit, -⟩ := law
  obtain ⟨k, is⟩ := fresh.cadence
  rw [Machine.cadenceLaw, is]
  refine ⟨?_, rfl⟩
  simp only [Cadence.afterResetOf, Cadence.afterReset, keepOr]
  split
  · exact limit
  · decide

theorem tickBlocks_cadence (s : State) :
    (tickBlocks s).cadence = (advanceTime (1000 - s.phase) s).cadence := by
  simp [tickBlocks, tickField, foldl_leaves State.cadence]

/-- What time and cycle frames keep, every command that acts on the Cadence Monitor keeps but a
reset and SET_CADENCE. -/
theorem after_cadence_keeps {L : State → Prop} (K : KeptByCadence L) (A : KeptByArrival L) {c : Instr}
    (s : State) (acts : actsOnCadence c = true) (all : resets c = false)
    (set : ∀ period early late limit, c ≠ .setCadence period early late limit)
    (taken : L (s.takeUp c)) : L (s.after c) := by
  cases c <;> cases acts <;> cases all
  case frameGoodEnd octets phase => exact A.rxEnd (A.rxOctets octets (K.advanceToPhase _ taken))
  case setCadence period early late limit => exact absurd rfl (set period early late limit)
  case cycleFrameNotice us => exact K.cycleFrameNotice us taken
  case cadenceLateExpiry => exact K.takeExpiry taken

theorem cadenceLaw_arrival : KeptByArrival cadenceLaw where
  emit _ _ law := law
  ring _ _ _ law := law
  raise _ _ _ _ _ law := law
  giveBack _ _ law := law
  fill _ _ _ _ _ law := law
  stage s p law := cadenceLaw_congr (by simp) law
  good s law := cadenceLaw_congr (by simp) law

theorem after_setCadence_cadenceLaw {period early late limit : Nat} (s : State)
    (good : cadenceInRange period early late limit = true) (law : cadenceLaw s) :
    cadenceLaw (s.after (.setCadence period early late limit)) := by
  obtain ⟨-, count⟩ := law
  have positive : 1 ≤ limit := by
    simp only [cadenceInRange, Bool.and_eq_true, decide_eq_true_eq] at good
    exact good.2.1
  refine ⟨positive, ?_⟩
  have same : (s.after (.setCadence period early late limit)).cadence =
      { s.cadence with
        period := period, early := early, late := late, limit := limit, violations := 0,
        regain := 0 } := rfl
  rw [same]
  dsimp only
  split
  · rfl
  · exact positive
  · exact Nat.zero_le _

theorem after_cadenceLaw {c : Instr} (s : State) (good : goodSetting c = true) (law : cadenceLaw s) :
    cadenceLaw (s.after c) := by
  cases all : resets c with
  | true =>
    refine after_resets_keeps (L := cadenceLaw) s all law law
      (fun _ _ law fresh => fresh.cadenceLaw law) ?_ (fun _ law => law)
      (fun u => cadenceLaw_congr (by simp))
    exact cadenceLaw_congr (tickBlocks_cadence _)
      (cadenceLaw_kept.passExpiries (s := s.takeUp .tick) _ _ law)
  | false =>
    cases acts : actsOnCadence c with
    | false => exact cadenceLaw_congr (after_cadence s acts) law
    | true =>
      by_cases set : ∃ period early late limit, c = .setCadence period early late limit
      · obtain ⟨period, early, late, limit, rfl⟩ := set
        exact after_setCadence_cadenceLaw s good law
      · refine after_cadence_keeps cadenceLaw_kept cadenceLaw_arrival s acts all ?_ law
        exact fun p e l v is => set ⟨p, e, l, v, is⟩

/-! ### A lost cadence -/

/-- The law about a lost cadence is kept where no head starts to run, no cadence is lost and every
notice still waits. -/
theorem lostLaw_mono {s t : State} (cadence : t.cadence.state = .lost → s.cadence.state = .lost)
    (active : ∀ h, (t.heads.get h).isActive = true → (s.heads.get h).isActive = true)
    (handed : ∀ h, .cadenceLostNotice h ∈ s.handed → .cadenceLostNotice h ∈ t.handed)
    (law : lostLaw s) : lostLaw t :=
  fun lost h runs => handed h (law (cadence lost) h (active h runs))

theorem lostLaw_of_handed {s t : State} (cadence : t.cadence = s.cadence) (heads : t.heads = s.heads)
    (handed : ∀ i, i ∈ s.handed → i ∈ t.handed) (law : lostLaw s) : lostLaw t :=
  lostLaw_mono (by simp [cadence]) (by simp [heads]) (fun _ => handed _) law

theorem lostLaw_kept : KeptByCadence lostLaw where
  clock _ _ _ law := law
  timer _ _ _ law := law
  ended _ _ _ _ law := law
  locks s _ _ := fun lost => by simp at lost
  violation v s law := by
    unfold cadenceViolation
    dsimp only
    split
    · exact law
    · next is =>
      split
      · intro _ h _
        simp
      · next within =>
        intro lost
        simp at lost
    · exact lostLaw_mono (s := s) (by simp [*]) (by simp) (fun h waits => by simp [waits]) law
  window s law := by
    unfold inWindow
    dsimp only
    split
    · exact law
    · exact law
    · split
      · exact law
      · exact fun lost => by simp at lost

theorem lostLaw_arrival : KeptByArrival lostLaw where
  emit _ _ law := law
  ring _ _ _ law := law
  raise s _ _ _ _ law := lostLaw_of_handed (s := s) rfl rfl (fun i mem => by simp [mem]) law
  giveBack s _ law := lostLaw_of_handed (s := s) rfl rfl (fun i mem => by simp [mem]) law
  fill _ _ _ _ _ law := law
  stage s p law := lostLaw_of_handed (by simp) (by simp) (by simp) law
  good s law :=
    lostLaw_of_handed (by simp) (by simp)
      (fun i mem => by simp [goodEnd, State.await, State.emit, mem]) law

theorem takeUp_lostLaw {c : Instr} {s : State} (other : ∀ h, c ≠ .cadenceLostNotice h)
    (law : lostLaw s) : lostLaw (s.takeUp c) :=
  lostLaw_mono (s := s) id (fun _ => id)
    (fun h waits => (State.mem_takeUp_of_ne (other h).symm).mpr waits) law

theorem Conduct.isActive {h : Head} {s t : State} (conduct : Conduct h s t) (k : Head)
    (runs : (t.heads.get k).isActive = true) : (s.heads.get k).isActive = true := by
  by_cases is : k = h
  · subst is
    exact conduct.active runs
  · rwa [← conduct.others k is]

theorem Conduct.lostLaw {h : Head} {s t : State} (conduct : Conduct h s t) (law : lostLaw s) :
    lostLaw t :=
  lostLaw_mono (by simp [conduct.cadence]) conduct.isActive (fun _ => conduct.releases.mem) law

theorem takeRelease_lostLaw {h : Head} {s : State} (law : lostLaw s) :
    lostLaw (s.takeRelease h) :=
  lostLaw_mono (by simp) (by simp)
    (fun k waits => by
      rw [takeRelease_handed]
      exact (List.mem_erase_of_ne (by simp)).mpr waits) law

theorem HeadRun.lostLaw {h : Head} {cmd : HeadCommand} {s t : State} (run : HeadRun h cmd s t)
    (law : lostLaw s) : lostLaw t := by
  obtain ⟨u, acts, goes⟩ := run
  refine goes.lostLaw ?_
  cases acts with
  | goesOn conduct => exact conduct.lostLaw law
  | refuses idle conduct => exact conduct.lostLaw (takeRelease_lostLaw law)
  | starts number p is started =>
    obtain ⟨-, locked, -⟩ := startVerdict_eq_none started.gates
    intro lost
    rw [started.cadence, locked] at lost
    cases lost
  | clears is cleared =>
    refine lostLaw_mono (by simp [cleared.cadence]) (fun k runs => ?_)
      (fun _ => cleared.hands.mem) law
    by_cases same : k = h
    · subst same
      simp [isActive_iff, cleared.idle] at runs
    · rwa [← cleared.others k same]

/-- The notice itself takes its head out of RUNNING and PAUSED. -/
theorem after_cadenceLostNotice_lostLaw (h : Head) (s : State) (law : lostLaw s) :
    lostLaw (s.after (.cadenceLostNotice h)) := by
  have conduct : Conduct h (s.takeUp (.cadenceLostNotice h)) (s.after (.cadenceLostNotice h)) :=
    safeHoldCause_conduct h _ _
  intro lost k runs
  have ran : (s.heads.get k).isActive = true := by simpa using conduct.isActive k runs
  by_cases is : k = h
  · subst is
    have entered : ((s.after (.cadenceLostNotice k)).heads.get k).state = .safeHold := by
      have enters : causeEnters .cadenceLost ((s.takeUp (.cadenceLostNotice k)).heads.get k).state =
          true := by
        obtain is | is := isActive_iff.mp ran <;> simp [causeEnters, is]
      have result : s.after (.cadenceLostNotice k) =
          enterSafeHold k .cadenceLost (s.takeUp (.cadenceLostNotice k)) := if_pos enters
      rw [result, enterSafeHold_eq]
      simp
    simp [isActive_iff, entered] at runs
  · have was : s.cadence.state = .lost := by simpa [conduct.cadence] using lost
    exact conduct.releases.mem
      ((State.mem_takeUp_of_ne (by simpa using is)).mpr (law was k ran))

theorem FreshlyReset.inactive {s t : State} (fresh : FreshlyReset s t) (h : Head) :
    (t.heads.get h).isActive = false := by
  rw [fresh.heads, Tab.get_all]
  rfl

theorem FreshlyReset.lostLaw {s t : State} (fresh : FreshlyReset s t) : lostLaw t :=
  fun _ h runs => by simp [fresh.inactive h] at runs

/-- From the moment the time base comes to the tick, the blocks hand routine events. -/
theorem tickBlocks_hands_time (s : State) :
    Hands { advanceTime (1000 - s.phase) s with phase := 0 } (tickBlocks s) :=
  tickBlocks_induction (L := Hands { advanceTime (1000 - s.phase) s with phase := 0 }) (.refl _)
    (fun _ h before => before.trans (tickHead_hands _ h))
    (fun _ c before => before.trans (tickFilter_hands _ c))
    (fun _ p before => before.trans (tickDispense_hands _ p))
    (fun _ p before => before.trans (tickCond_hands _ p))
    (fun _ p before => before.trans (tickIdle_hands _ p))
    (fun _ before => before.leaves (by simp))
    (fun _ i before => before.trans (tickInput_hands _ i))
    (fun _ g before => before.trans (tickGroup_hands _ g))

theorem tickBlocks_lostLaw {s : State} (law : lostLaw s) : lostLaw (tickBlocks s) := by
  have timed : lostLaw { advanceTime (1000 - s.phase) s with phase := 0 } :=
    lostLaw_kept.clock _ _ 0 (lostLaw_kept.passExpiries _ _ law)
  refine lostLaw_mono ?_ ?_ (fun _ => (tickBlocks_hands_time s).mem) timed
  · rw [tickBlocks_cadence]
    exact id
  · intro h runs
    rw [tickBlocks_isActive] at runs
    simpa using runs

theorem after_lostLaw (c : Instr) (s : State) (law : lostLaw s) : lostLaw (s.after c) := by
  by_cases notice : ∃ h, c = .cadenceLostNotice h
  · obtain ⟨h, rfl⟩ := notice
    exact after_cadenceLostNotice_lostLaw h s law
  have other (h : Head) : c ≠ .cadenceLostNotice h := fun is => notice ⟨h, is⟩
  have taken := takeUp_lostLaw other law
  cases all : resets c with
  | true =>
    exact after_resets_keeps s all law taken (fun _ _ _ fresh => fresh.lostLaw)
      (tickBlocks_lostLaw (takeUp_lostLaw (by simp) law)) (fun _ law => law)
      (fun u => lostLaw_of_handed (by simp) (by simp) (by simp))
  | false =>
    cases acts : actsOnHeads c with
    | true =>
      obtain ⟨h, conduct | ⟨cmd, m, -, run⟩⟩ := after_head s acts all
      · exact conduct.lostLaw taken
      · exact run.lostLaw taken
    | false =>
      by_cases same : (s.after c).cadence = (s.takeUp c).cadence
      · obtain ⟨l, is, -⟩ := (after_passes s acts all).handed
        exact lostLaw_of_handed same (by rw [after_heads s acts]; simp) (fun i mem => by
          rw [is]
          exact List.mem_append_left _ mem) taken
      cases cadence : actsOnCadence c with
      | false => exact absurd (after_cadence s cadence) same
      | true =>
        by_cases set : ∃ period early late limit, c = .setCadence period early late limit
        · obtain ⟨period, early, late, limit, rfl⟩ := set
          exact taken
        · refine after_cadence_keeps lostLaw_kept lostLaw_arrival s cadence all ?_ taken
          exact fun p e l v is => set ⟨p, e, l, v, is⟩

/-! ### Claims -/

/-- Law 6's ground for one head: no release of it is staged and at most one waits; while it runs,
its claim is its program and none waits. -/
def claimAt (h : Head) (s : State) : Prop :=
  .programRelease h ∉ s.ring.mgmtSlots ∧
    s.handed.count (.programRelease h) ≤ 1 ∧
    ((s.heads.get h).isActive = true →
      (∃ p, (s.heads.get h).program = some p ∧ s.store.claims.get h = some p) ∧
        s.handed.count (.programRelease h) = 0)

theorem claimLaw_iff {s : State} : claimLaw s ↔ ∀ h, claimAt h s := by
  refine forall_congr' fun h => and_congr_right fun _ => ?_
  by_cases runs : (s.heads.get h).isActive = true
  · simp only [runs, if_true, List.count_eq_zero, true_implies]
    exact ⟨fun law => ⟨by simp [List.count_eq_zero.mpr law.2], law⟩, fun law => law.2⟩
  · simp [runs]

/-- A head whose record, claim and waiting releases stay keeps the ground of Law 6. -/
theorem claimAt_congr {h : Head} {s t : State}
    (slots : .programRelease h ∈ t.ring.mgmtSlots → .programRelease h ∈ s.ring.mgmtSlots)
    (count : t.handed.count (.programRelease h) = s.handed.count (.programRelease h))
    (active : (t.heads.get h).isActive = (s.heads.get h).isActive)
    (program : (t.heads.get h).program = (s.heads.get h).program)
    (claim : t.store.claims.get h = s.store.claims.get h) (law : claimAt h s) : claimAt h t := by
  obtain ⟨none, few, runs⟩ := law
  exact ⟨none ∘ slots, by rwa [count], by rwa [active, program, claim, count]⟩

theorem Conduct.claimAt {h : Head} {s t : State} (conduct : Conduct h s t) {k : Head}
    (law : claimAt k s) : claimAt k t := by
  by_cases same : k = h
  case neg =>
    exact claimAt_congr (by rw [conduct.ring]; exact id) (conduct.releases.count_other same)
      (by rw [conduct.others k same]) (by rw [conduct.others k same]) (by rw [conduct.store]) law
  subst same
  obtain ⟨none, few, runs⟩ := law
  have count := conduct.releases.count_same
  refine ⟨by rwa [conduct.ring], ?_, fun active => ?_⟩
  · by_cases ran : (s.heads.get k).isActive = true
    · have before := (runs ran).2
      unfold stops at count
      split at count <;> omega
    · simpa [count, stops, ran] using few
  · have ran := conduct.active active
    obtain ⟨claimed, before⟩ := runs ran
    exact ⟨by rwa [conduct.program, conduct.store], by simp [count, stops, active, before]⟩

theorem takeRelease_claimAt {h k : Head} {s : State} (idle : (s.heads.get h).state = .idle)
    (law : claimAt k s) : claimAt k (s.takeRelease h) := by
  obtain ⟨c, store⟩ := takeRelease_store h s
  by_cases same : k = h
  · subst same
    obtain ⟨none, few, -⟩ := law
    refine ⟨by simpa using none, ?_, fun runs => by simp [isActive_iff, idle] at runs⟩
    rw [takeRelease_handed, List.count_erase_self]
    omega
  · refine claimAt_congr (by simp) ?_ (by simp) (by simp) ?_ law
    · rw [takeRelease_handed, List.count_erase_of_ne (by simpa using same)]
    · simp [store, Tab.get_upd_ne _ _ (Ne.symm same)]

theorem HeadRun.claimAt {h k : Head} {cmd : HeadCommand} {s t : State} (run : HeadRun h cmd s t)
    (law : claimAt k s) : claimAt k t := by
  obtain ⟨u, acts, goes⟩ := run
  refine goes.claimAt ?_
  cases acts with
  | goesOn conduct => exact conduct.claimAt law
  | refuses idle conduct => exact conduct.claimAt (takeRelease_claimAt idle law)
  | starts number p is started =>
    have released := takeRelease_claimAt started.fromIdle law
    by_cases same : k = h
    · subst same
      obtain ⟨none, few, -⟩ := law
      have count : u.handed.count (.programRelease k) = 0 := by
        rw [started.hands.count_release, takeRelease_handed, List.count_erase_self]
        omega
      exact ⟨by rwa [started.ring], by omega,
        fun _ => ⟨⟨p, started.program, by simp [started.claimed]⟩, count⟩⟩
    · refine claimAt_congr (by rw [started.ring]; exact id) ?_ (by rw [started.others k same])
        (by rw [started.others k same])
        (by simp [started.claimed, Tab.get_upd_ne _ _ (Ne.symm same)]) law
      rw [started.hands.count_release, takeRelease_handed,
        List.count_erase_of_ne (by simpa using same)]
  | clears is cleared =>
    have count := cleared.hands.count_release k
    by_cases same : k = h
    · subst same
      obtain ⟨none, few, -⟩ := law
      exact ⟨by rwa [cleared.ring], by rwa [count],
        fun runs => by simp [isActive_iff, cleared.idle] at runs⟩
    · exact claimAt_congr (by rw [cleared.ring]; exact id) count (by rw [cleared.others k same])
        (by rw [cleared.others k same]) (by rw [cleared.store]) law

/-- What the traffic path and the other blocks hand releases no program. -/
theorem Passes.claimAt {h : Head} {s t : State} (passes : Passes s t) (heads : t.heads = s.heads)
    (claims : t.store.claims.get h = s.store.claims.get h) (law : claimAt h s) : claimAt h t := by
  obtain ⟨⟨l, is, good⟩, staged, -⟩ := passes
  have none := law.1
  have apart (i : Instr) (from_ : routine i = true ∨ i ∈ s.ring.mgmtSlots) :
      i ≠ .programRelease h := by
    rintro rfl
    exact from_.elim (by simp [routine]) none
  refine claimAt_congr (fun mem => absurd rfl (apart _ (staged _ mem))) ?_ (by rw [heads])
    (by rw [heads]) claims law
  rw [is, List.count_append, List.count_eq_zero.mpr fun mem => apart _ (good _ mem) rfl, Nat.add_zero]

theorem takeUp_claimAt {c : Instr} {h : Head} {s : State} (law : claimAt h s) :
    claimAt h (s.takeUp c) := by
  obtain ⟨none, few, runs⟩ := law
  have fewer : (s.takeUp c).handed.count (.programRelease h) ≤ s.handed.count (.programRelease h) :=
    List.Sublist.count_le _ List.erase_sublist
  exact ⟨none, fewer.trans few, fun active => ⟨(runs active).1, Nat.le_zero.mp ((runs active).2 ▸ fewer)⟩⟩

theorem FreshlyReset.claimAt {s t : State} (fresh : FreshlyReset s t) (h : Head) : claimAt h t := by
  have none : t.handed.count (.programRelease h) = 0 :=
    List.count_eq_zero.mpr fun mem => by simpa [routine] using fresh.handed _ mem
  exact ⟨by simp [fresh.staged], by omega, fun runs => by simp [fresh.inactive h] at runs⟩

theorem tickBlocks_claimAt {h : Head} {s : State} (law : claimAt h s) : claimAt h (tickBlocks s) := by
  obtain ⟨st, is⟩ := tickBlocks_head s h
  exact claimAt_congr (by simp) ((tickBlocks_hands s).count_release h) (tickBlocks_isActive s h)
    (by rw [is]) (by simp) law

/-- Only a release changes a claim, among the commands that act neither on a head nor on every
block. -/
theorem after_claims {c : Instr} (s : State) (heads : actsOnHeads c = false)
    (all : resets c = false) (release : ∀ h, c ≠ .programRelease h) :
    (s.after c).store.claims = s.store.claims := by
  cases acts : actsOnStore c with
  | false => rw [after_store s acts]
  | true =>
    have dir (isErase : Bool) (i : Fin 16) (e : DirEntry) (u : State) :
        (applyDir isErase i e u).store.claims = u.store.claims := by
      unfold applyDir
      split <;> rfl
    have step (isErase : Bool) (i : Fin 96) (r : StepRecord) (u : State) :
        (applyStep isErase i r u).store.claims = u.store.claims := by
      unfold applyStep
      split <;> rfl
    cases c <;> simp [actsOnStore, actsOnHeads, resets] at acts heads all
    case programRelease h => exact absurd rfl (release h)
    case programDirWriteApply | programDirEraseApply => exact dir _ _ _ _
    case stepWriteApply | stepEraseApply => exact step _ _ _ _

/-- The taking of a release of a head that runs no program. -/
theorem after_programRelease_claimAt {h k : Head} {s : State}
    (rests : (s.heads.get h).isActive = false) (law : claimAt k s) :
    claimAt k (s.after (.programRelease h)) := by
  have taken : claimAt k (s.takeUp (.programRelease h)) := takeUp_claimAt law
  by_cases same : k = h
  · subst same
    exact ⟨taken.1, taken.2.1, fun runs => absurd (rests.symm.trans runs) (by simp)⟩
  · exact claimAt_congr (s := s.takeUp (.programRelease h)) id rfl rfl rfl
      (Tab.get_upd_ne _ _ (Ne.symm same)) taken

theorem after_claimAt {c : Instr} {h : Head} (s : State)
    (rests : ∀ k, c = .programRelease k → (s.heads.get k).isActive = false) (law : claimAt h s) :
    claimAt h (s.after c) := by
  have taken : claimAt h (s.takeUp c) := takeUp_claimAt law
  by_cases release : ∃ k, c = .programRelease k
  · obtain ⟨k, rfl⟩ := release
    exact after_programRelease_claimAt (rests k rfl) law
  cases all : resets c with
  | true =>
    exact after_resets_keeps (L := claimAt h) s all law taken (fun _ _ _ fresh => fresh.claimAt h)
      (tickBlocks_claimAt (takeUp_claimAt law)) (fun _ law => law)
      (fun u => claimAt_congr (by simp) (by simp) (by simp) (by simp) (by simp))
  | false =>
    cases acts : actsOnHeads c with
    | true =>
      obtain ⟨k, conduct | ⟨cmd, m, -, run⟩⟩ := after_head s acts all
      · exact conduct.claimAt taken
      · exact run.claimAt taken
    | false =>
      have claims := after_claims s acts all fun k is => release ⟨k, is⟩
      exact (after_passes s acts all).claimAt (by simp [after_heads s acts]) (by simp [claims]) taken

/-! ### A claimed program is kept (Law 6) -/

/-- The entry of a claimed program, and the records of its range, are as they were. -/
def programKept (p : Fin 16) (s t : State) : Prop :=
  t.store.dir.get p = s.store.dir.get p ∧
    ∀ i : Fin 96, (s.store.dir.get p).first ≤ i.val →
      i.val < (s.store.dir.get p).first + (s.store.dir.get p).count →
        t.store.steps.get i = s.store.steps.get i

theorem programKept_of_store {p : Fin 16} {s t : State} (dir : t.store.dir = s.store.dir)
    (steps : t.store.steps = s.store.steps) : programKept p s t :=
  ⟨by rw [dir], fun _ _ _ => by rw [steps]⟩

theorem programClaimed_of_claim {s : State} {h : Head} {p : Fin 16}
    (claim : s.store.claims.get h = some p) : s.programClaimed p = true := by
  simp only [State.programClaimed, List.any_eq_true, beq_iff_eq]
  exact ⟨_, Tab.mem_entries.mpr ⟨h, rfl⟩, claim⟩

theorem applyDir_programKept {s : State} {p : Fin 16} (claimed : s.programClaimed p = true)
    (isErase : Bool) (i : Fin 16) (e : DirEntry) : programKept p s (applyDir isErase i e s) := by
  unfold applyDir
  split
  · exact programKept_of_store rfl rfl
  · next free =>
    have apart : i ≠ p := by
      rintro rfl
      exact free claimed
    exact ⟨Tab.get_upd_ne _ _ apart, fun _ _ _ => rfl⟩

theorem applyStep_programKept {s : State} {p : Fin 16} (claimed : s.programClaimed p = true)
    (isErase : Bool) (i : Fin 96) (r : StepRecord) :
    programKept p s (applyStep isErase i r s) := by
  unfold applyStep
  split
  · exact programKept_of_store rfl rfl
  · next free =>
    refine ⟨rfl, fun j lower upper => Tab.get_upd_ne _ _ ?_⟩
    rintro rfl
    refine free (List.any_eq_true.mpr ⟨p, List.mem_finRange p, ?_⟩)
    simp [claimed, lower, upper]

/-- A command that acts neither on a head nor on every block keeps what a head has claimed. -/
theorem after_store_programKept {c : Instr} (s : State) {p : Fin 16}
    (heads : actsOnHeads c = false) (all : resets c = false) (claimed : s.programClaimed p = true) :
    programKept p s (s.after c) := by
  cases acts : actsOnStore c with
  | false => exact programKept_of_store (by rw [after_store s acts]) (by rw [after_store s acts])
  | true =>
    cases c <;> simp [actsOnStore, actsOnHeads, resets] at acts heads all
    case programRelease h => exact programKept_of_store rfl rfl
    case programDirWriteApply n e =>
      exact applyDir_programKept (s := s.takeUp (.programDirWriteApply n e)) claimed _ _ _
    case programDirEraseApply n =>
      exact applyDir_programKept (s := s.takeUp (.programDirEraseApply n)) claimed _ _ _
    case stepWriteApply n r =>
      exact applyStep_programKept (s := s.takeUp (.stepWriteApply n r)) claimed _ _ _
    case stepEraseApply n =>
      exact applyStep_programKept (s := s.takeUp (.stepEraseApply n)) claimed _ _ _

theorem takeRelease_programKept (h : Head) (p : Fin 16) (s : State) :
    programKept p s (s.takeRelease h) := by
  obtain ⟨c, store⟩ := takeRelease_store h s
  exact programKept_of_store (by simp [store]) (by simp [store])

/-- What a step keeps of a head that runs a claimed program. -/
def runKept (h : Head) (p : Fin 16) (s t : State) : Prop :=
  (t.heads.get h).program = some p ∧ t.store.claims.get h = some p ∧ programKept p s t

theorem runKept_of_same {h : Head} {p : Fin 16} {s t : State}
    (program : (s.heads.get h).program = some p) (claim : s.store.claims.get h = some p)
    (same : (t.heads.get h).program = (s.heads.get h).program) (store : t.store = s.store) :
    runKept h p s t :=
  ⟨same.trans program, by rwa [store], programKept_of_store (by rw [store]) (by rw [store])⟩

theorem HeadRun.runKept {h k : Head} {p : Fin 16} {cmd : HeadCommand} {s t : State}
    (run : HeadRun k cmd s t) (runs : (s.heads.get h).isActive = true)
    (still : (t.heads.get h).isActive = true) (program : (s.heads.get h).program = some p)
    (claim : s.store.claims.get h = some p) : runKept h p s t := by
  obtain ⟨u, acts, goes⟩ := run
  have later : Machine.runKept h p s u → Machine.runKept h p s t := by
    rintro ⟨has, holds, kept⟩
    refine ⟨?_, by rwa [goes.store], by simpa only [programKept, goes.store] using kept⟩
    by_cases same : h = k
    · subst same
      rwa [goes.program]
    · rwa [goes.others h same]
  have notIdle : (s.heads.get h).state ≠ .idle := by
    obtain is | is := isActive_iff.mp runs <;> simp [is]
  refine later ?_
  cases acts with
  | goesOn conduct =>
    refine runKept_of_same program claim ?_ conduct.store
    by_cases same : h = k
    · subst same
      exact conduct.program
    · rw [conduct.others h same]
  | refuses idle conduct =>
    have same : h ≠ k := by
      rintro rfl
      exact notIdle idle
    obtain ⟨c, store⟩ := takeRelease_store k s
    refine ⟨by simpa [conduct.others h same] using program, ?_, ?_⟩
    · simpa [conduct.store, store, Tab.get_upd_ne _ _ same.symm] using claim
    · simpa only [programKept, conduct.store] using takeRelease_programKept k p s
  | starts number q is started =>
    have same : h ≠ k := by
      rintro rfl
      exact notIdle started.fromIdle
    refine ⟨by rwa [started.others h same], ?_, ?_⟩
    · simpa [started.claimed, Tab.get_upd_ne _ _ same.symm] using claim
    · exact programKept_of_store (by rw [started.claimed]) (by rw [started.claimed])
  | clears is cleared =>
    have same : h ≠ k := by
      rintro rfl
      have idle := goes.idle.mpr cleared.idle
      simp [isActive_iff, idle] at still
    exact runKept_of_same program claim (by rw [cleared.others h same]) cleared.store

theorem after_runKept {c : Instr} {h : Head} {p : Fin 16} (s : State)
    (runs : (s.heads.get h).isActive = true) (still : ((s.after c).heads.get h).isActive = true)
    (program : (s.heads.get h).program = some p) (claim : s.store.claims.get h = some p)
    (other : c ≠ .programRelease h) : runKept h p s (s.after c) := by
  cases all : resets c with
  | true =>
    obtain ⟨is, -⟩ | ⟨store, st, is⟩ := after_resets_head s all h
    · rw [is] at still
      cases still
    · exact runKept_of_same program claim (by rw [is]) store
  | false =>
    cases acts : actsOnHeads c with
    | true =>
      obtain ⟨k, conduct | ⟨cmd, m, -, run⟩⟩ := after_head s acts all
      · refine runKept_of_same program claim ?_ conduct.store
        by_cases same : h = k
        · subst same
          exact conduct.program
        · rw [conduct.others h same]
          simp
      · exact run.runKept (by simpa using runs) still (by simpa using program) claim
    | false =>
      refine ⟨by rwa [after_heads s acts], ?_,
        after_store_programKept s acts all (programClaimed_of_claim claim)⟩
      by_cases release : ∃ k, c = .programRelease k
      · obtain ⟨k, rfl⟩ := release
        have apart : k ≠ h := by
          rintro rfl
          exact other rfl
        exact (Tab.get_upd_ne _ _ apart).trans claim
      · rw [after_claims s acts all fun k is => release ⟨k, is⟩, claim]

/-! ### Every step -/

/-- The command a step runs is well-formed if it waited, within its checks if it was handed, and a
release only of a head that runs no program. -/
theorem Runs.sound {s u : State} {c : Instr} (runs : Runs s c u) (commands : commandsGood s)
    (law : stagedLaw s) : goodSetting c = true := by
  cases runs with
  | command rest front =>
    have good : wellFormed c = true := commands c (by simp [front])
    simp only [wellFormed, Bool.and_eq_true] at good
    exact good.1.2
  | handed rest none front => exact ((stagedLaw_iff.mp law).1 c (by simp [front])).2

theorem Runs.front {s u : State} {c : Instr} (runs : Runs s c u) :
    (s.pending ++ s.handed).head? = some c := by
  cases runs with
  | command rest front => simp [front]
  | handed rest none front => simp [none, front]

theorem Runs.rests {s u : State} {c : Instr} (runs : Runs s c u)
    (apart : ∀ h : Head, (s.heads.get h).isActive = true →
      s.pending.head? ≠ some (.programRelease h))
    (law : claimLaw s) (k : Head) (is : c = .programRelease k) :
    (u.heads.get k).isActive = false := by
  subst is
  cases runs with
  | command rest front =>
    by_contra active
    exact apart k (by simpa using active) (by simp [front])
  | handed rest none front =>
    by_contra active
    have waits := ((claimLaw_iff.mp law k).2.2 (by simpa using active)).2
    simp [front] at waits

/-- A law that does not speak of the queue of commands holds of the state a command runs on. -/
theorem Runs.law {L : State → Prop} (apart : ∀ s q, L s → L { s with pending := q }) {s u : State}
    {c : Instr} (runs : Runs s c u) (law : L s) : L u := by
  cases runs with
  | command rest front => exact apart s _ law
  | handed rest none front => exact law

theorem Runs.commandsGood {s u : State} {c : Instr} (runs : Runs s c u)
    (commands : commandsGood s) : commandsGood (u.after c) := by
  intro i mem
  rw [after_pending] at mem
  cases runs with
  | command rest front => exact commands i (by simp [front, mem])
  | handed rest none front => exact commands i mem

/-- Settles O59: each command keeps the laws, by what it hands and by what it does to the heads,
the Program Store and the Cadence Monitor. -/
theorem stagedAndCadenceLawsKept : Obligations.StagedAndCadenceLawsKept := by
  intro s t e
  obtain rfl | ⟨c, u, runs, rfl⟩ := step_cases e
  · exact ⟨fun commands law => ⟨commands, law⟩, fun _ _ law => law, fun law => law,
      fun law => law, fun _ law => law, fun h p _ _ program claim _ =>
        ⟨program, claim, rfl, fun _ _ _ => rfl⟩⟩
  refine ⟨fun commands law => ⟨runs.commandsGood commands, ?_⟩, fun commands law count => ?_,
    fun law => ?_, fun law => ?_, fun apart law => ?_, fun h p active still program claim front => ?_⟩
  · exact after_stagedLaw c u (runs.law (fun _ _ law => law) law)
  · exact after_cadenceLaw u (runs.sound commands law) (runs.law (fun _ _ law => law) count)
  · exact after_slotsLaw c u (runs.law (fun _ _ law => law) law)
  · exact after_lostLaw c u (runs.law (fun _ _ law => law) law)
  · refine claimLaw_iff.mpr fun h => after_claimAt u (runs.rests apart law) ?_
    exact runs.law (L := claimAt h) (fun _ _ law => law) (claimLaw_iff.mp law h)
  · have other : c ≠ .programRelease h := by
      rintro rfl
      exact front runs.front
    have kept : runKept h p u (u.after c) := by
      refine after_runKept u ?_ still ?_ ?_ other <;> cases runs <;> assumption
    cases runs <;> exact kept

end Sys2Proof.Machine
end

section
/-! PROOFS. Zone setpoints (chapter 3): which operations change a zone's entry, setpoint or code, and
to what, and with it Law 2, Law 1 and the law of the free Regulator Port. -/

namespace Sys2Proof.Machine

open Sys2Proof

/-! ### Entry, setpoint and code of a zone -/

/-- What the zone laws speak of: the entry, the setpoint and the code. -/
def ZoneChannel.core (z : ZoneChannel) : ZoneConfig × Nat × Nat := (z.config, z.setpoint, z.code)

/-- Every zone channel has property `P` of its entry, setpoint and code. -/
def ZoneLaw (P : ZoneConfig × Nat × Nat → Prop) (s : State) : Prop :=
  ∀ c, P (s.zones.get c).core

/-- No zone's entry, setpoint or code has changed. -/
def SameCore (s t : State) : Prop := ∀ c, (t.zones.get c).core = (s.zones.get c).core

theorem SameCore.refl (s : State) : SameCore s s := fun _ => rfl

theorem SameCore.trans {s t u : State} (first : SameCore s t) (second : SameCore t u) :
    SameCore s u := fun c => (second c).trans (first c)

theorem SameCore.next {s t u : State} (second : SameCore t u) (first : SameCore s t) :
    SameCore s u := first.trans second

theorem SameCore.of_zones {s t : State} (same : t.zones = s.zones) : SameCore s t :=
  fun c => by rw [same]

theorem SameCore.setZone {s : State} {c : ZoneCh} {z : ZoneChannel}
    (same : z.core = (s.zones.get c).core) : SameCore s (s.setZone c z) := by
  intro d
  by_cases is : c = d
  · subst is
    simpa using same
  · simp [Tab.get_upd_ne _ _ is]

theorem SameCore.foldl {α : Type} {f : State → α → State} (each : ∀ s a, SameCore s (f s a))
    (l : List α) (s : State) : SameCore s (l.foldl f s) :=
  foldl_keeps (fun _ _ before => before.trans (each _ _)) l (.refl s)

theorem ZoneLaw.same {P : ZoneConfig × Nat × Nat → Prop} {s t : State} (law : ZoneLaw P s)
    (same : SameCore s t) : ZoneLaw P t := fun c => by
  rw [same c]
  exact law c

/-- The core of a zone with entry `e` that is given setpoint `v`. -/
def setCore (e : ZoneConfig) (v : Nat) : ZoneConfig × Nat × Nat :=
  (e, v, regulatorCode (ZoneConfig.effective e).range v)

theorem setSetpoint_core (s : State) (c d : ZoneCh) (v : Nat) :
    ((s.setSetpoint c v).zones.get d).core =
      if c = d then setCore (s.zones.get c).config v else (s.zones.get d).core := by
  rw [State.setSetpoint_zones, Tab.get_upd]
  split <;> rfl

theorem judgeBand_core (z : ZoneChannel) (band len fb : Nat) (stale : Bool) :
    (judgeBand z band len fb stale).1.core = z.core := by
  unfold judgeBand
  dsimp only
  (repeat' split) <;> rfl

theorem bandMonitor_core (h : Head) (band : Nat) (z : Zone) (s : State) :
    SameCore s (bandMonitor h band z s).1 := by
  have judged : SameCore s (s.setZone (zoneCh h z)
      (judgeBand (s.zones.get (zoneCh h z)) band (s.zoneConfig (zoneCh h z)).bandDebounce
        (s.filters.get (chanOfZone (zoneCh h z))).feedback
        (s.filters.get (chanOfZone (zoneCh h z))).stale).1) :=
    .setZone (judgeBand_core _ _ _ _ _)
  unfold bandMonitor
  dsimp only
  split <;> exact judged

theorem overpressureUpdate_core (c : ZoneCh) (fb : Nat) (s : State) :
    SameCore s (overpressureUpdate c fb s) := by
  have same (z : ZoneChannel) (limit len : Nat) :
      (judgeOverpressure z limit len fb).1.core = z.core := by
    unfold judgeOverpressure
    dsimp only
    (repeat' split) <;> rfl
  have judged : SameCore s (s.setZone c (judgeOverpressure (s.zones.get c) (s.zoneConfig c).opLimit
      (s.zoneConfig c).opDebounce fb).1) := .setZone (same _ _ _)
  unfold overpressureUpdate
  dsimp only
  split <;> exact judged

theorem arriveWord_core (w : GaugeBits) (s : State) : SameCore s (arriveWord w s) := by
  have update (c : Chan) (fb : Nat) (u : State) : SameCore u (handUpdate c fb u) := by
    unfold handUpdate
    (repeat' split)
    · exact overpressureUpdate_core _ _ _
    · exact .of_zones rfl
    · exact .refl u
  unfold arriveWord takeSample
  dsimp only
  (repeat' split)
  · exact .of_zones rfl
  · exact .of_zones rfl
  · exact .of_zones rfl
  · exact (update _ _ _).next (.of_zones rfl)
  · exact .of_zones rfl

theorem maskZone_core (h : Head) (s : State) (z : Zone) : SameCore s (maskZone h s z) :=
  .setZone rfl

theorem maskZones_core (h : Head) (s : State) : SameCore s (maskZones h s) :=
  .foldl (maskZone_core h) _ s

theorem countdownZone_core (h : Head) (s : State) (z : Zone) : SameCore s (countdownZone h s z) :=
  .setZone rfl

theorem countdownZones_core (h : Head) (s : State) : SameCore s (countdownZones h s) :=
  .foldl (countdownZone_core h) _ s

theorem startStep_core (h : Head) (p : Fin 16) (idx : Nat) (s : State) :
    SameCore s (startStep h p idx s) := by
  rw [startStep_eq]
  exact (maskZones_core h _).next (.of_zones rfl)

/-- What `deriveZone` writes before the setpoint: the ramp, the settle counter and the limit mark. -/
def derivedMarks (h : Head) (r : StepRecord) (trims : Tab 7 Int) (s : State) (z : Zone) : State :=
  let x := rampAndDifferential h z r (trims.get z) s
  let old := ZoneChannel.countdown (s.zones.get (zoneCh h z))
  let ramping := decide (x.1 ≠ x.2.1)
  s.setZone (zoneCh h z)
    { old with
      ramping := ramping, settle := if old.ramping && !ramping then r.settleMask else old.settle
      diffLimited := decide (x.2.2 ≠ x.1) }

/-- What `clearZone` writes before the setpoint: marks, counter and band monitor cleared. -/
def clearedMarks (h : Head) (s : State) (z : Zone) : State :=
  s.setZone (zoneCh h z)
    { s.zones.get (zoneCh h z) with
      ramping := false, settle := 0, diffLimited := false, debounce := 0, excursion := false
      monitorStale := false }

theorem deriveZone_eq (h : Head) (r : StepRecord) (trims : Tab 7 Int) (s : State) (z : Zone) :
    deriveZone h r trims s z =
      (derivedMarks h r trims s z).setSetpoint (zoneCh h z)
        (clampNat (s.zoneConfig (zoneCh h z)).floor (s.zoneConfig (zoneCh h z)).ceiling
          (rampAndDifferential h z r (trims.get z) s).2.2) := rfl

theorem derivedMarks_core (h : Head) (r : StepRecord) (trims : Tab 7 Int) (s : State) (z : Zone) :
    SameCore s (derivedMarks h r trims s z) := .setZone rfl

theorem derivedMarks_config (h : Head) (r : StepRecord) (trims : Tab 7 Int) (s : State) (z : Zone) :
    ((derivedMarks h r trims s z).zones.get (zoneCh h z)).config =
      (s.zones.get (zoneCh h z)).config := congrArg Prod.fst (derivedMarks_core h r trims s z _)

theorem clearZone_eq_setSetpoint (h : Head) (s : State) (z : Zone) :
    clearZone h s z = (clearedMarks h s z).setSetpoint (zoneCh h z) 0 := rfl

theorem clearedMarks_core (h : Head) (s : State) (z : Zone) : SameCore s (clearedMarks h s z) :=
  .setZone rfl

theorem clearedMarks_config (h : Head) (s : State) (z : Zone) :
    ((clearedMarks h s z).zones.get (zoneCh h z)).config = (s.zones.get (zoneCh h z)).config :=
  congrArg Prod.fst (clearedMarks_core h s z _)

theorem safeMoveZone_eq (h : Head) (s : State) (z : Zone) :
    safeMoveZone h s z =
      s.setSetpoint (zoneCh h z)
        (approach (s.zones.get (zoneCh h z)).setpoint
          (ZoneConfig.effective (s.zones.get (zoneCh h z)).config).safeValue
          (ZoneConfig.effective (s.zones.get (zoneCh h z)).config).safeRate) := rfl

/-! ### The parts of a delivery that change no setpoint -/

theorem safeHoldCause_core (h : Head) (cause : SafeCause) (s : State) :
    SameCore s (safeHoldCause h cause s) := .of_zones (by simp)

theorem endStep_core (h : Head) (s : State) : SameCore s (endStep h s) := by
  have noted : SameCore s (handStepEnd h s) := .of_zones (by simp)
  unfold endStep
  dsimp only
  (repeat' split)
  · exact noted
  · exact (startStep_core _ _ _ _).next noted
  · exact noted

theorem stageEnd_core (h : Head) (skipBefore met : Bool) (s : State) :
    SameCore s (stageEnd h skipBefore met s) := by
  unfold stageEnd
  dsimp only
  split
  · exact .refl s
  next c _ =>
  have noticed : SameCore s
      (match (s.setHead h (countCycle (s.heads.get h) c met)).platenOf h with
        | some p => (s.setHead h (countCycle (s.heads.get h) c met)).hand (.cycleNotice p h)
        | none => s.setHead h (countCycle (s.heads.get h) c met)) := by
    split <;> exact .of_zones rfl
  split
  · exact (endStep_core _ _).next noticed
  · unfold timeoutStep
    dsimp only
    split
    · exact (safeHoldCause_core _ _ _).next (.next (.of_zones rfl) noticed)
    · exact (endStep_core _ _).next (.next (.of_zones rfl) noticed)
  · exact noticed

theorem stageBand_core (h : Head) (s : State) : SameCore s (stageBand h s).1 := by
  have action (a : BandAction) (u : State) : SameCore u (applyBandAction h a u) :=
    .of_zones (by simp)
  refine foldl_keeps (L := fun acc : State × Bool => SameCore s acc.1) (fun acc z before => ?_) _
    (.refl s)
  refine before.trans ?_
  unfold stageBandZone
  dsimp only
  split
  · exact (action _ _).next (bandMonitor_core _ _ _ _)
  · exact bandMonitor_core _ _ _ _

theorem banded_core (h : Head) (d : Delivery) (started : Bool) (s : State) :
    SameCore s (s.banded h d started).1 := by
  unfold State.banded
  dsimp only
  split
  · exact (stageBand_core h _).next (.of_zones rfl)
  · exact .of_zones rfl

/-- A head command changes no entry, setpoint or code, but an accepted CLEAR. -/
theorem applyHeadCommand_core (h : Head) (cmd : HeadCommand) (s : State) :
    SameCore s (applyHeadCommand h cmd s).1 ∨
      (cmd = .clear ∧ (applyHeadCommand h cmd s).1 = clearHead h s) := by
  have stays : SameCore s s := .refl s
  have record (r : HeadRecord) : SameCore s (s.setHead h r) := .of_zones rfl
  have enters (cause : SafeCause) : SameCore s (enterSafeHold h cause s) := .of_zones (by simp)
  cases cmd with
  | nop => exact .inl stays
  | unknown => exact .inl stays
  | start number =>
    have released : SameCore s (s.takeRelease h) := .of_zones (by simp)
    refine .inl ?_
    simp only [applyHeadCommand]
    split
    · unfold startHead
      dsimp only
      (repeat' split)
      · exact stays
      · exact released
      · exact released
      · exact (startStep_core _ _ _ _).next (.next (.of_zones rfl) released)
    all_goals exact stays
  | pause =>
    simp only [applyHeadCommand]
    split
    · exact .inl (record _)
    all_goals exact .inl stays
  | resume =>
    simp only [applyHeadCommand]
    split
    · exact .inl (record _)
    all_goals exact .inl stays
  | skip =>
    simp only [applyHeadCommand]
    split
    · exact .inl (record _)
    all_goals exact .inl stays
  | abort =>
    simp only [applyHeadCommand]
    split
    · exact .inl (enters _)
    · exact .inl (enters _)
    · exact .inl (enters _)
    all_goals exact .inl stays
  | clear =>
    simp only [applyHeadCommand]
    split
    · exact .inl stays
    · exact .inl stays
    · exact .inl stays
    · exact .inr ⟨trivial, rfl⟩
    · split
      · exact .inr ⟨trivial, rfl⟩
      · exact .inl stays

/-- A write to a zone of a RUNNING or PAUSED head changes no zone. -/
theorem applyZone_zones_dropped {c : ZoneCh} {s : State} (isErase : Bool) (e : ZoneConfig)
    (active : (s.heads.get (headOfZone c)).isActive = true) :
    (applyZone isErase c e s).zones = s.zones := by simp [applyZone, active]

/-- An applied write gives its zone the entry, with the setpoint brought under it. -/
theorem applyZone_core {c : ZoneCh} {s : State} (isErase : Bool) (e : ZoneConfig)
    (rests : (s.heads.get (headOfZone c)).isActive = false) (d : ZoneCh) :
    ((applyZone isErase c e s).zones.get d).core =
      if c = d then
        setCore e (setpointUnder (s.heads.get (headOfZone c)).state (ZoneConfig.effective e)
          (s.zones.get c).setpoint)
      else (s.zones.get d).core := by
  have written (v : Nat) :
      (((s.setZone c { s.zones.get c with config := e }).setSetpoint c v).zones.get d).core =
        if c = d then setCore e v else (s.zones.get d).core := by
    rw [setSetpoint_core]
    split
    · simp
    · next apart => simp [Tab.get_upd_ne _ _ apart]
  have applied : (applyZone isErase c e s).zones =
      ((s.setZone c { s.zones.get c with config := e }).setSetpoint c
        (setpointUnder (s.heads.get (headOfZone c)).state (ZoneConfig.effective e)
          (s.zones.get c).setpoint)).zones := by
    unfold applyZone
    simp only [rests, Bool.false_eq_true, if_false]
    split <;> rfl
  rw [applied]
  exact written _

/-- The sequence of a new command to head `h` is learned (R19). -/
def State.learnHead (s : State) (h : Head) (q : Word16) : State :=
  s.setMap { s.map with learnedHead := s.map.learnedHead.upd h (some q) }

theorem newHeadCommand_zones (h : Head) (v : CommandValue) (s : State) :
    (newHeadCommand h v s).zones =
      (applyHeadCommand h (headCommandOf v.code v.arg) (s.learnHead h v.seq)).1.zones := by
  simp [newHeadCommand, State.learnHead]

theorem newHeadCommand_reg (h : Head) (v : CommandValue) (s : State) :
    (newHeadCommand h v s).reg =
      (applyHeadCommand h (headCommandOf v.code v.arg) (s.learnHead h v.seq)).1.reg := by
  simp [newHeadCommand, State.learnHead]

/-- After a new command the head's record is as the command leaves it, with its outcome. -/
theorem newHeadCommand_heads (h : Head) (v : CommandValue) (s : State) :
    let x := applyHeadCommand h (headCommandOf v.code v.arg) (s.learnHead h v.seq)
    (newHeadCommand h v s).heads =
      x.1.heads.upd h { x.1.heads.get h with lastSeq := v.seq, lastOutcome := x.2 } := by
  simp [newHeadCommand, State.learnHead]

/-! ### Laws of every zone -/

/-- What the changes of entries, setpoints and codes ask of a property that they all keep; `ok` is
what a written entry meets. -/
structure KeptByZones (ok : ZoneConfig → Prop) (P : ZoneConfig × Nat × Nat → Prop) : Prop where
  derived : ∀ e v c x, P (e, v, c) →
    P (setCore e (clampNat (ZoneConfig.effective e).floor (ZoneConfig.effective e).ceiling x))
  moved : ∀ e v c, P (e, v, c) →
    P (setCore e (approach v (ZoneConfig.effective e).safeValue (ZoneConfig.effective e).safeRate))
  cleared : ∀ e v c, P (e, v, c) → P (setCore e 0)
  erased : P (setCore .erased 0)
  written : ∀ e st v, ok e → P (setCore e (setpointUnder st (ZoneConfig.effective e) v))

namespace KeptByZones

variable {ok : ZoneConfig → Prop} {P : ZoneConfig × Nat × Nat → Prop} {s : State}
  (K : KeptByZones ok P)

theorem setSetpoint {c : ZoneCh} {v : Nat} (good : P (setCore (s.zones.get c).config v))
    (law : ZoneLaw P s) : ZoneLaw P (s.setSetpoint c v) := by
  intro d
  rw [setSetpoint_core]
  split
  · exact good
  · exact law d

include K

theorem deriveZone (h : Head) (r : StepRecord) (trims : Tab 7 Int) (z : Zone) (law : ZoneLaw P s) :
    ZoneLaw P (deriveZone h r trims s z) := by
  rw [deriveZone_eq]
  refine setSetpoint ?_ (law.same (derivedMarks_core _ _ _ _ _))
  rw [derivedMarks_config]
  exact K.derived _ _ _ _ (law (zoneCh h z))

theorem deriveZones (h : Head) (r : StepRecord) (trims : Tab 7 Int) (law : ZoneLaw P s) :
    ZoneLaw P (deriveZones h r trims s) :=
  foldl_keeps (fun _ z law => K.deriveZone h r trims z law) _ law

theorem clearZones (h : Head) (law : ZoneLaw P s) : ZoneLaw P (clearZones h s) := by
  refine foldl_keeps (fun u z law => ?_) _ law
  rw [clearZone_eq_setSetpoint]
  refine setSetpoint ?_ (law.same (clearedMarks_core _ _ _))
  rw [clearedMarks_config]
  exact K.cleared _ _ _ (law (zoneCh h z))

theorem tickHead (h : Head) (law : ZoneLaw P s) : ZoneLaw P (tickHead s h) := by
  have moved : ZoneLaw P ((List.finRange 7).foldl (safeMoveZone h) s) :=
    foldl_keeps (fun u z law => by
      rw [safeMoveZone_eq]
      exact setSetpoint (K.moved _ _ _ (law (zoneCh h z))) law) _ law
  unfold Machine.tickHead
  split
  · exact moved.same (.of_zones (by simp [safeSettle]))
  · exact law

theorem applyHeadCommand (h : Head) (cmd : HeadCommand) (law : ZoneLaw P s) :
    ZoneLaw P (applyHeadCommand h cmd s).1 := by
  obtain same | ⟨-, is⟩ := applyHeadCommand_core h cmd s
  · exact law.same same
  · rw [is]
    exact (K.clearZones h law).same (.of_zones (by simp [clearHead]))

theorem newHeadCommand (h : Head) (v : CommandValue) (law : ZoneLaw P s) :
    ZoneLaw P (newHeadCommand h v s) :=
  (K.applyHeadCommand (s := s.learnHead h v.seq) h (headCommandOf v.code v.arg) law).same
    (.of_zones (newHeadCommand_zones h v s))

theorem stageCommand (h : Head) (cmd : Option CommandValue) (law : ZoneLaw P s) :
    ZoneLaw P (stageCommand h cmd s) := by
  unfold Machine.stageCommand
  dsimp only
  (repeat' split)
  · exact law
  · exact law
  · exact law
  · exact K.newHeadCommand h _ law

theorem deliverCycle (h : Head) (d : Delivery) (law : ZoneLaw P s) :
    ZoneLaw P (deliverCycle h d s) := by
  have commanded := K.stageCommand h d.command law
  rw [deliverCycle_eq]
  generalize startedStep _ _ = started
  have banded := commanded.same (banded_core h d started _)
  have set : ZoneLaw P (stageSetpoints h
      ((Machine.stageCommand h d.command s).banded h d started).1) := by
    unfold stageSetpoints
    dsimp only
    split
    · exact K.deriveZones _ _ _ banded
    · exact banded
    · exact banded.same (countdownZones_core _ _)
    all_goals exact banded
  unfold State.staged
  dsimp only
  split
  · exact set.same (stageEnd_core _ _ _ _)
  · exact set

theorem applyZone (isErase : Bool) (c : ZoneCh) (e : ZoneConfig) (good : ok e) (law : ZoneLaw P s) :
    ZoneLaw P (applyZone isErase c e s) := by
  intro d
  cases active : (s.heads.get (headOfZone c)).isActive with
  | true =>
    rw [applyZone_zones_dropped _ _ active]
    exact law d
  | false =>
    rw [applyZone_core _ _ active]
    split
    · exact K.written e _ _ good
    · exact law d

theorem resetBlocks (k : ResetKind) (law : ZoneLaw P s) : ZoneLaw P (resetBlocks k s) := by
  intro c
  have at_zero (e : ZoneConfig) (good : P (setCore e 0)) : P (ZoneChannel.afterReset e).core := by
    simpa [setCore, ZoneChannel.core, ZoneChannel.afterReset] using good
  rw [resetBlocks_zones, Tab.get_mapT, ZoneChannel.afterResetOf]
  apply at_zero
  unfold keepOr
  split
  · exact K.cleared _ _ _ (law c)
  · exact K.erased

theorem endTransparent (law : ZoneLaw P s) : ZoneLaw P (endTransparent s) :=
  (K.resetBlocks (.management s.ring.scope) law).same
    (.of_zones (endTransparent_blocks s (f := State.zones) (by simp) (by simp) (by simp)))

theorem powerOn (straps : BitVec 5) (law : ZoneLaw P s) : ZoneLaw P (powerOn straps s) :=
  (K.resetBlocks .powerOn law).same
    (.of_zones (powerOn_blocks straps s (f := State.zones) (by simp) (by simp) (by simp)
      (fun _ => rfl) (fun _ => rfl)))

theorem after_of_acts {c : Instr} (acts : actsOnZones c = true)
    (writes : ∀ z e, c = .zoneWriteApply z e → ok { e with valid := true }) (erases : ok .erased)
    (law : ZoneLaw P s) : ZoneLaw P (s.after c) := by
  have taken : ZoneLaw P (s.takeUp c) := law
  have kick {u : State} (law : ZoneLaw P u) : ZoneLaw P u.kickPort := law.same (.of_zones (by simp))
  cases c <;> cases acts
  case powerOnReset straps =>
    rw [after_powerOnReset]
    exact K.powerOn straps law
  case transparentPeriodEnd =>
    rw [after_transparentPeriodEnd]
    split
    · exact K.endTransparent taken
    · exact taken
  case tick =>
    have keep {u t : State} (same : t.zones = u.zones) (law : ZoneLaw P u) : ZoneLaw P t :=
      law.same (.of_zones same)
    refine tick_induction s ?_ (fun _ law => law) (fun u law => K.endTransparent law)
      (fun u law => kick law)
    exact tickBlocks_induction (keep (by simp) taken) (fun u h law => K.tickHead h law)
      (fun u c => keep (by simp)) (fun u p => keep (by simp)) (fun u p => keep (by simp))
      (fun u p => keep (by simp)) (fun u => keep (by simp)) (fun u i => keep (by simp))
      (fun u g => keep (by simp))
  case cycleDelivery h d => exact kick (K.deliverCycle h d taken)
  case clear h q => exact kick (K.newHeadCommand h _ taken)
  case start | pause | resume | skip | abort | nop => exact K.newHeadCommand _ _ taken
  case gaugeWord w => exact taken.same (arriveWord_core w _)
  case zoneWriteApply z e => exact kick (K.applyZone _ z _ (writes z e rfl) taken)
  case zoneEraseApply z => exact kick (K.applyZone _ z _ erases taken)

/-- Every command keeps the property. -/
theorem after {c : Instr} (writes : ∀ z e, c = .zoneWriteApply z e → ok { e with valid := true })
    (erases : ok .erased) (law : ZoneLaw P s) : ZoneLaw P (s.after c) := by
  cases acts : actsOnZones c with
  | true => exact K.after_of_acts acts writes erases law
  | false => exact law.same (.of_zones (after_zones s acts))

end KeptByZones

/-! ### Law 2, the ceilings and the limits -/

/-- Law 2 of one zone. -/
def coded (z : ZoneConfig × Nat × Nat) : Prop :=
  z.2.2 = regulatorCode (ZoneConfig.effective z.1).range z.2.1

/-- The ceiling part of Law 1, of one zone. -/
def ceiled (z : ZoneConfig × Nat × Nat) : Prop :=
  z.2.1 ≤ (ZoneConfig.effective z.1).ceiling ∧
    (ZoneConfig.effective z.1).safeValue ≤ (ZoneConfig.effective z.1).ceiling

/-- The order of one zone's limits. -/
def ordered (z : ZoneConfig × Nat × Nat) : Prop :=
  (ZoneConfig.effective z.1).floor ≤ (ZoneConfig.effective z.1).ceiling

theorem coded_kept : KeptByZones (fun _ => True) coded where
  derived _ _ _ _ _ := rfl
  moved _ _ _ _ := rfl
  cleared _ _ _ _ := rfl
  erased := rfl
  written _ _ _ _ := rfl

/-- An entry in range, or erased, has its safe value below its ceiling and its limits in order. -/
def limitsGood (e : ZoneConfig) : Prop :=
  (ZoneConfig.effective e).safeValue ≤ (ZoneConfig.effective e).ceiling ∧
    (ZoneConfig.effective e).floor ≤ (ZoneConfig.effective e).ceiling

theorem ceiled_kept : KeptByZones limitsGood ceiled where
  derived _ _ _ _ law := ⟨clampNat_le _ _ _, law.2⟩
  moved _ _ _ law := ⟨(approach_between _ _ _).2.trans (max_le law.1 law.2), law.2⟩
  cleared _ _ _ law := ⟨Nat.zero_le _, law.2⟩
  erased := ⟨Nat.le_refl _, Nat.le_refl _⟩
  written _ st v good := ⟨setpointUnder_le st _ v, good.1⟩

theorem ordered_kept : KeptByZones limitsGood ordered where
  derived _ _ _ _ law := law
  moved _ _ _ law := law
  cleared _ _ _ law := law
  erased := Nat.le_refl _
  written _ _ _ good := good.2

theorem erased_limitsGood : limitsGood .erased := ⟨Nat.le_refl _, Nat.le_refl _⟩

theorem limitsGood_of_inRange {e : ZoneConfig} (good : ZoneConfig.inRange e = true) :
    limitsGood { e with valid := true } := by
  simp only [ZoneConfig.inRange, Bool.and_eq_true, decide_eq_true_eq] at good
  obtain ⟨⟨⟨⟨-, order⟩, -⟩, safe⟩, -⟩ := good
  exact ⟨safe, order⟩

end Sys2Proof.Machine
end

section
/-! PROOFS. What keeps the floors of a head's zones, the law of the free Regulator Port, and with them
Law 2, Law 1 and the free-port law. -/

namespace Sys2Proof.Machine

open Sys2Proof

/-! ### The Regulator Port -/

/-- Once it has started, the port sends or has no mark pending. -/
theorem portLaw_kickPort (s : State) : portLaw s.kickPort := by
  intro free
  cases sends : s.reg.inHand with
  | some c => simp [State.kickPort, sends] at free
  | none =>
    cases lowest : RegulatorPort.lowest s.reg with
    | none =>
      rw [State.kickPort_of_lowest lowest]
      simpa [RegulatorPort.lowest] using lowest
    | some c => simp [State.kickPort, sends, lowest] at free

/-- A head command touches the Regulator Port by an accepted CLEAR alone. -/
theorem applyHeadCommand_reg {h : Head} {cmd : HeadCommand} {s : State} (other : cmd ≠ .clear) :
    (applyHeadCommand h cmd s).1.reg = s.reg := by
  cases cmd with
  | clear => exact absurd rfl other
  | nop | unknown => rfl
  | _ =>
    unfold applyHeadCommand startHead
    dsimp only
    (repeat' split) <;> simp

theorem newHeadCommand_reg_same {h : Head} {v : CommandValue} {s : State}
    (other : headCommandOf v.code v.arg ≠ .clear) : (newHeadCommand h v s).reg = s.reg := by
  rw [newHeadCommand_reg]
  exact applyHeadCommand_reg other

theorem after_of_nextPort {c : Instr} {s u : State} (e : exec c s = nextPort u) :
    s.after c = u.kickPort := (after_of_exec e).symm

theorem powerOn_kicks (straps : BitVec 5) (s : State) : ∃ u : State, powerOn straps s = u.kickPort := by
  unfold powerOn
  exact ⟨_, rfl⟩

theorem endTransparent_kicks (s : State) : ∃ u : State, endTransparent s = u.kickPort := by
  unfold endTransparent
  exact ⟨_, rfl⟩

/-- Every command ends with the start of the Regulator Port, or leaves it as it was. -/
theorem after_port (c : Instr) (s : State) :
    (∃ u : State, s.after c = u.kickPort) ∨ (s.after c).reg = s.reg := by
  have result := exec_eq_after c s
  have command (h : Head) (v : CommandValue) (other : headCommandOf v.code v.arg ≠ .clear) :
      (newHeadCommand h v (s.takeUp c)).reg = s.reg := newHeadCommand_reg_same other
  cases c
  case transparentPeriodEnd =>
    rw [after_transparentPeriodEnd]
    split
    · exact .inl (endTransparent_kicks _)
    · exact .inr rfl
  case tick => exact .inl ⟨_, (after_tick s).trans (takeTick_eq _)⟩
  case powerOnReset straps =>
    obtain ⟨u, is⟩ := powerOn_kicks straps s
    exact .inl ⟨u, is ▸ after_powerOnReset straps s⟩
  case cycleDelivery | clear | regulatorRefresh | regulatorWordDone | zoneWriteApply |
      zoneEraseApply | conditionerCommandDelivery | sweep | park | clearFault | overloadAck |
      stepConditionerCommand | parkRequest | positionUpdate | reachTimeout | dwellEnd | parkTimeout |
      condOverloadNotice | estopNoticeConditioner => exact .inl ⟨_, after_of_nextPort rfl⟩
  case start h p q => exact .inr (command h ⟨1, p, q⟩ (by simp [headCommandOf]))
  case pause h q => exact .inr (command h ⟨2, 0, q⟩ (by simp [headCommandOf]))
  case resume h q => exact .inr (command h ⟨3, 0, q⟩ (by simp [headCommandOf]))
  case skip h q => exact .inr (command h ⟨4, 0, q⟩ (by simp [headCommandOf]))
  case abort h q => exact .inr (command h ⟨5, 0, q⟩ (by simp [headCommandOf]))
  case nop h q => exact .inr (command h ⟨0, 0, q⟩ (by simp [headCommandOf]))
  case inputLevelChange i level => exact .inr (by simp [after_inputLevelChange])
  all_goals
    right
    rw [← Host.Outcome.next.inj result]
    try dsimp only
    (repeat' split) <;> simp [foldl_leaves State.reg]

/-! ### Floors -/

/-- A setpoint at or above its zone's floor. -/
def floored (z : ZoneConfig × Nat × Nat) : Prop := (ZoneConfig.effective z.1).floor ≤ z.2.1

/-- The states in which a head keeps its zones at or above their floors. -/
def HeadRecord.keepsFloors (r : HeadRecord) : Prop :=
  r.state = .running ∨ r.state = .paused ∨ r.state = .done

/-- The zones of head `h` are at or above their floors. -/
def AtFloors (h : Head) (s : State) : Prop := ∀ z, floored (s.zones.get (zoneCh h z)).core

/-- From `s` to `t` no zone of head `h` comes below its floor, if the head keeps them at `t`. -/
def KeepsFloors (h : Head) (s t : State) : Prop :=
  (t.heads.get h).keepsFloors → ∀ z,
    floored (s.zones.get (zoneCh h z)).core → floored (t.zones.get (zoneCh h z)).core

theorem KeepsFloors.of_core {h : Head} {s t : State}
    (same : ∀ z, (t.zones.get (zoneCh h z)).core = (s.zones.get (zoneCh h z)).core) :
    KeepsFloors h s t := fun _ z law => by rwa [same z]

theorem KeepsFloors.of_state {h : Head} {s t : State} (rests : ¬(t.heads.get h).keepsFloors) :
    KeepsFloors h s t := fun keeps => absurd keeps rests

theorem KeepsFloors.of_atFloors {h : Head} {s t : State} (at_ : AtFloors h t) : KeepsFloors h s t :=
  fun _ z _ => at_ z

/-- The zones of head `k` keep entry, setpoint and code when one of head `h` takes a setpoint. -/
theorem setSetpoint_core_other {h k : Head} (ne : k ≠ h) (s : State) (y z : Zone) (v : Nat) :
    ((s.setSetpoint (zoneCh h y) v).zones.get (zoneCh k z)).core =
      (s.zones.get (zoneCh k z)).core := by
  rw [setSetpoint_core, if_neg]
  exact fun is => ne (by simpa using congrArg headOfZone is.symm)

theorem clearZones_core_other {h k : Head} (ne : k ≠ h) (s : State) (z : Zone) :
    ((clearZones h s).zones.get (zoneCh k z)).core = (s.zones.get (zoneCh k z)).core :=
  foldl_keeps (L := fun t : State =>
      (t.zones.get (zoneCh k z)).core = (s.zones.get (zoneCh k z)).core)
    (fun u y before => by
      rw [clearZone_eq_setSetpoint, setSetpoint_core_other ne, clearedMarks_core]
      exact before) _ rfl

theorem deriveZones_core_other {h k : Head} (ne : k ≠ h) (r : StepRecord) (trims : Tab 7 Int)
    (s : State) (z : Zone) :
    ((deriveZones h r trims s).zones.get (zoneCh k z)).core = (s.zones.get (zoneCh k z)).core :=
  foldl_keeps (L := fun t : State =>
      (t.zones.get (zoneCh k z)).core = (s.zones.get (zoneCh k z)).core)
    (fun u y before => by
      rw [deriveZone_eq, setSetpoint_core_other ne, derivedMarks_core]
      exact before) _ rfl

/-- A derived setpoint lies at or above its floor, and leaves those of the other zones alone. -/
theorem deriveZone_floored (h : Head) (r : StepRecord) (trims : Tab 7 Int) {s : State} (y z : Zone)
    (limits : ordered (s.zones.get (zoneCh h y)).core)
    (law : z = y ∨ floored (s.zones.get (zoneCh h z)).core) :
    floored ((deriveZone h r trims s y).zones.get (zoneCh h z)).core := by
  rw [deriveZone_eq, setSetpoint_core]
  split
  · next is =>
    rw [derivedMarks_config]
    exact le_min (le_max_left _ _) limits
  · next ne =>
    rw [derivedMarks_core]
    exact law.resolve_left fun is => ne (by rw [is])

theorem deriveZones_atFloors (h : Head) (r : StepRecord) (trims : Tab 7 Int) {s : State}
    (limits : ZoneLaw ordered s) : AtFloors h (deriveZones h r trims s) := by
  intro z
  have folded (l : List Zone) (s : State) (limits : ZoneLaw ordered s)
      (law : z ∈ l ∨ floored (s.zones.get (zoneCh h z)).core) :
      floored ((l.foldl (deriveZone h r trims) s).zones.get (zoneCh h z)).core := by
    induction l generalizing s with
    | nil => exact law.resolve_left (by simp)
    | cons y l ih =>
      refine ih _ (ordered_kept.deriveZone h r trims y limits) ?_
      by_cases later : z ∈ l
      · exact .inl later
      · exact .inr (deriveZone_floored h r trims y z (limits _)
          (law.imp_left fun mem => (List.mem_cons.mp mem).resolve_right later))
  exact folded _ s limits (.inl (List.mem_finRange z))

/-! ### Floors through the stages of a delivery -/

/-- A band action at most pauses the head or takes it to SAFE_HOLD, and keeps its step. -/
theorem applyBandAction_record (h : Head) (a : BandAction) (s : State) :
    ((applyBandAction h a s).heads.get h).context = (s.heads.get h).context ∧
      (((applyBandAction h a s).heads.get h).state = (s.heads.get h).state ∨
        ((applyBandAction h a s).heads.get h).state = .paused ∨
        ((applyBandAction h a s).heads.get h).state = .safeHold) := by
  unfold applyBandAction safeHoldCause
  (repeat' split) <;> simp [enterSafeHold_eq]

/-- From `s` to `t` the band monitors of head `h` have judged: its step is as it was, and its state,
but that it may be paused or in SAFE_HOLD. -/
def BandJudged (h : Head) (s t : State) : Prop :=
  (t.heads.get h).context = (s.heads.get h).context ∧
    ((t.heads.get h).state = (s.heads.get h).state ∨ (t.heads.get h).state = .paused ∨
      (t.heads.get h).state = .safeHold)

theorem BandJudged.trans {h : Head} {s t u : State} (first : BandJudged h s t)
    (second : BandJudged h t u) : BandJudged h s u := by
  obtain ⟨context, state⟩ := first
  obtain ⟨context', state'⟩ := second
  exact ⟨context'.trans context, by grind⟩

theorem BandJudged.of_heads {h : Head} {s t : State} (same : t.heads = s.heads) :
    BandJudged h s t := ⟨by rw [same], .inl (by rw [same])⟩

theorem stageBand_judged (h : Head) (s : State) : BandJudged h s (stageBand h s).1 := by
  refine foldl_keeps (L := fun acc : State × Bool => BandJudged h s acc.1) (fun acc z before => ?_) _
    (.of_heads rfl)
  have monitored (band : Nat) : BandJudged h s (bandMonitor h band z acc.1).1 :=
    before.trans (.of_heads (by simp))
  unfold stageBandZone
  dsimp only
  split
  · exact (monitored _).trans (applyBandAction_record h _ _)
  · exact monitored _

theorem banded_judged (h : Head) (d : Delivery) (started : Bool) (s : State) :
    BandJudged h s (s.banded h d started).1 := by
  have stored : BandJudged h s (stageInputs h d started s) :=
    ⟨by simp [stageInputs], .inl (by simp [stageInputs])⟩
  unfold State.banded
  dsimp only
  split
  · exact stored.trans (stageBand_judged h _)
  · exact stored

theorem SameCore.atFloors {h : Head} {s t : State} (same : SameCore s t) (law : AtFloors h s) :
    AtFloors h t := fun z => by
  rw [same]
  exact law z

/-- Stages 2 to 5 leave the zones at or above their floors or as they were; they leave them so at a
RUNNING head with a step only where it ends PAUSED or in SAFE_HOLD. -/
theorem staged_floors (h : Head) (d : Delivery) (started skipBefore : Bool) {s : State}
    (limits : ZoneLaw ordered s) :
    AtFloors h (s.staged h d started skipBefore) ∨
      (SameCore s (s.staged h d started skipBefore) ∧
        ((s.heads.get h).state = .running → (∃ c, (s.heads.get h).context = some c) →
          ((s.staged h d started skipBefore).heads.get h).state = .paused ∨
            ((s.staged h d started skipBefore).heads.get h).state = .safeHold)) := by
  have core := banded_core h d started s
  obtain ⟨context, state⟩ := banded_judged h d started s
  have heads (u : State) : (stageSetpoints h u).heads = u.heads := by simp
  unfold State.staged
  dsimp only
  rw [heads]
  generalize s.banded h d started = x at core context state ⊢
  by_cases runs : (x.1.heads.get h).state = .running
  · rw [if_pos runs]
    unfold stageSetpoints
    dsimp only
    cases step : (x.1.heads.get h).context with
    | some c =>
      simp only [runs]
      exact .inl ((stageEnd_core _ _ _ _).atFloors (deriveZones_atFloors h c _ (limits.same core)))
    | none =>
      simp only [runs]
      refine .inr ⟨core.trans (stageEnd_core _ _ _ _), fun _ has => ?_⟩
      obtain ⟨c, is⟩ := has
      simp [← context, step] at is
  · rw [if_neg runs]
    have same : SameCore s (stageSetpoints h x.1) := by
      unfold stageSetpoints
      dsimp only
      split
      · next is _ => exact absurd is runs
      · exact core
      · exact core.trans (countdownZones_core _ _)
      all_goals exact core
    refine .inr ⟨same, fun was _ => ?_⟩
    rw [heads]
    exact state.resolve_left fun is => runs (is.trans was)

/-! ### Floors through head commands -/

theorem clearHead_zones_core (h : Head) (s : State) : SameCore (clearZones h s) (clearHead h s) :=
  .of_zones (by simp [clearHead])

theorem clearHead_state (h : Head) (s : State) : ((clearHead h s).heads.get h).state = .idle := by
  simp [clearHead]

/-- A new command changes no entry, setpoint or code, but where its head comes to IDLE, and then none
of another head. -/
theorem newHeadCommand_core (h : Head) (v : CommandValue) (s : State) :
    SameCore s (newHeadCommand h v s) ∨
      (((newHeadCommand h v s).heads.get h).state = .idle ∧
        ∀ k, k ≠ h → ∀ z, ((newHeadCommand h v s).zones.get (zoneCh k z)).core =
          (s.zones.get (zoneCh k z)).core) := by
  have zones := newHeadCommand_zones h v s
  obtain same | ⟨-, is⟩ := applyHeadCommand_core h (headCommandOf v.code v.arg)
    (s.learnHead h v.seq)
  · exact .inl (same.trans (.of_zones zones))
  · refine .inr ⟨?_, fun k ne z => ?_⟩
    · simpa [newHeadCommand_heads, is] using clearHead_state h _
    · rw [zones, is, clearHead_zones_core, clearZones_core_other ne]
      rfl

theorem newHeadCommand_keepsFloors (h k : Head) (v : CommandValue) (s : State) :
    KeepsFloors k s (newHeadCommand h v s) := by
  obtain same | ⟨idle, others⟩ := newHeadCommand_core h v s
  · exact .of_core fun z => same _
  · by_cases is : k = h
    · subst is
      exact .of_state (by simp [HeadRecord.keepsFloors, idle])
    · exact .of_core (others k is)

/-- A head that a new command takes out of IDLE is RUNNING, in a step. -/
theorem newHeadCommand_started {h : Head} {v : CommandValue} {s : State}
    (idle : (s.heads.get h).state = .idle) (left : ((newHeadCommand h v s).heads.get h).state ≠ .idle) :
    ((newHeadCommand h v s).heads.get h).state = .running ∧
      ∃ c, ((newHeadCommand h v s).heads.get h).context = some c := by
  simp only [newHeadCommand_heads, Tab.get_upd_same] at left ⊢
  cases applyHeadCommand_acts h (headCommandOf v.code v.arg) (s.learnHead h v.seq) with
  | goesOn conduct => exact absurd (conduct.idle.mpr (by simpa [State.learnHead] using idle)) left
  | refuses _ conduct =>
    exact absurd (conduct.idle.mpr (by simpa [State.learnHead] using idle)) left
  | starts number p is started => exact ⟨started.running, started.context⟩
  | clears is cleared => exact absurd cleared.idle left

/-! ### Floors through a delivery -/

theorem stageCommand_keepsFloors (h k : Head) (cmd : Option CommandValue) (s : State) :
    KeepsFloors k s (stageCommand h cmd s) := by
  unfold stageCommand
  dsimp only
  (repeat' split)
  · exact .of_core fun _ => rfl
  · exact .of_core fun _ => rfl
  · exact .of_core fun _ => rfl
  · exact newHeadCommand_keepsFloors h k _ s

theorem stageCommand_started {h : Head} {cmd : Option CommandValue} {s : State}
    (idle : (s.heads.get h).state = .idle) (left : ((stageCommand h cmd s).heads.get h).state ≠ .idle) :
    ((stageCommand h cmd s).heads.get h).state = .running ∧
      ∃ c, ((stageCommand h cmd s).heads.get h).context = some c := by
  unfold stageCommand at left ⊢
  dsimp only at left ⊢
  split
  · exact absurd idle left
  · split
    · next none => exact absurd (by simpa [none] using idle) left
    · next q learned =>
      simp only [learned] at left
      split
      · next seen => exact absurd (by simpa [seen] using idle) left
      · next new =>
        rw [if_neg new] at left
        exact newHeadCommand_started idle left

theorem staged_core_other {h k : Head} (ne : k ≠ h) (d : Delivery) (started skipBefore : Bool)
    (s : State) (z : Zone) :
    ((s.staged h d started skipBefore).zones.get (zoneCh k z)).core =
      (s.zones.get (zoneCh k z)).core := by
  have set (u : State) : ((stageSetpoints h u).zones.get (zoneCh k z)).core =
      (u.zones.get (zoneCh k z)).core := by
    unfold stageSetpoints
    dsimp only
    split
    · exact deriveZones_core_other ne _ _ _ _
    · rfl
    · exact countdownZones_core _ _ _
    all_goals rfl
  have before := (set (s.banded h d started).1).trans (banded_core h d started s _)
  unfold State.staged
  dsimp only
  split
  · exact (stageEnd_core _ _ _ _ _).trans before
  · exact before

/-- The record `r` keeps floors only where it has left IDLE and SAFE_HOLD. -/
theorem HeadRecord.keepsFloors_iff {r : HeadRecord} :
    r.keepsFloors ↔ r.state ≠ .idle ∧ r.state ≠ .safeHold := by
  unfold HeadRecord.keepsFloors
  cases r.state <;> simp

/-- A delivery to head `h` brings no zone of a head below its floor. -/
theorem deliverCycle_keepsFloors (h k : Head) (d : Delivery) {s : State}
    (limits : ZoneLaw ordered s) : KeepsFloors k s (deliverCycle h d s) := by
  have commanded := stageCommand_keepsFloors h k d.command s
  rw [deliverCycle_eq]
  generalize startedStep _ _ = started
  have goes := staged_conduct h d started (s.heads.get h).skip (stageCommand h d.command s)
  intro keeps z law
  by_cases is : k = h
  · subst is
    obtain at_ | ⟨same, -⟩ := staged_floors k d started (s.heads.get k).skip
      (ordered_kept.stageCommand k d.command limits)
    · exact at_ z
    · rw [HeadRecord.keepsFloors_iff, ne_eq, goes.idle] at keeps
      rw [same]
      exact commanded (HeadRecord.keepsFloors_iff.mpr ⟨keeps.1, fun hold => keeps.2 (goes.hold hold)⟩)
        z law
  · rw [staged_core_other is]
    rw [goes.others k is] at keeps
    exact commanded keeps z law

/-- A delivery that takes its head out of IDLE leaves the zones at or above their floors, but where it
pauses the head. -/
theorem deliverCycle_atFloors {h : Head} {d : Delivery} {s : State} (limits : ZoneLaw ordered s)
    (idle : (s.heads.get h).state = .idle)
    (keeps : ((deliverCycle h d s).heads.get h).keepsFloors)
    (runs : ((deliverCycle h d s).heads.get h).state ≠ .paused) :
    AtFloors h (deliverCycle h d s) := by
  rw [deliverCycle_eq] at keeps runs ⊢
  generalize startedStep _ _ = started at keeps runs ⊢
  have goes := staged_conduct h d started (s.heads.get h).skip (stageCommand h d.command s)
  rw [HeadRecord.keepsFloors_iff] at keeps
  obtain ⟨left, held⟩ := keeps
  rw [ne_eq, goes.idle] at left
  obtain ⟨running, step⟩ := stageCommand_started idle left
  obtain at_ | ⟨-, ends⟩ := staged_floors h d started (s.heads.get h).skip
    (ordered_kept.stageCommand h d.command limits)
  · exact at_
  · exact absurd (ends running step) (by simp [runs, held])

/-! ### Floors through every command -/

theorem clampNat_floored {e : ZoneConfig} (good : limitsGood e) (v : Nat) :
    floored (setCore e (clampNat (ZoneConfig.effective e).floor (ZoneConfig.effective e).ceiling v)) :=
  le_min (le_max_left _ _) good.2

theorem applyZone_keepsFloors (isErase : Bool) (c : ZoneCh) (e : ZoneConfig) (good : limitsGood e)
    (h : Head) (s : State) : KeepsFloors h s (applyZone isErase c e s) := by
  cases active : (s.heads.get (headOfZone c)).isActive with
  | true => exact .of_core fun z => by rw [applyZone_zones_dropped _ _ active]
  | false =>
    intro keeps z law
    rw [applyZone_core _ _ active]
    split
    · next is =>
      obtain rfl : headOfZone c = h := by simp [is]
      have goes := applyZone_conduct isErase c e s
      rw [HeadRecord.keepsFloors_iff, ne_eq, goes.idle] at keeps
      have left : (s.heads.get (headOfZone c)).state ≠ .safeHold :=
        fun hold => keeps.2 (goes.hold hold)
      cases st : (s.heads.get (headOfZone c)).state with
      | idle => exact absurd st keeps.1
      | safeHold => exact absurd st left
      | running | paused | done => exact clampNat_floored good _
    · exact law

theorem KeepsFloors.after {s t u : State} {h : Head} (first : KeepsFloors h s t)
    (second : KeepsFloors h t u) (heads : (u.heads.get h).keepsFloors → (t.heads.get h).keepsFloors) :
    KeepsFloors h s u := fun keeps z law => second keeps z (first (heads keeps) z law)

theorem tick_keepsFloors (h : Head) (s : State) : KeepsFloors h s (s.after .tick) := by
  have ends (u : State) : KeepsFloors h s (endTransparent u) :=
    .of_state (by simp [HeadRecord.keepsFloors, endTransparent_heads, HeadRecord.afterReset])
  have same {u t : State} (heads : t.heads = u.heads) (zones : t.zones = u.zones)
      (keeps : KeepsFloors h s u) : KeepsFloors h s t := by
    rwa [KeepsFloors, heads, zones]
  refine tick_induction s ?_ (fun u => same rfl rfl) (fun u _ => ends u)
    (fun u => same (by simp) (by simp))
  have part := tickBlocks_headPart h (s.takeUp .tick)
  rw [safeTicked] at part
  split at part
  · next hold =>
    have record : ((tickBlocks (s.takeUp .tick)).heads.get h).state = .safeHold :=
      (congrArg (fun x => x.1.state) part).trans hold
    exact .of_state (by simp [HeadRecord.keepsFloors, record])
  · refine .of_core fun z => ?_
    have zone := congrFun (congrArg Prod.snd part) z
    exact congrArg ZoneChannel.core zone

theorem KeepsFloors.kickPort {h : Head} {s t : State} (keeps : KeepsFloors h s t) :
    KeepsFloors h s t.kickPort := by
  simpa [KeepsFloors] using keeps

theorem after_keepsFloors_of_acts {c : Instr} {s : State} (h : Head) (limits : ZoneLaw ordered s)
    (writes : ∀ z e, c = .zoneWriteApply z e → limitsGood { e with valid := true })
    (acts : actsOnZones c = true) : KeepsFloors h s (s.after c) := by
  cases c <;> cases acts
  case powerOnReset straps =>
    rw [after_powerOnReset]
    exact .of_state (by simp [HeadRecord.keepsFloors, powerOn_heads, HeadRecord.afterReset])
  case transparentPeriodEnd =>
    rw [after_transparentPeriodEnd]
    split
    · exact .of_state (by simp [HeadRecord.keepsFloors, endTransparent_heads, HeadRecord.afterReset])
    · exact .of_core fun _ => rfl
  case tick => exact tick_keepsFloors h s
  case cycleDelivery k d =>
    exact (deliverCycle_keepsFloors k h d (s := s.takeUp (.cycleDelivery k d)) limits).kickPort
  case clear k q => exact (newHeadCommand_keepsFloors k h ⟨6, 0, q⟩ (s.takeUp (.clear k q))).kickPort
  case start k p q => exact newHeadCommand_keepsFloors k h ⟨1, p, q⟩ (s.takeUp (.start k p q))
  case pause k q => exact newHeadCommand_keepsFloors k h ⟨2, 0, q⟩ (s.takeUp (.pause k q))
  case resume k q => exact newHeadCommand_keepsFloors k h ⟨3, 0, q⟩ (s.takeUp (.resume k q))
  case skip k q => exact newHeadCommand_keepsFloors k h ⟨4, 0, q⟩ (s.takeUp (.skip k q))
  case abort k q => exact newHeadCommand_keepsFloors k h ⟨5, 0, q⟩ (s.takeUp (.abort k q))
  case nop k q => exact newHeadCommand_keepsFloors k h ⟨0, 0, q⟩ (s.takeUp (.nop k q))
  case gaugeWord w => exact .of_core fun z => arriveWord_core w (s.takeUp (.gaugeWord w)) _
  case zoneWriteApply z e =>
    exact (applyZone_keepsFloors false z { e with valid := true } (writes z e rfl) h
      (s.takeUp (.zoneWriteApply z e))).kickPort
  case zoneEraseApply z =>
    exact (applyZone_keepsFloors true z .erased erased_limitsGood h
      (s.takeUp (.zoneEraseApply z))).kickPort

/-- No command brings a zone of a head below its floor where the head keeps them. -/
theorem after_keepsFloors {c : Instr} {s : State} (h : Head) (limits : ZoneLaw ordered s)
    (writes : ∀ z e, c = .zoneWriteApply z e → limitsGood { e with valid := true }) :
    KeepsFloors h s (s.after c) := by
  cases acts : actsOnZones c with
  | false => exact .of_core fun z => by rw [after_zones s acts]
  | true => exact after_keepsFloors_of_acts h limits writes acts

/-- A head comes to keep its floors from IDLE alone. -/
theorem after_keeps_of_keeps {c : Instr} {s : State} {h : Head} (busy : (s.heads.get h).state ≠ .idle)
    (keeps : ((s.after c).heads.get h).keepsFloors) : (s.heads.get h).keepsFloors := by
  obtain ⟨left, held⟩ := HeadRecord.keepsFloors_iff.mp keeps
  refine HeadRecord.keepsFloors_iff.mpr ⟨busy, fun hold => left ?_⟩
  exact (safeHoldLeftOnlyByClear c h s (s.after c) (exec_eq_after c s) hold held).1

/-! ### The laws -/

theorem Runs.record_good {s u : State} {c : Instr} (runs : Runs s c u) (commands : Machine.commandsGood s)
    (law : stagedLaw s) : goodRecord c = true := by
  cases runs with
  | command rest front =>
    have good : wellFormed c = true := commands c (by simp [front])
    simp only [wellFormed, Bool.and_eq_true] at good
    exact good.1.1
  | handed rest none front => exact ((stagedLaw_iff.mp law).1 c (by simp [front])).1

theorem goodRecord_limitsGood {z : ZoneCh} {e : ZoneConfig}
    (good : goodRecord (.zoneWriteApply z e) = true) : limitsGood { e with valid := true } :=
  limitsGood_of_inRange (Bool.and_eq_true_iff.mp good).2

theorem codeLaw_iff {s : State} : codeLaw s ↔ ZoneLaw coded s := Iff.rfl

theorem ceilingLaw_iff {s : State} : ceilingLaw s ↔ ZoneLaw ceiled s := Iff.rfl

theorem atFloors_iff {h : Head} {s : State} :
    atFloors h s ↔ ((s.heads.get h).keepsFloors → AtFloors h s) := Iff.rfl

theorem Runs.delivers {s u : State} {c : Instr} {h : Head} {d : Delivery} {rest : List Instr}
    (runs : Runs s c u)
    (front : s.pending = .cycleDelivery h d :: rest ∨
      (s.pending = [] ∧ s.handed = .cycleDelivery h d :: rest)) : c = .cycleDelivery h d := by
  have first := runs.front
  obtain is | ⟨none, is⟩ := front
  · simpa [is] using first.symm
  · simpa [none, is] using first.symm

theorem after_delivery_atFloors {h : Head} {d : Delivery} {s : State} (limits : ZoneLaw ordered s)
    (idle : (s.heads.get h).state = .idle)
    (keeps : ((s.after (.cycleDelivery h d)).heads.get h).keepsFloors)
    (runs : ((s.after (.cycleDelivery h d)).heads.get h).state ≠ .paused) :
    AtFloors h (s.after (.cycleDelivery h d)) := by
  have is : s.after (.cycleDelivery h d) =
      (deliverCycle h d (s.takeUp (.cycleDelivery h d))).kickPort := rfl
  simp only [is, AtFloors, State.kickPort_frame] at keeps runs ⊢
  exact deliverCycle_atFloors (s := s.takeUp (.cycleDelivery h d)) limits idle keeps runs

/-- Settles O56: Law 2 and the ceilings are laws of each zone that every change of an entry, setpoint
or code keeps; the floors are kept by each command where the head was not IDLE, and brought about by
the delivery that starts it; and what touches the port ends with its start. -/
theorem setpointLawsKept : Obligations.SetpointLawsKept := by
  refine ⟨fun s t law e => ?_, fun s t commands staged law e => ?_, fun s t law e => ?_,
    fun s t commands staged law e => ?_⟩
  · exact step_keeps (L := codeLaw) (fun _ _ law => law)
      (fun c s law => coded_kept.after (fun _ _ _ => trivial) trivial law) law e
  · obtain rfl | ⟨c, u, runs, rfl⟩ := step_cases e
    · exact law
    · have good := runs.record_good commands staged
      exact ceiled_kept.after (fun z e is => goodRecord_limitsGood (is ▸ good)) erased_limitsGood
        (runs.law (L := ceilingLaw) (fun _ _ law => law) law)
  · refine step_keeps (L := portLaw) (fun _ _ law => law) (fun c s law => ?_) law e
    obtain ⟨u, is⟩ | same := after_port c s
    · exact is ▸ portLaw_kickPort u
    · rwa [portLaw, same]
  · obtain rfl | ⟨c, u, runs, rfl⟩ := step_cases e
    · exact ⟨law.1, fun h _ => law.2 h⟩
    have good := runs.record_good commands staged
    have writes (z : ZoneCh) (e : ZoneConfig) (is : c = .zoneWriteApply z e) :
        limitsGood { e with valid := true } := goodRecord_limitsGood (is ▸ good)
    obtain ⟨limits, floors⟩ := runs.law (L := floorLaw) (fun _ _ law => law) law
    refine ⟨ordered_kept.after writes erased_limitsGood limits, fun h from_ => ?_⟩
    refine atFloors_iff.mpr fun keeps => ?_
    by_cases idle : (u.heads.get h).state = .idle
    · obtain busy | ⟨moves, d, rest, front⟩ := from_
      · exact absurd (runs.law (L := fun x => (x.heads.get h).state ≠ .idle) (fun _ _ l => l) busy)
          (not_not.mpr idle)
      · obtain rfl := runs.delivers front
        exact after_delivery_atFloors limits idle keeps moves
    · exact fun z => after_keepsFloors h limits writes keeps z
        (floors h (after_keeps_of_keeps idle keeps) z)

end Sys2Proof.Machine
end

section
/-! PROOFS. One part at a tick: what the tick's blocks do to a part that one of them acts on, and what
that block hands; then the inputs (chapter 11) and the writes to the Cell Map and to an input. -/

namespace Sys2Proof.Machine

open Sys2Proof

/-! ### One part at a tick -/

/-- A tick that ends no transparent period is the blocks' tick, at most counted in the ring, and the
start of the Regulator Port. -/
theorem after_tick_goesOn {s : State} (goesOn : tickGoesOn s) :
    s.after .tick = (tickBlocks (s.takeUp .tick)).kickPort ∨
      s.after .tick = (tickBlocks (s.takeUp .tick)).countReset.kickPort := by
  have stays : (tickBlocks (s.takeUp .tick)).ring.transparent = true →
      ¬(5 ≤ (tickBlocks (s.takeUp .tick)).countReset.ring.resetTicks ∧
        (tickBlocks (s.takeUp .tick)).countReset.resetAwaits = false) := by
    rintro mark ⟨late, taken⟩
    obtain early | waits := goesOn (by simpa using mark)
    · simp [State.countReset] at late
      omega
    · have awaits : (tickBlocks (s.takeUp .tick)).countReset.resetAwaits = true := by
        rw [State.resetAwaits_iff]
        simpa [State.countReset] using waits
      simp [awaits] at taken
  rw [after_tick, takeTick_eq]
  unfold tickTransparent
  by_cases clear : (tickBlocks (s.takeUp .tick)).ring.transparent = false
  · exact .inl (by rw [if_pos clear])
  · rw [if_neg clear]
    have mark : (tickBlocks (s.takeUp .tick)).ring.transparent = true := by simpa using clear
    exact .inr (congrArg State.kickPort (if_neg (stays mark)))

/-- A part that the ring's count and the port leave alone is, after a tick that ends no transparent
period, as the blocks leave it. -/
theorem after_tick_part {s : State} (goesOn : tickGoesOn s) {β : Type} (f : State → β)
    (count : ∀ u, f (State.countReset u) = f u) (port : ∀ u, f (State.kickPort u) = f u) :
    f (s.after .tick) = f (tickBlocks (s.takeUp .tick)) := by
  obtain e | e := after_tick_goesOn goesOn <;> rw [e, port]
  exact count _

theorem after_tick_handed {s : State} (goesOn : tickGoesOn s) :
    (s.after .tick).handed = (tickBlocks (s.takeUp .tick)).handed :=
  after_tick_part goesOn State.handed (fun _ => rfl) (by simp)

theorem exec_tick (s : State) : exec .tick s = .next (s.after .tick) := exec_eq_after .tick s

/-- What the block at `b` hands where its own part is as at first, the fold over all hands. -/
theorem foldl_hands_once {α β : Type} (f : State → β) {g : State → α → State} {b : α}
    (other : ∀ s a, a ≠ b → f (g s a) = f s) (hands : ∀ s a, Hands s (g s a)) {l : List α}
    (nodup : l.Nodup) (mem : b ∈ l) {s : State} {i : Instr}
    (made : ∀ u, f u = f s → i ∈ (g u b).handed) : i ∈ (l.foldl g s).handed := by
  obtain ⟨before, after, rfl⟩ := List.append_of_mem mem
  have notBefore : b ∉ before := fun there => by
    simpa [there] using (List.nodup_cons.mp (List.nodup_middle.mp nodup)).1
  rw [List.foldl_append, List.foldl_cons]
  exact (Hands.foldl hands after (.refl _)).mem
    (made _ (foldl_leaves_of_not_mem f g b other notBefore s))

/-! ### One input -/

/-- Input `i` becomes `u`, and what follows from that is handed. -/
theorem updateInput_eq (i : Fin 16) (u : InputUnit) (s : State) :
    updateInput i u s =
      { s with inputs := s.inputs.upd i u, handed := s.handed ++ inputChanges i u s } := by
  unfold updateInput inputChanges
  dsimp only
  split
  · simp [State.setInput]
  · cases InputConfig.function u.config with
    | none => simp [State.setInput, State.raise, State.hand, State.setHanded,
        InputUnit.asserted]
    | some f =>
      dsimp only
      split
      · cases f <;>
          simp [State.setInput, State.raise, State.hand, State.handAll,
            State.setHanded, InputUnit.asserted, risingNotices]
      · simp [State.setInput, State.raise, State.hand, State.setHanded,
          InputUnit.asserted]

/-- Whether an input is active depends on its entry, its filtered level and its latch alone. -/
theorem isActive_congr {u v : InputUnit} (config : v.config = u.config)
    (filtered : v.filtered = u.filtered) (latch : v.latch = u.latch) :
    InputUnit.isActive v = InputUnit.isActive u := by
  simp [InputUnit.isActive, InputUnit.asserted, config, filtered, latch]

theorem functionActive_eq_true {s : State} {f : InputFunction} :
    s.functionActive f = true ↔
      ∃ i, InputUnit.isActive (s.inputs.get i) = true ∧
        InputConfig.function (s.inputs.get i).config = some f := by
  simp [State.functionActive, List.any_eq_true, Tab.mem_entries]

/-- An input that keeps its entry and its active state keeps every function's. -/
theorem functionActive_setInput {s : State} {i : Fin 16} {u : InputUnit} (f : InputFunction)
    (config : u.config = (s.inputs.get i).config)
    (active : InputUnit.isActive u = InputUnit.isActive (s.inputs.get i)) :
    (s.setInput i u).functionActive f = s.functionActive f := by
  rw [Bool.eq_iff_iff, functionActive_eq_true, functionActive_eq_true]
  refine exists_congr fun j => ?_
  by_cases is : i = j
  · subst is
    simp [config, active]
  · simp [Tab.get_upd_ne _ _ is]

theorem inputChanges_setInput {s : State} {i : Fin 16} {u : InputUnit} (v : InputUnit)
    (config : u.config = (s.inputs.get i).config)
    (active : InputUnit.isActive u = InputUnit.isActive (s.inputs.get i)) :
    inputChanges i v (s.setInput i u) = inputChanges i v s := by
  simp [inputChanges, functionActive_setInput _ config active, active]

theorem inputChanges_takeUp (i : Fin 16) (u : InputUnit) (c : Instr) (s : State) :
    inputChanges i u (s.takeUp c) = inputChanges i u s := rfl

/-- An input whose filtered level takes the raw one. -/
def InputUnit.settled (u : InputUnit) : InputUnit :=
  { u with
    filtered := u.raw
    latch := u.latch || (u.raw == u.config.polarity && u.config.mode == .latched) }

/-- The latch is set by an assertion, which an unsettled level alone can be. -/
theorem latchOn_settled {u : InputUnit} (moves : u.raw ≠ u.filtered) :
    latchOn (InputUnit.asserted u) { u with filtered := u.raw } = u.settled := by
  obtain ⟨config, raw, filtered, stability, latch⟩ := u
  have rises : raw = config.polarity → (filtered == config.polarity) = false := by
    rintro rfl
    simpa using Ne.symm moves
  unfold latchOn InputUnit.settled InputUnit.asserted
  by_cases asserted : raw = config.polarity
  · by_cases latched : config.mode = .latched
    · simp [rises asserted, asserted, latched]
    · simp [latched]
  · simp [asserted]

theorem settleInput_eq {i : Fin 16} {s : State}
    (moves : (s.inputs.get i).raw ≠ (s.inputs.get i).filtered) :
    settleInput i s = updateInput i (s.inputs.get i).settled s := by
  rw [settleInput, latchOn_settled moves]

/-- An input that an unseen change of its raw level or count precedes settles from the input it was. -/
theorem settleInput_setInput {i : Fin 16} {s : State} {u : InputUnit}
    (config : u.config = (s.inputs.get i).config) (filtered : u.filtered = (s.inputs.get i).filtered)
    (latch : u.latch = (s.inputs.get i).latch) (moves : u.raw ≠ u.filtered) :
    settleInput i (s.setInput i u) =
      { s with
        inputs := s.inputs.upd i u.settled, handed := s.handed ++ inputChanges i u.settled s } := by
  have at_i : (s.setInput i u).inputs.get i = u := by simp
  have changes := inputChanges_setInput (s := s) u.settled config (isActive_congr config filtered latch)
  rw [settleInput_eq (by rwa [at_i]), updateInput_eq, at_i, changes]
  simp

/-- The unit of an input after the input's part of a tick. -/
def InputUnit.ticked (u : InputUnit) : InputUnit :=
  if u.raw = u.filtered then u
  else
    let counted := { u with stability := min (u.stability + 1) 15 }
    if u.config.filter ≤ u.stability + 1 then counted.settled else counted

theorem tickInput_eq {i : Fin 16} {s : State} (moves : (s.inputs.get i).raw ≠ (s.inputs.get i).filtered)
    (due : (s.inputs.get i).config.filter ≤ (s.inputs.get i).stability + 1) :
    tickInput s i =
      { s with
        inputs := s.inputs.upd i (s.inputs.get i).ticked
        handed := s.handed ++ inputChanges i (s.inputs.get i).ticked s } := by
  unfold tickInput InputUnit.ticked
  simp only [if_neg moves, if_pos due]
  exact settleInput_setInput rfl rfl rfl moves

theorem tickInput_inputs_same (i : Fin 16) (s : State) :
    (tickInput s i).inputs.get i = (s.inputs.get i).ticked := by
  by_cases settled : (s.inputs.get i).raw = (s.inputs.get i).filtered
  · simp [tickInput, InputUnit.ticked, settled]
  · by_cases due : (s.inputs.get i).config.filter ≤ (s.inputs.get i).stability + 1
    · rw [tickInput_eq settled due]
      exact Tab.get_upd_same _ _ _
    · simp [tickInput, InputUnit.ticked, settled, due]

theorem updateInput_inputs_ne {i j : Fin 16} (ne : j ≠ i) (u : InputUnit) (s : State) :
    (updateInput j u s).inputs.get i = s.inputs.get i := by
  rw [updateInput_eq]
  exact Tab.get_upd_ne _ _ ne

theorem tickInput_inputs_ne {i j : Fin 16} (ne : j ≠ i) (s : State) :
    (tickInput s j).inputs.get i = s.inputs.get i := by
  unfold tickInput
  dsimp only
  (repeat' split)
  · rfl
  · rw [settleInput, updateInput_inputs_ne ne]
    simp [Tab.get_upd_ne _ _ ne]
  · simp [Tab.get_upd_ne _ _ ne]

theorem tickField_inputs (s : State) : (tickField s).inputs = s.inputs := by
  simp [tickField, foldl_leaves State.inputs]

theorem tickBlocks_inputs (i : Fin 16) (s : State) :
    (tickBlocks s).inputs.get i = (s.inputs.get i).ticked := by
  have folded := foldl_acts_once (fun s : State => s.inputs.get i) InputUnit.ticked tickInput i
    (tickInput_inputs_same i) (fun s _ ne => tickInput_inputs_ne ne s) (List.nodup_finRange 16)
    (List.mem_finRange i) (tickPort (tickField { advanceTime (1000 - s.phase) s with phase := 0 }))
  have before : (tickPort (tickField { advanceTime (1000 - s.phase) s with phase := 0 })).inputs =
      s.inputs := by simp [tickField_inputs]
  rw [before] at folded
  exact Eq.trans (by simp [tickBlocks]) folded

theorem tickVerifier_hands (s : State) : Hands s (tickVerifier s) :=
  .foldl (fun s g => tickGroup_hands s g) _ (.refl s)

/-- What an input hands as it settles at a tick is in what the tick hands. -/
theorem tickBlocks_input_handed {i : Fin 16} {s : State} {c : Instr}
    (made : ∀ u : State, u.inputs.get i = s.inputs.get i → c ∈ (tickInput u i).handed) :
    c ∈ (tickBlocks s).handed := by
  refine (tickVerifier_hands _).mem ?_
  refine foldl_hands_once (fun s : State => s.inputs.get i) (fun s _ ne => tickInput_inputs_ne ne s)
    tickInput_hands (List.nodup_finRange 16) (List.mem_finRange i) fun u same => made u (same.trans ?_)
  simp [tickField_inputs]

theorem inputChanges_raise {i : Fin 16} {u : InputUnit} {s : State}
    (changes : InputUnit.isActive u ≠ InputUnit.isActive (s.inputs.get i)) :
    .eventRaise .inputChange (.input i) (inputDetail u.config)
        (detail (boolCode (InputUnit.isActive u)) (boolCode (u.filtered == u.config.polarity))) ∈
      inputChanges i u s := by
  simp [inputChanges, changes]

/-- A raw level that changes short of settling restarts the count alone. -/
theorem changeLevel_new {i : Fin 16} {level : Bool} {s : State} (new : level ≠ (s.inputs.get i).raw)
    (stays : level = (s.inputs.get i).filtered ∨ (s.inputs.get i).config.filter ≠ 0) :
    changeLevel i level s = s.setInput i { s.inputs.get i with raw := level, stability := 0 } := by
  have unsettled : ¬(level ≠ (s.inputs.get i).filtered ∧ (s.inputs.get i).config.filter = 0) := by
    rintro ⟨moves, zero⟩
    exact stays.elim moves fun filter => filter zero
  simp only [changeLevel, if_neg new, if_neg unsettled]

theorem changeLevel_settles {i : Fin 16} {level : Bool} {s : State}
    (new : level ≠ (s.inputs.get i).raw) (moves : level ≠ (s.inputs.get i).filtered)
    (filter : (s.inputs.get i).config.filter = 0) :
    let u := InputUnit.settled { s.inputs.get i with raw := level, stability := 0 }
    changeLevel i level s =
      { s with inputs := s.inputs.upd i u, handed := s.handed ++ inputChanges i u s } := by
  simp only [changeLevel, if_neg new, if_pos (And.intro moves filter)]
  exact settleInput_setInput rfl rfl rfl moves

/-- What an unsettled input comes to at a tick before its filter time. -/
theorem ticked_counted {u : InputUnit} (moves : u.raw ≠ u.filtered)
    (early : u.stability + 1 < u.config.filter) :
    u.ticked = { u with stability := min (u.stability + 1) 15 } := by
  simp [InputUnit.ticked, moves, Nat.not_le.mpr early]

theorem ticked_settled {u : InputUnit} (moves : u.raw ≠ u.filtered)
    (due : u.config.filter ≤ u.stability + 1) :
    u.ticked = InputUnit.settled { u with stability := min (u.stability + 1) 15 } := by
  simp [InputUnit.ticked, moves, due]

theorem after_tick_inputs {s : State} (goesOn : tickGoesOn s) (i : Fin 16) :
    (s.after .tick).inputs.get i = (s.inputs.get i).ticked :=
  (congrArg (Tab.get · i) (after_tick_part goesOn State.inputs (fun _ => rfl) (by simp))).trans
    (tickBlocks_inputs i (s.takeUp .tick))

/-- An input that settles at a tick raises the change of its active state. -/
theorem after_tick_inputChange {s : State} (goesOn : tickGoesOn s) {i : Fin 16}
    (moves : (s.inputs.get i).raw ≠ (s.inputs.get i).filtered)
    (due : (s.inputs.get i).config.filter ≤ (s.inputs.get i).stability + 1)
    (changes : InputUnit.isActive (s.inputs.get i).ticked ≠ InputUnit.isActive (s.inputs.get i)) :
    let u := (s.inputs.get i).ticked
    .eventRaise .inputChange (.input i) (inputDetail u.config)
        (detail (boolCode (InputUnit.isActive u)) (boolCode (u.filtered == u.config.polarity))) ∈
      (s.after .tick).handed := by
  rw [after_tick_handed goesOn]
  refine tickBlocks_input_handed (i := i) fun u same => ?_
  have same : u.inputs.get i = s.inputs.get i := same
  rw [← same] at moves due changes ⊢
  rw [tickInput_eq moves due]
  exact List.mem_append_right _ (inputChanges_raise changes)

/-- Settles O53: each row is `updateInput` on the input it leaves, and at a tick each input is its
own. -/
theorem inputsAreFiltered : Obligations.InputsAreFiltered := by
  intro i s u settled becomes
  refine ⟨fun level => ?_, ⟨fun same => ?_, fun moves => ?_⟩, fun goesOn => ?_, fun asserted => ?_,
    fun rests => ?_⟩
  · dsimp only
    rw [exec_inputLevelChange]
    exact ⟨fun same => congrArg _ (if_pos same),
      fun new stays => congrArg _ (changeLevel_new new stays),
      fun new moves filter => congrArg _ (changeLevel_settles new moves filter)⟩
  · exact congrArg _ (if_pos same)
  · have unit : (s.takeUp (.inputFilterSettled i)).inputs.get i = u := rfl
    refine congrArg Host.Outcome.next ((if_neg moves).trans ?_)
    rw [settleInput_eq (by rwa [unit]), updateInput_eq]
    rfl
  · refine ⟨_, exec_tick s, fun same => ?_, fun moves early => ?_, fun ⟨moves, due⟩ => ?_⟩
    · rw [after_tick_inputs goesOn]
      exact if_pos same
    · rw [after_tick_inputs goesOn]
      exact ticked_counted moves early
    · refine ⟨(after_tick_inputs goesOn i).trans (ticked_settled moves due), fun changes => ?_⟩
      have settles := ticked_settled moves due
      have raised := after_tick_inputChange goesOn moves due (settles ▸ changes)
      rw [settles] at raised
      exact raised
  · refine congrArg _ ((if_pos ?_).trans rfl)
    exact beq_iff_eq.mpr asserted
  · refine congrArg _ ((if_neg ?_).trans (updateInput_eq _ _ _))
    exact fun is => rests (beq_iff_eq.mp is)

/-! ### Writes to an input and to the Cell Map -/

theorem isActive_reconfigure {e : InputConfig} {u : InputUnit} :
    InputUnit.isActive
        { u with config := e, latch := u.filtered == e.polarity && e.mode == .latched } = true ↔
      u.filtered = e.polarity ∧ e.fn ≠ .none := by
  cases mode : e.mode <;> simp [InputUnit.isActive, InputUnit.asserted, mode, and_comm]

theorem reconfigure_eq (e : InputConfig) (u : InputUnit) :
    reconfigure e u =
      { u with config := e, latch := u.filtered == e.polarity && e.mode == .latched } := by
  unfold reconfigure latchOn InputUnit.asserted
  by_cases asserted : u.filtered = e.polarity <;> by_cases latched : e.mode = .latched <;>
    simp [asserted, latched]

/-- An input without a function changes nothing but itself. -/
theorem inputChanges_none {i : Fin 16} {u : InputUnit} {s : State} (none : u.config.fn = .none)
    (rests : InputUnit.isActive (s.inputs.get i) = false) : inputChanges i u s = [] := by
  have inactive : InputUnit.isActive u = false := by simp [InputUnit.isActive, none]
  simp [inputChanges, inactive, rests]

theorem applyInput_active {i : Fin 16} {s : State} (isErase : Bool) (e : InputConfig)
    (active : InputUnit.isActive (s.inputs.get i) = true) :
    applyInput isErase i e s = raiseInputDropped i (dropDetail .input isErase) s := if_pos active

theorem applyInput_inactive {i : Fin 16} {s : State} (isErase : Bool) (e : InputConfig)
    (rests : InputUnit.isActive (s.inputs.get i) = false) :
    applyInput isErase i e s = updateInput i (reconfigure e (s.inputs.get i)) s :=
  if_neg (by simp [rests])

theorem reconfigure_erased (u : InputUnit) :
    reconfigure .erased u = { u with config := .erased, latch := false } := by
  simp [reconfigure_eq, InputConfig.erased]

/-- Checks 7 and 8 of Table 8-3 (R131). -/
theorem bindsTwice_iff {s : State} {i : Fin 128} {e : MapEntry} :
    s.bindsTwice i e = true ↔
      ∃ j, j ≠ i ∧ (s.map.entries.get j).valid = true ∧
        ((s.map.entries.get j).tag = e.tag ∨
          (e.dir = .take ∧ (s.map.entries.get j).dir = .take ∧
            (s.map.entries.get j).cls = e.cls ∧ (s.map.entries.get j).inst = e.inst)) := by
  simp [State.bindsTwice, and_assoc]

/-- Settles O48: the map's write turns on its bound entries, the input's on its active state. -/
theorem mapAndInputWrites : Obligations.MapAndInputWrites := by
  refine ⟨fun i e s => ?_, fun i e s => ⟨fun active => ?_, fun rests => ?_⟩⟩
  · exact ⟨fun bound => congrArg Host.Outcome.next (if_pos (bindsTwice_iff.mpr bound)),
      fun free => congrArg Host.Outcome.next (if_neg fun bound => free (bindsTwice_iff.mp bound)), rfl⟩
  · exact ⟨congrArg Host.Outcome.next (applyInput_active false _ active),
      congrArg Host.Outcome.next (applyInput_active true _ active)⟩
  · refine ⟨congrArg Host.Outcome.next ?_, isActive_reconfigure (e := { e with valid := true }),
      congrArg Host.Outcome.next ?_⟩
    · rw [applyInput_inactive (s := s.takeUp _) true _ rests, updateInput_eq, reconfigure_erased,
        inputChanges_none (s := s.takeUp _) rfl rests]
      simp
    · rw [applyInput_inactive (s := s.takeUp _) false _ rests, updateInput_eq, reconfigure_eq]
      rfl

end Sys2Proof.Machine
end

section
/-! PROOFS. The resets (1.7): what every block comes to at power-on reset and at the end of a
transparent period, and that the laws hold right after power-on reset. -/

namespace Sys2Proof.Machine

open Sys2Proof

/-! ### The laws of the reset state -/

/-- Settles O60: every block's reset value meets its law. -/
theorem resetKeepsEveryLaw : Obligations.ResetKeepsEveryLaw := by
  have idle (h : Head) : (State.reset.heads.get h).isActive = false := by
    simp [State.reset, HeadRecord.isActive, HeadRecord.afterReset]
  have released (h : Head) : State.reset.handed.count (.programRelease h) ≤ 1 := by simp [State.reset]
  refine ⟨fun c => ?_, fun c => ?_, ⟨fun h active => ?_, fun p q h held => ?_⟩, fun p => ?_, ?_, ?_,
    fun i mem => ?_, ?_, fun c mem => ?_, ⟨fun c => ?_, fun h on => ?_⟩, fun free => ?_, fun lost => ?_,
    fun h => ⟨?_, ?_⟩⟩
  · simp [State.reset, ZoneChannel.afterReset]
  · simp [State.zoneConfig, State.reset, ZoneChannel.afterReset, ZoneConfig.effective,
      ZoneConfig.erased]
  · simp [idle] at active
  · simp [State.reset] at held
  · simp [State.reset, queueGood]
  · simp [eventLaw, State.reset, recordsGood]
  · simp [cadenceLaw, State.reset, cadenceGood, Cadence.afterReset]
  · simp [State.reset] at mem
  · simp [slotsLaw, State.reset]
  · simp [State.reset] at mem
  · simp [State.zoneConfig, State.reset, ZoneChannel.afterReset, ZoneConfig.effective,
      ZoneConfig.erased]
  · simp [State.reset, HeadRecord.afterReset] at on
  · simp [State.reset] at free
  · simp [State.reset, Cadence.afterReset] at lost
  · simp [State.reset]
  · rw [if_neg (by simp [idle])]
    exact released h

/-! ### The inputs' filters at a reset -/

/-- An input after its filter has run from a reset. -/
def InputUnit.refiltered (u : InputUnit) : InputUnit :=
  if u.raw ≠ u.filtered ∧ u.config.filter = 0 then u.settled else u

theorem refilterInput_inputs_same (i : Fin 16) (s : State) :
    (refilterInput s i).inputs.get i = (s.inputs.get i).refiltered := by
  unfold refilterInput InputUnit.refiltered
  dsimp only
  split
  · next due =>
    rw [settleInput_eq due.1, updateInput_eq]
    exact Tab.get_upd_same _ _ _
  · rfl

theorem refilterInput_inputs_ne {i j : Fin 16} (ne : j ≠ i) (s : State) :
    (refilterInput s j).inputs.get i = s.inputs.get i := by
  unfold refilterInput
  dsimp only
  split
  · exact updateInput_inputs_ne ne _ _
  · rfl

theorem refilterInputs_inputs (s : State) (i : Fin 16) :
    (refilterInputs s).inputs.get i = (s.inputs.get i).refiltered :=
  foldl_acts_once (fun s : State => s.inputs.get i) InputUnit.refiltered refilterInput i
    (refilterInput_inputs_same i) (fun s _ ne => refilterInput_inputs_ne ne s)
    (List.nodup_finRange 16) (List.mem_finRange i) s

/-- An input as a reset of kind `k` leaves it, its filter run. -/
theorem refiltered_afterResetOf (k : ResetKind) (u : InputUnit) :
    (InputUnit.afterResetOf k u).refiltered =
      let e := keepOr k u.config .erased
      ⟨e, u.raw, if e.filter = 0 then u.raw else !e.polarity, 0,
        e.filter == 0 && u.raw == e.polarity && e.mode == .latched⟩ := by
  unfold InputUnit.refiltered InputUnit.afterResetOf InputUnit.settled
  generalize keepOr k u.config .erased = e
  by_cases zero : e.filter = 0
  · by_cases asserted : u.raw = e.polarity
    · simp [zero, asserted]
    · have rests : u.raw = !e.polarity := Bool.eq_not_of_ne asserted
      simp [zero, rests]
  · simp [zero]

/-- No input has a function. -/
def State.noFunctions (s : State) : Prop := ∀ i, (s.inputs.get i).config.fn = .none

theorem refilterInput_eq {i : Fin 16} {s : State} (none : (s.inputs.get i).config.fn = .none) :
    refilterInput s i = s.setInput i (s.inputs.get i).refiltered := by
  have inactive : InputUnit.isActive (s.inputs.get i) = false := by simp [InputUnit.isActive, none]
  unfold refilterInput InputUnit.refiltered
  dsimp only
  split
  · next due =>
    rw [settleInput_eq due.1, updateInput_eq,
      inputChanges_none (u := (s.inputs.get i).settled) none inactive]
    simp [State.setInput]
  · simp [State.setInput]

theorem refiltered_config (u : InputUnit) : u.refiltered.config = u.config := by
  unfold InputUnit.refiltered InputUnit.settled
  split <;> rfl

/-- Where no input has a function, the run of the filters changes the inputs alone. -/
theorem refilterInputs_eq {s : State} (none : s.noFunctions) :
    refilterInputs s = { s with inputs := Tab.ofFn fun i => (s.inputs.get i).refiltered } := by
  have alone : (∃ tab, refilterInputs s = { s with inputs := tab }) ∧
      (refilterInputs s).noFunctions := by
    refine foldl_keeps (L := fun t : State => (∃ tab, t = { s with inputs := tab }) ∧ t.noFunctions)
      (fun t i kept => ?_) _ ⟨⟨s.inputs, rfl⟩, none⟩
    obtain ⟨⟨tab, is⟩, none⟩ := kept
    rw [refilterInput_eq (none i)]
    refine ⟨⟨_, by rw [is]; rfl⟩, fun j => ?_⟩
    by_cases here : i = j
    · subst here
      simpa [refiltered_config] using none i
    · simpa [Tab.get_upd_ne _ _ here] using none j
  obtain ⟨⟨tab, is⟩, -⟩ := alone
  have entries : tab = Tab.ofFn fun i => (s.inputs.get i).refiltered := by
    apply Tab.ext_get
    intro i
    rw [Tab.get_ofFn, ← refilterInputs_inputs, is]
  rw [is, entries]

/-! ### The Regulator Port at a reset -/

/-- A port with every channel marked takes channel 0 first. -/
theorem lowest_all (r : RegulatorPort) (all : r.pending = Tab.all 34 true) :
    RegulatorPort.lowest r = some 0 := by
  simp [RegulatorPort.lowest, all, List.finRange]

/-- A free port with every channel marked sends the code 0 of channel 0. -/
theorem kickPort_reset {s : State} (free : s.reg.inHand = none)
    (all : s.reg.pending = Tab.all 34 true) (zero : s.channelCode 0 = 0) :
    s.kickPort =
      { s with
        reg :=
          { s.reg with
            last := s.reg.last.upd 0 0, pending := (Tab.all 34 true).upd 0 false, inHand := some 0 }
        regulatorOut := s.regulatorOut ++ [regulatorWord 0 0] } := by
  simp only [State.kickPort, free, lowest_all s.reg all, zero, all]

theorem channelCode_zero (s : State) : s.channelCode 0 = (s.zones.get 0).code := rfl

/-! ### Power-on reset -/

/-- An unconfigured input's filtered level is its pin's at once. -/
theorem refiltered_powerOn (u : InputUnit) :
    (InputUnit.afterResetOf .powerOn u).refiltered = ⟨.erased, u.raw, u.raw, 0, false⟩ := by
  rw [refiltered_afterResetOf]
  simp [keepOr, ResetKind.keeps, InputConfig.erased]

theorem resetBlocks_powerOn (s : State) :
    resetBlocks .powerOn s =
      { State.reset with
        pending := s.pending
        ring := s.ring
        inputs := s.inputs.mapT (InputUnit.afterResetOf .powerOn)
        reg := { last := Tab.all 34 0, pending := Tab.all 34 true, refresh := 0, inHand := none }
        us := s.us
        phase := s.phase
        free := s.free
        portB := s.portB
        regulatorOut := s.regulatorOut
        pumpOut := s.pumpOut } := by
  have zones := Tab.mapT_all (ZoneChannel.afterResetOf .powerOn) (.afterReset .erased) s.zones
    fun _ => rfl
  have docks := Tab.mapT_all (DockEntry.afterResetOf .powerOn) ⟨none, 0, .none⟩ s.docks fun _ => rfl
  have idle := Tab.mapT_all (IdleTimer.afterResetOf .powerOn) .afterReset s.idle fun _ => rfl
  have lines := Tab.mapT_all (LineState.afterResetOf .powerOn) (.afterReset .erased) s.lines
    fun _ => rfl
  have conds := Tab.mapT_all (Conditioner.afterResetOf .powerOn) (.afterReset 0 20 5000) s.conds
    fun _ => rfl
  rw [resetBlocks, zones, docks, idle, lines, conds]
  rfl

/-- Power-on reset on what has left on port B and what lies outside the part. -/
theorem powerOn_eq (straps : BitVec 5) (s : State) :
    (refilterInputs { (resetBlocks .powerOn s).setRing (Ring.afterPowerOn straps) with
        us := 0, phase := 0 }).kickPort =
      { State.reset with
        pending := s.pending
        ring := { State.reset.ring with node := straps }
        inputs := Tab.ofFn fun i => ⟨.erased, (s.inputs.get i).raw, (s.inputs.get i).raw, 0, false⟩
        free := s.free
        portB := s.portB
        regulatorOut := s.regulatorOut ++ [regulatorWord 0 0]
        pumpOut := s.pumpOut } := by
  rw [resetBlocks_powerOn, refilterInputs_eq fun i => by
    simp [State.setRing, InputUnit.afterResetOf, keepOr, ResetKind.keeps, InputConfig.erased]]
  rw [kickPort_reset rfl rfl (by simp [channelCode_zero, State.reset, ZoneChannel.afterReset])]
  simp only [State.setRing, Tab.get_mapT, refiltered_powerOn]
  rfl

/-- Settles O2: each block's part of the reset, the run of the erased inputs' filters and the port's
first word are put together. -/
theorem powerOnResetGivesResetState : Obligations.PowerOnResetGivesResetState := by
  intro straps s
  refine congrArg Host.Outcome.next ?_
  unfold powerOn
  dsimp only
  split <;> exact powerOn_eq straps _

/-! ### The end of a transparent period -/

/-- What a management reset keeps, by its scope. -/
theorem keepOr_management {α : Type} (scope : Scope) (old new : α) :
    keepOr (.management scope) old new = if scope = .state then old else new := by
  cases scope <;> rfl

/-- The settings of the Event Queue that a reset of kind `k` leaves, with no record. -/
def EventQueue.emptied (k : ResetKind) (q : EventQueue) : EventQueue :=
  { records := [], lost := 0, kinds := keepOr k q.kinds defaultKinds
    expressA := keepOr k q.expressA none, expressB := keepOr k q.expressB none }

/-- The Event Queue after a reset holds RESET_DONE alone, where its kind is on. -/
theorem events_afterReset_eq (k : ResetKind) (q : EventQueue) :
    EventQueue.afterResetOf k q =
      { q.emptied k with
        records :=
          if ((q.emptied k).kinds.get (kindCode .resetDone)).enable then
            [raisedRecord (q.emptied k) .resetDone .device (w16 (ResetKind.code k)) 0 0]
          else [] } := by
  have unfolded : EventQueue.afterResetOf k q =
      raiseInto (q.emptied k) .resetDone .device (w16 (ResetKind.code k)) 0 0 := rfl
  cases on : ((q.emptied k).kinds.get (kindCode .resetDone)).enable with
  | true =>
    rw [unfolded, raiseInto_room _ _ _ on (by simp [EventQueue.emptied]) (by simp [EventQueue.emptied])]
    simp [EventQueue.emptied]
  | false =>
    rw [unfolded, raiseInto_off _ _ _ on]
    simp [EventQueue.emptied]

theorem events_afterReset_settings (k : ResetKind) (q : EventQueue) :
    (EventQueue.afterResetOf k q).kinds = keepOr k q.kinds defaultKinds ∧
      (EventQueue.afterResetOf k q).expressA = keepOr k q.expressA none ∧
      (EventQueue.afterResetOf k q).expressB = keepOr k q.expressB none ∧
      (EventQueue.afterResetOf k q).lost = 0 := by
  rw [events_afterReset_eq]
  exact ⟨rfl, rfl, rfl, rfl⟩

theorem events_afterReset_records (scope : Scope) (q : EventQueue) :
    (EventQueue.afterResetOf (.management scope) q).records =
      keepOr (.management scope)
        (if (q.kinds.get (kindCode .resetDone)).enable then
          [⟨.resetDone, rankOf q .resetDone, .device, 1, 0, 0, 0, 0, none⟩]
        else [])
        [⟨.resetDone, 0, .device, 2, 0, 0, 0, 0, none⟩] := by
  rw [events_afterReset_eq]
  cases scope <;> rfl

/-! ### The end of a transparent period -/

/-- The inputs that a management reset leaves. -/
theorem endTransparent_inputs (s : State) (i : Fin 16) :
    (endTransparent s).inputs.get i =
      (InputUnit.afterResetOf (.management s.ring.scope) (s.inputs.get i)).refiltered := by
  have run := refilterInputs_inputs
    ((resetBlocks (.management s.ring.scope) s).setRing (Ring.afterManagementReset s.ring)) i
  have reset : ((resetBlocks (.management s.ring.scope) s).setRing
      (Ring.afterManagementReset s.ring)).inputs.get i =
        InputUnit.afterResetOf (.management s.ring.scope) (s.inputs.get i) := Tab.get_mapT _ _ _
  rw [reset] at run
  simpa [endTransparent] using run

theorem endTransparent_ring (s : State) :
    (endTransparent s).ring = Ring.afterManagementReset s.ring := by
  simp [endTransparent]

/-- The Regulator Port after a management reset: a word in hand goes on, and a free port sends the
code 0 of channel 0. -/
theorem endTransparent_reg (s : State) :
    (endTransparent s).reg =
        (match s.reg.inHand with
        | some c => ⟨s.reg.last, Tab.all 34 true, 0, some c⟩
        | none => ⟨s.reg.last.upd 0 0, (Tab.all 34 true).upd 0 false, 0, some 0⟩) ∧
      (endTransparent s).regulatorOut =
        s.regulatorOut ++ (if s.reg.inHand = none then [regulatorWord 0 0] else []) := by
  let u := refilterInputs
    ((resetBlocks (.management s.ring.scope) s).setRing (Ring.afterManagementReset s.ring))
  have is : endTransparent s = u.kickPort := rfl
  have reg : u.reg = { s.reg with pending := Tab.all 34 true, refresh := 0 } := by
    simp only [u, refilterInputs_frame]
    rfl
  have out : u.regulatorOut = s.regulatorOut := by simp [u]
  have zero : u.channelCode 0 = 0 := by
    simp [channelCode_zero, u, ZoneChannel.afterResetOf, ZoneChannel.afterReset]
  rw [is]
  cases hand : s.reg.inHand with
  | some c =>
    rw [State.kickPort_of_inHand (c := c) (by simp [reg, hand])]
    simp [reg, out, hand]
  | none =>
    rw [kickPort_reset (by simp [reg, hand]) (by simp [reg]) zero]
    simp [reg, out]

theorem endTransparent_handed_all {s : State} (all : s.ring.scope = .all) :
    (endTransparent s).handed = [] := by
  have none : State.noFunctions
      ((resetBlocks (.management s.ring.scope) s).setRing (Ring.afterManagementReset s.ring)) :=
    fun i => (congrArg (fun u : InputUnit => u.config.fn) (Tab.get_mapT _ _ _)).trans (by
      simp [InputUnit.afterResetOf, all, keepOr, ResetKind.keeps, InputConfig.erased])
  rw [endTransparent]
  simp [refilterInputs_eq none]

theorem afterResetOf_group (k : ResetKind) (v : Verifier) (g : Group) :
    (Verifier.afterResetOf k v).group g = GroupRecord.afterResetOf k (v.group g) := by
  cases g <;> rfl

section
variable (s : State)

theorem endTransparent_map :
    (endTransparent s).map = CellMap.afterResetOf (.management s.ring.scope) s.map :=
  endTransparent_blocks s (f := State.map) (by simp) (by simp) (by simp)

theorem endTransparent_store :
    (endTransparent s).store = ProgramStore.afterResetOf (.management s.ring.scope) s.store :=
  endTransparent_blocks s (f := State.store) (by simp) (by simp) (by simp)

theorem endTransparent_zones :
    (endTransparent s).zones = s.zones.mapT (ZoneChannel.afterResetOf (.management s.ring.scope)) :=
  endTransparent_blocks s (f := State.zones) (by simp) (by simp) (by simp)

theorem endTransparent_filters :
    (endTransparent s).filters = Tab.all 34 .afterReset :=
  endTransparent_blocks s (f := State.filters) (by simp) (by simp) (by simp)

theorem endTransparent_queues :
    (endTransparent s).queues = Tab.all 3 ⟨[], 0⟩ :=
  endTransparent_blocks s (f := State.queues) (by simp) (by simp) (by simp)

theorem endTransparent_lines :
    (endTransparent s).lines = s.lines.mapT (LineState.afterResetOf (.management s.ring.scope)) :=
  endTransparent_blocks s (f := State.lines) (by simp) (by simp) (by simp)

theorem endTransparent_conds :
    (endTransparent s).conds = s.conds.mapT (Conditioner.afterResetOf (.management s.ring.scope)) :=
  endTransparent_blocks s (f := State.conds) (by simp) (by simp) (by simp)

theorem endTransparent_docks :
    (endTransparent s).docks = s.docks.mapT (DockEntry.afterResetOf (.management s.ring.scope)) :=
  endTransparent_blocks s (f := State.docks) (by simp) (by simp) (by simp)

theorem endTransparent_idle :
    (endTransparent s).idle = s.idle.mapT (IdleTimer.afterResetOf (.management s.ring.scope)) :=
  endTransparent_blocks s (f := State.idle) (by simp) (by simp) (by simp)

theorem endTransparent_profiles :
    (endTransparent s).profiles = keepOr (.management s.ring.scope) s.profiles (Tab.all 8 .erased) :=
  endTransparent_blocks s (f := State.profiles) (by simp) (by simp) (by simp)

theorem endTransparent_segments :
    (endTransparent s).segments = keepOr (.management s.ring.scope) s.segments (Tab.all 96 .erased) :=
  endTransparent_blocks s (f := State.segments) (by simp) (by simp) (by simp)

theorem endTransparent_cadence :
    (endTransparent s).cadence = Cadence.afterResetOf (.management s.ring.scope) s.cadence :=
  endTransparent_blocks s (f := State.cadence) (by simp) (by simp) (by simp)

theorem endTransparent_verifier :
    (endTransparent s).verifier = Verifier.afterResetOf (.management s.ring.scope) s.verifier :=
  endTransparent_blocks s (f := State.verifier) (by simp) (by simp) (by simp)

theorem endTransparent_events :
    (endTransparent s).events = EventQueue.afterResetOf (.management s.ring.scope) s.events :=
  endTransparent_blocks s (f := State.events) (by simp) (by simp) (by simp)

theorem endTransparent_awaiting :
    (endTransparent s).awaiting = [] :=
  endTransparent_blocks s (f := State.awaiting) (by simp) (by simp) (by simp)

theorem endTransparent_written :
    (endTransparent s).written = [] :=
  endTransparent_blocks s (f := State.written) (by simp) (by simp) (by simp)

end

/-- Settles O3: each block's part of the reset is read off; the inputs' filters and the Regulator Port
then run. -/
theorem managementResetValues : Obligations.ManagementResetValues := by
  intro s mark t0 waits kept
  have awaits : t0.resetAwaits = true ↔ waits := State.resetAwaits_iff t0
  have result : exec .transparentPeriodEnd s = .next (s.after .transparentPeriodEnd) :=
    exec_eq_after _ s
  rw [after_transparentPeriodEnd] at result
  refine ⟨fun wait => ?_, fun go => ?_⟩
  · rw [result, if_neg fun due => Bool.false_ne_true (due.2.symm.trans (awaits.mpr wait))]
  rw [if_pos ⟨mark, Bool.eq_false_iff.mpr (mt awaits.mp go)⟩] at result
  refine ⟨_, result, ?_⟩
  have keeps {α : Type} (old new : α) :
      keepOr (.management t0.ring.scope) old new = if kept then old else new := by
    have scope : t0.ring.scope = s.ring.scope := rfl
    rw [keepOr_management, scope]
    by_cases state : s.ring.scope = .state <;> simp [kept, state]
  obtain ⟨reg, out⟩ := endTransparent_reg t0
  obtain ⟨kinds, expressA, expressB, lost⟩ :=
    events_afterReset_settings (.management t0.ring.scope) t0.events
  obtain ⟨pending, us, phase, free, portB, pumpOut⟩ := endTransparent_frame t0
  clear_value kept
  refine ⟨?_, ?_, ?_, ?_, ?_, ?_, ?_, ?_, ?_, ?_, ?_, ?_, ?_, ?_, fun c => ?_, fun i => ?_,
    fun p => ⟨?_, ?_, ?_⟩, ?_, fun i => ?_, fun g => ?_, ?_, fun k => ?_, ?_, ?_, ?_, ?_, reg, out, us, phase, pending, free, portB,
    pumpOut, endTransparent_awaiting t0, endTransparent_written t0,
    fun all => endTransparent_handed_all all⟩
  · exact endTransparent_ring t0
  · exact endTransparent_heads t0
  · exact endTransparent_filters t0
  · exact endTransparent_queues t0
  · rw [endTransparent_store]
    rfl
  · rw [endTransparent_map]
    rfl
  · rw [endTransparent_map]
    rfl
  · rw [endTransparent_map]
    rfl
  · rw [endTransparent_map]
    rfl
  · rw [endTransparent_map]
    exact keeps _ _
  · rw [endTransparent_store]
    exact keeps _ _
  · rw [endTransparent_store]
    exact keeps _ _
  · rw [endTransparent_profiles]
    exact keeps _ _
  · rw [endTransparent_segments]
    exact keeps _ _
  · rw [endTransparent_zones, Tab.get_mapT, ZoneChannel.afterResetOf, keeps]
    rfl
  · rw [endTransparent_lines, Tab.get_mapT, LineState.afterResetOf, keeps]
    rfl
  · rw [endTransparent_conds, Tab.get_mapT, Conditioner.afterResetOf, keeps, keeps, keeps]
    rfl
  · rw [endTransparent_docks, Tab.get_mapT, DockEntry.afterResetOf, keeps]
    rfl
  · rw [endTransparent_idle, Tab.get_mapT, IdleTimer.afterResetOf, keeps]
    rfl
  · rw [endTransparent_cadence, Cadence.afterResetOf, keeps, keeps, keeps, keeps]
    cases kept <;> rfl
  · rw [endTransparent_inputs, refiltered_afterResetOf, keeps]
    rfl
  · rw [endTransparent_verifier, afterResetOf_group, GroupRecord.afterResetOf, keeps]
    rfl
  · rw [endTransparent_verifier]
    exact keeps _ _
  · rw [endTransparent_events, kinds, keeps]
    cases kept
    · exact Tab.get_ofFn _ _
    · rfl
  · rw [endTransparent_events, expressA, keeps]
    rfl
  · rw [endTransparent_events, expressB, keeps]
    rfl
  · rw [endTransparent_events, lost]
  · rw [endTransparent_events, events_afterReset_records]
    exact keeps _ _

end Sys2Proof.Machine
end

section
/-! PROOFS. The ring's link and its frames (9.1 to 9.4, 9.6): resets reaching the ring, the link,
frame starts, what is ignored and what goes through untouched. -/

namespace Sys2Proof.Machine

open Sys2Proof

/-! ### A RESET reaches the ring -/

theorem goThrough_eq (s : State) :
    goThrough s =
      { s with
        portB :=
          if s.ring.acting = true ∧ (s.ring.reception = .cells ∨ s.ring.reception = .check) then
            s.portB ++ s.ring.frame.buf.map PortSymbol.octet
          else s.portB
        ring :=
          { s.ring with
            through := s.ring.acting || s.ring.through
            frame := if s.ring.acting then { s.ring.frame with buf := [] } else s.ring.frame } } := by
  unfold goThrough
  cases acting : s.ring.acting with
  | false => simp
  | true =>
    dsimp only
    by_cases held : s.ring.reception = .cells ∨ s.ring.reception = .check
    · simp [held, State.setRing, State.emitOctets, State.emit]
    · simp [held, State.setRing]

theorem scope_merged (a b : Scope) :
    (if a = .all then Scope.all else b) = if a = .all ∨ b = .all then .all else .state := by
  cases a <;> cases b <;> rfl

theorem frameOf_eq (s : State) (c : Instr) :
    s.frameOf c = (s.awaiting.find? fun x => x.event == c).map HandOver.frame := rfl

/-- Settles O4: the three branches of `applyReset`. -/
theorem resetAppliedOrDropped : Obligations.ResetAppliedOrDropped := by
  intro scope s t through frame
  refine congrArg Host.Outcome.next ?_
  have active : t.anyHeadActive = s.anyHeadActive := rfl
  have merges : (t.ring.transparent = true ∧ s.frameOf (.resetApply scope) = t.ring.resetFrame) ↔
      s.ring.transparent = true ∧ s.ring.resetFrame = frame := by
    rw [frameOf_eq]
    exact and_congr_right fun _ => eq_comm
  unfold applyReset
  rw [active]
  split
  · rfl
  · by_cases same : s.ring.transparent = true ∧ s.ring.resetFrame = frame
    · rw [if_pos (merges.mpr same), if_pos same, scope_merged]
      rfl
    · rw [if_neg (mt merges.mp same), if_neg same, goThrough_eq]
      rfl

/-! ### Frames that end -/

theorem badEnd_eq_discarded (why : BadEnd) (out : List PortSymbol) (st : Reception) (s : State) :
    badEnd why out st s = discarded why out st s := by
  unfold badEnd discarded heldOctets discardSeq
  simp [State.emit, State.emitOctets, State.setRing, State.hand, State.raise, State.setHanded,
    Ring.emptied] <;> rfl

theorem beginFrame_eq_begun (s : State) : beginFrame s = begun s := rfl

theorem acting_iff {r : Ring} : r.acting = true ↔ r.reception.inFrame = true ∧ r.through = false := by
  simp [Ring.acting]

/-! ### Outside a frame -/

theorem rxOctet_outside {o : Octet} {s : State} (outside : s.ring.reception.inFrame = false) :
    rxOctet o s = s.idles := if_pos outside

/-- Outside a frame each octet leaves as an idle symbol. -/
theorem rxOctets_outside {s : State} (os : List Octet) (outside : s.ring.reception.inFrame = false) :
    rxOctets os s = ignored os.length s := by
  induction os generalizing s with
  | nil => simp [rxOctets, ignored]
  | cons o os ih =>
    have next : rxOctets (o :: os) s = rxOctets os (s.idles) := by
      rw [rxOctets, List.foldl_cons, rxOctet_outside outside, rxOctets]
    rw [next, ih (s := s.idles) outside]
    simp [ignored, State.idles, State.emit, List.replicate_succ]

/-! ### Frames that go through untouched -/

theorem rxOctet_through {o : Octet} {s : State} (inside : s.ring.reception.inFrame = true)
    (through : s.ring.through = true) : rxOctet o s = forwardOctet o s := by
  simp [rxOctet, inside, through]

theorem rxOctets_cons (o : Octet) (os : List Octet) (s : State) :
    rxOctets (o :: os) s = rxOctets os (rxOctet o s) := rfl

theorem rxOctets_append (os ps : List Octet) (s : State) :
    rxOctets (os ++ ps) s = rxOctets ps (rxOctets os s) := List.foldl_append

/-- The octets of a frame that goes through untouched leave as they arrived. -/
theorem rxOctets_through {s : State} (os : List Octet) (inside : s.ring.reception.inFrame = true)
    (through : s.ring.through = true) (size : s.ring.frame.octets ≤ 1536) :
    rxOctets os s = forwarded os none s := by
  induction os generalizing s with
  | nil => simp [rxOctets, forwarded, Nat.min_eq_left size]
  | cons o os ih =>
    rw [rxOctets_cons, rxOctet_through inside through]
    rw [ih (s := forwardOctet o s) inside through (Nat.min_le_right _ _)]
    have count : min (min (s.ring.frame.octets + 1) 1536 + os.length) 1536 =
        min (s.ring.frame.octets + (os.length + 1)) 1536 := by omega
    simp [forwarded, forwardOctet, State.setRing, State.emitOctets, State.emit, maxFrameOctets, count]

/-! ### The link -/

/-- Settles O5: whether a frame is in passage, and one that is acted on. -/
theorem linkFollowsSignal : Obligations.LinkFollowsSignal := by
  refine fun s => ⟨rfl, congrArg Host.Outcome.next ?_⟩
  unfold rxLoss
  dsimp only
  have ring : (s.takeUp .lossOfSignal).ring = s.ring := rfl
  rw [ring]
  cases inside : s.ring.reception.inFrame with
  | false => simp [Ring.acting, inside]
  | true =>
    cases through : s.ring.through with
    | true => simp [Ring.acting, inside, through, State.emit]
    | false => simp [Ring.acting, inside, through, badEnd_eq_discarded]

/-! ### Frame starts -/

theorem w16_octAt16 (a b hi lo : Octet) : w16 (octAt16 [a, b, hi, lo] 2) = hi ++ lo := by
  apply BitVec.eq_of_toNat_eq
  have small := lo.isLt
  have high := hi.isLt
  rw [BitVec.toNat_append, ← Nat.shiftLeft_add_eq_or_of_lt small, Nat.shiftLeft_eq]
  simp [w16, octAt16, octAt]
  omega

/-- An octet of the header of a frame that is acted on. -/
theorem rxOctet_header {o : Octet} {s : State} (header : s.ring.reception = .header)
    (acts : s.ring.through = false) (size : s.ring.frame.octets < 1536) :
    rxOctet o s = rxHeader o s := by
  simp [rxOctet, header, Reception.inFrame, acts, maxFrameOctets, Nat.not_le.mpr size]

/-- Within a header: the octets `buf` have arrived and left, of a frame of kind `kind` with `count`
cells as far as they tell. -/
def State.inHeader (s : State) (kind : FrameKind) (count : Nat) (buf : List Octet) : State :=
  (s.emitOctets buf).setFrame
    { s.ring.frame with
      kind := kind, cellCount := count, octets := s.ring.frame.octets + buf.length
      rxCrc := crc32Run s.ring.frame.rxCrc buf, txCrc := crc32Run s.ring.frame.txCrc buf, buf := buf }
    .header

section
variable {s : State} {k n o : Octet} {kind : FrameKind} {count : Nat} {buf : List Octet}

theorem rxHeader_kind (known : k = 0x01 ∨ k = 0x02) (fresh : s.ring.frame.buf = []) :
    rxHeader k s =
      s.inHeader (if k = 0x01 then .cycle else .async) s.ring.frame.cellCount [k] := by
  have known : ¬(k ≠ 0x01 ∧ k ≠ 0x02) := by tauto
  simp only [rxHeader, fresh, List.length_nil, true_and, if_neg known]
  rfl

theorem rxHeader_count : rxHeader n (s.inHeader kind count [k]) = s.inHeader kind n.toNat [k, n] := by
  simp [rxHeader, State.inHeader, State.setFrame, State.setRing, State.emitOctets, State.emit,
    crc32Run_cons]

theorem rxHeader_sequence :
    rxHeader o (s.inHeader kind count [k, n]) = s.inHeader kind count [k, n, o] := by
  simp [rxHeader, State.inHeader, State.setFrame, State.setRing, State.emitOctets, State.emit,
    crc32Run_cons]

/-- The last octet of a header: the cells follow, or the FCS where there are none. -/
theorem rxHeader_last {hi : Octet} :
    rxHeader o (s.inHeader kind count [k, n, hi]) =
      (s.emitOctets [k, n, hi, o]).setFrame
        { s.ring.frame with
          kind := kind, cellCount := count, seq := hi ++ o, octets := s.ring.frame.octets + 4
          rxCrc := crc32Run s.ring.frame.rxCrc [k, n, hi, o]
          txCrc := crc32Run s.ring.frame.txCrc [k, n, hi, o], buf := [] }
        (if count = 0 then .check else .cells) := by
  simp [rxHeader, State.inHeader, State.setFrame, State.setRing, State.emitOctets, State.emit,
    crc32Run_cons, w16_octAt16]

end

/-- The four octets of a header whose kind is known. -/
theorem rxOctets_header {k n hi lo : Octet} {s : State} (known : k = 0x01 ∨ k = 0x02)
    (header : s.ring.reception = .header) (acts : s.ring.through = false)
    (fresh : s.ring.frame.buf = []) (size : s.ring.frame.octets ≤ 1532) :
    rxOctets [k, n, hi, lo] s =
      (s.emitOctets [k, n, hi, lo]).setFrame
        { s.ring.frame with
          kind := if k = 0x01 then .cycle else .async
          cellCount := n.toNat
          seq := hi ++ lo
          octets := s.ring.frame.octets + 4
          rxCrc := crc32Run s.ring.frame.rxCrc [k, n, hi, lo]
          txCrc := crc32Run s.ring.frame.txCrc [k, n, hi, lo]
          buf := [] }
        (if n.toNat = 0 then .check else .cells) := by
  have within (kind : FrameKind) (count : Nat) (buf : List Octet) (short : buf.length < 4) (o : Octet) :
      rxOctet o (s.inHeader kind count buf) = rxHeader o (s.inHeader kind count buf) :=
    rxOctet_header rfl acts (by simp [State.inHeader, State.setFrame]; omega)
  rw [rxOctets_cons, rxOctet_header header acts (by omega), rxHeader_kind known fresh, rxOctets_cons,
    within _ _ _ (by simp), rxHeader_count, rxOctets_cons, within _ _ _ (by simp), rxHeader_sequence,
    rxOctets_cons, within _ _ _ (by simp), rxHeader_last]
  rfl

/-- Settles O6: the four header octets one by one, or the octets as they go through. -/
theorem frameStartRecordsHeader : Obligations.FrameStartRecordsHeader := by
  refine ⟨fun k n hi lo s link clear rests kind => ?_, fun octets s link mark => ?_⟩
  · refine ⟨_, rfl, ?_⟩
    have begins : rxStart (s.takeUp (.frameStart [k, n, hi, lo])) =
        begun (s.takeUp (.frameStart [k, n, hi, lo])) := by
      simp [rxStart, link, rests, beginFrame_eq_begun]
    rw [begins, rxOctets_header kind rfl clear rfl (by simp [begun])]
    have empty : n.toNat = 0 ↔ n = 0 := by
      rw [← BitVec.toNat_inj]
      rfl
    simp [begun, State.setFrame, State.setRing, State.emitOctets, State.emit, empty, clear]
  · refine congrArg Host.Outcome.next ?_
    have begins : rxStart (s.takeUp (.frameStart octets)) = begun (s.takeUp (.frameStart octets)) := by
      simp [rxStart, link, mark, beginFrame_eq_begun]
    rw [begins]
    exact rxOctets_through octets rfl mark (Nat.zero_le _)

end Sys2Proof.Machine
end

section
/-! PROOFS. Cells on the ring (9.3): a cell taken whole is its octets taken one by one, and in a frame
that goes through untouched all leaves as it arrived. -/

namespace Sys2Proof.Machine

open Sys2Proof

/-! ### The octets of a cell -/

theorem w16_tag (a b c : Octet) (tag : Word16) :
    w16 (octAt16 [a, b, oct (tag.toNat / 256), oct tag.toNat, c] 2) = tag := by
  apply BitVec.eq_of_toNat_eq
  have wide := tag.isLt
  simp [w16, octAt16, octAt, oct]
  omega

theorem cellOf_octets (c : Cell) : cellOf (Cell.octets c) = c := by
  obtain ⟨kind, flags, tag, payload⟩ := c
  have spelt := w16_tag kind flags (oct payload.length) tag
  simpa [cellOf, Cell.octets, Cell.header, octAt16, octAt] using spelt

theorem octets_length (c : Cell) : (Cell.octets c).length = 5 + c.payload.length := by
  simp [Cell.octets, Cell.header]
  omega

section
variable {c : Cell} {buf : List Octet} (begins : buf <+: Cell.octets c)
include begins

theorem begins_getD {i : Nat} (lt : i < buf.length) : buf.getD i 0 = (Cell.octets c).getD i 0 := by
  obtain ⟨rest, is⟩ := begins
  rw [← is, List.getD_append _ _ _ _ lt]

theorem begins_kind (lt : 0 < buf.length) : buf.getD 0 0 = c.kind := begins_getD begins lt

theorem begins_count (short : c.payload.length ≤ 48) (lt : 4 < buf.length) :
    octAt buf 4 = c.payload.length := by
  rw [octAt, begins_getD begins lt]
  exact octet_toNat (by omega)

/-- What begins a cell of a known kind and a payload of at most 48 octets decides no structure
error. -/
theorem badCellOctets_begins (known : knownKind c.kind = true) (short : c.payload.length ≤ 48) :
    badCellOctets buf = false := by
  have kind : buf.length = 1 → knownKind (buf.getD 0 0) = true := fun one => by
    rwa [begins_kind begins (by omega)]
  have count : buf.length = 5 → octAt buf 4 ≤ 48 := fun five => by
    rwa [begins_count begins short (by omega)]
  simp only [badCellOctets, Bool.or_eq_false_iff, Bool.and_eq_false_imp, beq_iff_eq,
    Bool.not_eq_false', decide_eq_false_iff_not, not_lt]
  exact ⟨kind, count⟩

/-- What begins a cell is complete when it is all of it. -/
theorem cellComplete_begins (short : c.payload.length ≤ 48) :
    cellComplete buf = true ↔ buf.length = (Cell.octets c).length := by
  have whole := octets_length c
  simp only [cellComplete, Bool.and_eq_true, decide_eq_true_eq, beq_iff_eq]
  constructor
  · rintro ⟨five, is⟩
    rw [is, begins_count begins short (by omega), whole]
  · intro is
    exact ⟨by omega, by rw [begins_count begins short (by omega)]; omega⟩

end

/-! ### Octet by octet -/

theorem rxOctet_cells {o : Octet} {s : State} (cells : s.ring.reception = .cells)
    (acts : s.ring.through = false) (size : s.ring.frame.octets < 1536) :
    rxOctet o s = rxCell o s := by
  simp [rxOctet, cells, Reception.inFrame, acts, maxFrameOctets, Nat.not_le.mpr size]

/-- Within a cell: its octets `buf` have arrived. -/
def State.inCell (s : State) (buf : List Octet) : State :=
  s.setFrame
    { s.ring.frame with
      rxCrc := crc32Run s.ring.frame.rxCrc buf
      octets := s.ring.frame.octets + buf.length
      buf := buf }
    .cells

theorem rxCell_inCell {c : Cell} {s : State} {buf : List Octet} {o : Octet}
    (known : knownKind c.kind = true) (short : c.payload.length ≤ 48)
    (begins : buf ++ [o] <+: Cell.octets c) :
    rxCell o (s.inCell buf) =
      if (buf ++ [o]).length = (Cell.octets c).length then
        completeCell (cellOf (buf ++ [o])) (s.inCell (buf ++ [o]))
      else s.inCell (buf ++ [o]) := by
  have fine := badCellOctets_begins begins known short
  have complete := cellComplete_begins begins short
  have next : ((s.inCell buf).setFrame
      { (s.inCell buf).ring.frame with
        rxCrc := crc32Run (s.inCell buf).ring.frame.rxCrc [o]
        octets := (s.inCell buf).ring.frame.octets + 1
        buf := (s.inCell buf).ring.frame.buf ++ [o] } .cells) = s.inCell (buf ++ [o]) := by
    simp [State.inCell, State.setFrame, State.setRing, crc32Run_append, Nat.add_assoc]
  have held : (s.inCell buf).ring.frame.buf = buf := rfl
  unfold rxCell
  dsimp only
  rw [next, held, fine]
  simp only [Bool.false_eq_true, if_false, complete]

/-- The octets that begin a cell are in hand. -/
theorem rxOctets_begins {c : Cell} {s : State} (cells : s.ring.reception = .cells)
    (acts : s.ring.through = false) (empty : s.ring.frame.buf = []) (known : knownKind c.kind = true)
    (short : c.payload.length ≤ 48) (size : s.ring.frame.octets + 5 + c.payload.length ≤ 1536)
    (buf : List Octet) (o : Octet) (begins : buf ++ [o] <+: Cell.octets c) :
    rxOctets buf s = s.inCell buf := by
  have whole := octets_length c
  induction buf using List.reverseRecOn generalizing o with
  | nil =>
    have frame : { s.ring.frame with
        rxCrc := crc32Run s.ring.frame.rxCrc []
        octets := s.ring.frame.octets + ([] : List Octet).length
        buf := [] } = s.ring.frame := by
      generalize s.ring.frame = f at empty
      cases f
      cases empty
      rfl
    rw [State.inCell, frame, State.setFrame, ← cells]
    rfl
  | append_singleton buf p ih =>
    have before : buf ++ [p] <+: Cell.octets c := (List.prefix_append _ _).trans begins
    have less : (buf ++ [p]).length < (Cell.octets c).length := by
      have := begins.length_le
      simp at this ⊢
      omega
    have room : (s.inCell buf).ring.frame.octets < 1536 := by
      simp at less
      simp [State.inCell, State.setFrame]
      omega
    rw [rxOctets_append, ih p before, rxOctets_cons, rxOctet_cells (s := s.inCell buf) rfl acts room,
      rxCell_inCell known short before, if_neg (by omega)]
    rfl

/-- Taking a cell whole is taking its octets one by one. -/
theorem arriveCell_eq_rxOctets (c : Cell) (s : State) :
    arriveCell c s = rxOctets (Cell.octets c) s := by
  by_cases whole : takesWhole c s.ring = true
  case neg => exact if_neg whole
  obtain ⟨cells, acts, empty, known, short, size⟩ := takesWhole_facts whole
  obtain none | ⟨buf, o, is⟩ := List.eq_nil_or_concat (Cell.octets c)
  · simp [Cell.octets, Cell.header] at none
  rw [List.concat_eq_append] at is
  have begins : buf ++ [o] <+: Cell.octets c := is ▸ List.prefix_refl _
  have length := octets_length c
  have room : (s.inCell buf).ring.frame.octets < 1536 := by
    rw [is] at length
    simp at length
    simp [State.inCell, State.setFrame]
    omega
  have held : s.inCell (Cell.octets c) = s.holding c := by
    simp [State.inCell, State.holding, length, Nat.add_assoc]
  rw [arriveCell_whole whole, is, rxOctets_append,
    rxOctets_begins cells acts empty known short size buf o begins, rxOctets_cons,
    rxOctet_cells (s := s.inCell buf) rfl acts room, rxCell_inCell known short begins,
    if_pos (by rw [is]), ← is, cellOf_octets, held]
  rfl

/-! ### Frames that go through untouched -/

section
variable {s : State} (os : List Octet) (inside : s.ring.reception.inFrame = true)
  (through : s.ring.through = true) (size : s.ring.frame.octets ≤ 1536)
include inside through size

theorem arriveCell_through (c : Cell) : arriveCell c s = forwarded (Cell.octets c) none s := by
  rw [arriveCell_eq_rxOctets, rxOctets_through _ inside through size]

theorem rxEnd_through : rxEnd (rxOctets os s) = forwarded os (some .endSymbol) s := by
  rw [rxOctets_through os inside through size]
  simp [rxEnd, forwarded, inside, through, State.emit, State.setRing]

theorem rxTail_through (tail : FrameTail) :
    rxTail tail (rxOctets os s) =
      forwarded os
        (match tail with
        | .endSymbol => some .endSymbol
        | .abortSymbol => some .abortSymbol
        | .idleSymbol => some .idleSymbol
        | .nothing => none) s := by
  cases tail with
  | endSymbol => exact rxEnd_through os inside through size
  | nothing => exact rxOctets_through os inside through size
  | abortSymbol | idleSymbol =>
    rw [rxOctets_through os inside through size]
    simp [rxTail, rxAbort, rxIdle, forwarded, inside, through, State.emit, State.setRing]

end

/-! ### Cells of commands -/

/-- What a request command does: its cell arrives. -/
theorem exec_request {h : MgmtHead} {body : List Octet} {x : Instr × Nat}
    (mem : x ∈ requestCommands h body) (s : State) :
    exec x.1 s = .next (arriveCell (mgmtCell h (oct x.2 :: body)) (s.takeUp x.1)) := by
  simp only [requestCommands, List.mem_cons, List.not_mem_nil, or_false] at mem
  rcases mem with rfl | rfl | rfl | rfl | rfl | rfl | rfl | rfl | rfl | rfl <;> rfl

/-- Settles O10: a cell's octets one by one come to the cell, and a frame that goes through forwards
octets and symbol. -/
theorem cellsArriveOctetByOctet : Obligations.CellsArriveOctetByOctet := by
  have arrive {c : Cell} {s t : State} (is : t = arriveCell c s) : t = rxOctets (Cell.octets c) s :=
    is.trans (arriveCell_eq_rxOctets c s)
  refine ⟨fun c h body s => ⟨congrArg Host.Outcome.next (arriveCell_eq_rxOctets _ _),
    congrArg Host.Outcome.next (arriveCell_eq_rxOctets _ _),
    congrArg Host.Outcome.next (arriveCell_eq_rxOctets _ _), fun x mem => ?_,
    congrArg Host.Outcome.next (arriveCell_eq_rxOctets _ _)⟩, fun s inside through size =>
      ⟨fun c x mem => ?_, fun h body => ⟨fun x mem => ?_, ?_⟩, fun octets phase => ?_,
        fun octets x mem => ?_⟩⟩
  · rw [exec_request mem, arriveCell_eq_rxOctets]
  · have goes (x : Instr) := arriveCell_through (s := s.takeUp x) inside through size c
    simp only [List.mem_cons, List.not_mem_nil, or_false] at mem
    rcases mem with rfl | rfl | rfl <;> exact congrArg Host.Outcome.next (goes _)
  · rw [exec_request mem, arriveCell_through (s := s.takeUp x.1) inside through size]
  · exact congrArg Host.Outcome.next (arriveCell_through (s := s.takeUp _) inside through size _)
  · have ring : (advanceToPhase phase.val (s.takeUp (.frameGoodEnd octets phase))).ring = s.ring := by
      simp
    exact congrArg Host.Outcome.next (rxEnd_through octets (by rwa [ring]) (by rwa [ring])
      (by rwa [ring]))
  · have goes (tail : FrameTail) := rxTail_through (s := s.takeUp (.frameBadEnd octets tail)) octets
      inside through size tail
    simp only [List.mem_cons, List.not_mem_nil, or_false] at mem
    rcases mem with rfl | rfl | rfl | rfl <;> exact congrArg Host.Outcome.next (goes _)

end Sys2Proof.Machine
end

section
/-! PROOFS. How frames end (9.4): the FCS octet by octet, the good end with the time base moved on to
it, the bad ends, and what a good end hands over. -/

namespace Sys2Proof.Machine

open Sys2Proof

/-! ### The frame check sequence -/

theorem rxOctet_check {o : Octet} {s : State} (check : s.ring.reception = .check)
    (acts : s.ring.through = false) (size : s.ring.frame.octets < 1536) :
    rxOctet o s = rxCheck o s := by
  simp [rxOctet, check, Reception.inFrame, acts, maxFrameOctets, Nat.not_le.mpr size]

/-- Within the FCS: its octets `buf` have arrived. -/
def State.inCheck (s : State) (buf : List Octet) : State :=
  s.setFrame { s.ring.frame with octets := s.ring.frame.octets + buf.length, buf := buf } .check

/-- The FCS has been compared, and the four octets in its place have left. -/
def State.checked (s : State) (fcs : List Octet) : State :=
  let good := fcsValue fcs == fcsOf s.ring.frame.rxCrc
  (s.emitOctets
    (fcsOctets (if good then fcsOf s.ring.frame.txCrc else ~~~fcsOf s.ring.frame.txCrc))).setFrame
      { s.ring.frame with octets := s.ring.frame.octets + 4, buf := [], fcsOk := good } .endWait

theorem rxCheck_inCheck (s : State) (buf : List Octet) (o : Octet) :
    rxCheck o (s.inCheck buf) =
      if buf.length < 3 then s.inCheck (buf ++ [o])
      else
        (s.emitOctets (fcsOctets (if fcsValue (buf ++ [o]) == fcsOf s.ring.frame.rxCrc then
            fcsOf s.ring.frame.txCrc else ~~~fcsOf s.ring.frame.txCrc))).setFrame
          { s.ring.frame with
            octets := s.ring.frame.octets + buf.length + 1, buf := []
            fcsOk := fcsValue (buf ++ [o]) == fcsOf s.ring.frame.rxCrc } .endWait := by
  unfold rxCheck
  have short : (buf ++ [o]).length < 4 ↔ buf.length < 3 := by simp; omega
  have frame : (s.inCheck buf).ring.frame =
      { s.ring.frame with octets := s.ring.frame.octets + buf.length, buf := buf } := rfl
  simp only [frame, short]
  split
  · simp [State.inCheck, State.setFrame, State.setRing, Nat.add_assoc]
  · simp [State.inCheck, State.setFrame, State.setRing, State.emitOctets, State.emit]

section
variable {s : State} (check : s.ring.reception = .check) (acts : s.ring.through = false)
  (empty : s.ring.frame.buf = []) (size : s.ring.frame.octets ≤ 1532)
include check acts empty size

omit acts size in
theorem inCheck_nil : s.inCheck [] = s := by
  have frame : { s.ring.frame with
      octets := s.ring.frame.octets + ([] : List Octet).length, buf := [] } = s.ring.frame := by
    generalize s.ring.frame = f at empty
    cases f
    cases empty
    rfl
  rw [State.inCheck, frame, State.setFrame, ← check]
  rfl

/-- Fewer than four octets of the FCS are in hand. -/
theorem rxOctets_fcs_short {buf : List Octet} (short : buf.length < 4) :
    rxOctets buf s = s.inCheck buf := by
  induction buf using List.reverseRecOn with
  | nil => exact (inCheck_nil check empty).symm
  | append_singleton buf o ih =>
    simp at short
    have room : (s.inCheck buf).ring.frame.octets < 1536 := by
      simp [State.inCheck, State.setFrame]
      omega
    rw [rxOctets_append, ih (by omega), rxOctets_cons,
      rxOctet_check (s := s.inCheck buf) rfl acts room, rxCheck_inCheck, if_pos (by omega)]
    rfl

/-- The four octets of the FCS. -/
theorem rxOctets_fcs {fcs : List Octet} (four : fcs.length = 4) : rxOctets fcs s = s.checked fcs := by
  obtain none | ⟨buf, o, is⟩ := List.eq_nil_or_concat fcs
  · simp [none] at four
  rw [List.concat_eq_append] at is
  subst is
  have three : buf.length = 3 := by simpa using four
  have room : (s.inCheck buf).ring.frame.octets < 1536 := by
    simp [State.inCheck, State.setFrame]
    omega
  rw [rxOctets_append, rxOctets_fcs_short check acts empty size (by omega), rxOctets_cons,
    rxOctet_check (s := s.inCheck buf) rfl acts room, rxCheck_inCheck, if_neg (by omega)]
  simp [rxOctets, State.checked, three]

end

/-! ### The time base -/

theorem lateExpiry_phase (e : BitVec 32) (s : State) (n : Nat) :
    lateExpiry e { s with phase := n } = { lateExpiry e s with phase := n } := by
  unfold lateExpiry cadenceViolation
  dsimp only [State.setCadence]
  split
  · rfl
  · split <;> rfl
  · rfl

/-- The tick phase does not enter the late expiries. -/
theorem passExpiries_phase (fuel span n : Nat) (s : State) :
    passExpiries fuel span { s with phase := n } = { passExpiries fuel span s with phase := n } := by
  induction fuel generalizing span s with
  | zero => rfl
  | succ fuel ih =>
    unfold passExpiries
    cases timer : s.cadence.timer with
    | none => rfl
    | some e =>
      dsimp only
      have count : State.untilCount { s with phase := n } e = s.untilCount e := rfl
      rw [count]
      split
      · rw [← ih, ← lateExpiry_phase]
      · rfl

theorem cadenceViolation_timer (v : Violation) (s : State) :
    (cadenceViolation v s).cadence.timer = s.cadence.timer ∧
      (cadenceViolation v s).cadence.late = s.cadence.late := by
  unfold cadenceViolation
  dsimp only
  (repeat' split) <;> simp

/-- After a late expiry the timer runs on from its time by Lt. -/
theorem lateExpiry_timer (e : BitVec 32) (s : State) :
    (lateExpiry e s).cadence.timer = some (e + BitVec.ofNat 32 s.cadence.late) ∧
      (lateExpiry e s).cadence.late = s.cadence.late ∧ (lateExpiry e s).us = s.us := by
  unfold lateExpiry
  dsimp only
  obtain ⟨timer, late⟩ := cadenceViolation_timer .late
    (s.setCadence { s.cadence with
      expired := true, timer := some (e + BitVec.ofNat 32 s.cadence.late) })
  exact ⟨timer, late, by simp⟩

/-- From a late expiry to the next it is Lt. -/
theorem untilCount_lateExpiry {e e' : BitVec 32} {s : State}
    (next : some (e + BitVec.ofNat 32 s.cadence.late) = some e') :
    (lateExpiry e { s with us := e }).untilCount e' = (BitVec.ofNat 32 s.cadence.late).toNat := by
  obtain ⟨-, -, us⟩ := lateExpiry_timer e { s with us := e }
  rw [State.untilCount, us, ← Option.some.inj next]
  simp [BitVec.add_comm e]

/-- Fuel for every microsecond of the span is enough where each expiry lies ahead. -/
theorem passExpiries_fuel {f g span : Nat} {s : State} (enough : span ≤ f) (enough' : span ≤ g)
    (ahead : ∀ e, s.cadence.timer = some e → 0 < s.untilCount e)
    (runs : BitVec.ofNat 32 s.cadence.late ≠ 0) : passExpiries f span s = passExpiries g span s := by
  have stop (fuel : Nat) (t : State) : passExpiries fuel 0 t = { t with us := t.us + 0 } := by
    cases fuel with
    | zero => rfl
    | succ fuel =>
      unfold passExpiries
      cases t.cadence.timer <;> simp
  induction span using Nat.strongRecOn generalizing f g s with
  | ind span ih =>
    obtain _ | span := span
    · rw [stop, stop]
    obtain _ | f := f
    · omega
    obtain _ | g := g
    · omega
    unfold passExpiries
    cases timer : s.cadence.timer with
    | none => rfl
    | some e =>
      have less := ahead e timer
      dsimp only
      split
      · obtain ⟨next, late, us⟩ := lateExpiry_timer e { s with us := e }
        refine ih _ (by omega) (by omega) (by omega) (fun e' is => ?_) (by rwa [late])
        rw [untilCount_lateExpiry (next ▸ is)]
        exact Nat.pos_of_ne_zero fun zero => runs (BitVec.eq_of_toNat_eq zero)
      · rfl

theorem advanceToPhase_behind {n : Nat} {s : State} (behind : n ≤ s.phase) :
    advanceToPhase n s = s := if_pos behind

/-- With no expiry before the moment, the count and the phase come to it. -/
theorem advanceToPhase_clear {n : Nat} {s : State} (ahead : s.phase < n)
    (clear : ∀ e, s.cadence.timer = some e → n - s.phase ≤ (e - s.us).toNat) :
    advanceToPhase n s = { s with us := s.us + BitVec.ofNat 32 (n - s.phase), phase := n } := by
  rw [advanceToPhase, if_neg (by omega), advanceTime]
  unfold passExpiries
  cases timer : s.cadence.timer with
  | none => rfl
  | some e =>
    have far := clear e timer
    dsimp only
    rw [State.untilCount, if_neg (by omega)]

theorem takeUp_of_not_mem {c : Instr} {s : State} (none : c ∉ s.handed) : s.takeUp c = s := by
  simp [State.takeUp, none, List.erase_of_not_mem]

/-- The time base takes a late expiry before the moment on the way. -/
theorem advanceToPhase_expiry {n : Nat} {s : State} {e : BitVec 32} (ahead : s.phase < n)
    (inTick : n < 1000) (timer : s.cadence.timer = some e) (before : (e - s.us).toNat < n - s.phase)
    (runs : BitVec.ofNat 32 s.cadence.late ≠ 0) :
    advanceToPhase n s = advanceToPhase n (takeExpiry s) := by
  have within : s.phase + s.untilCount e < 1000 := by
    rw [State.untilCount]
    omega
  have moved : takeExpiry s =
      { lateExpiry e { s with us := e } with phase := s.phase + s.untilCount e } := by
    rw [← lateExpiry_phase]
    simp only [takeExpiry, timer, if_pos within]
  have first : advanceTime (n - s.phase) s =
      passExpiries (n - s.phase) (n - s.phase - s.untilCount e) (lateExpiry e { s with us := e }) := by
    rw [advanceTime, passExpiries, timer]
    exact if_pos before
  have rest : n - (s.phase + s.untilCount e) = n - s.phase - s.untilCount e := by omega
  obtain ⟨next, late, us⟩ := lateExpiry_timer e { s with us := e }
  have fuel : passExpiries (n - s.phase) (n - s.phase - s.untilCount e)
      (lateExpiry e { s with us := e }) =
        advanceTime (n - s.phase - s.untilCount e) (lateExpiry e { s with us := e }) := by
    refine passExpiries_fuel (by omega) (by omega) (fun e' is => ?_) (by rwa [late])
    rw [untilCount_lateExpiry (next ▸ is)]
    exact Nat.pos_of_ne_zero fun zero => runs (BitVec.eq_of_toNat_eq zero)
  generalize lateExpiry e { s with us := e } = u at moved first fuel
  have later : ¬n ≤ ({ u with phase := s.phase + s.untilCount e } : State).phase := by
    simp only [State.untilCount]
    omega
  have onward : advanceTime (n - (s.phase + s.untilCount e))
      { u with phase := s.phase + s.untilCount e } =
        { advanceTime (n - s.phase - s.untilCount e) u with phase := s.phase + s.untilCount e } := by
    rw [rest]
    exact passExpiries_phase _ _ _ u
  rw [advanceToPhase, if_neg (by omega), first, fuel, moved, advanceToPhase, if_neg later, onward]

/-! ### Good ends -/

/-- What a good end leaves, over a frame whose FCS has been compared. -/
theorem rxEnd_good {s : State} {fcs : List Octet} (acts : s.ring.acting = true)
    (matches_ : fcsValue fcs = fcsOf s.ring.frame.rxCrc) :
    rxEnd (s.checked fcs) =
      { s with
        handed := s.handed ++ handOvers s.ring s.us
        awaiting := s.awaiting ++ (handOvers s.ring s.us).map fun c => ⟨s.ring.frame.ordinal, c⟩
        portB :=
          s.portB ++ (fcsOctets (fcsOf s.ring.frame.txCrc)).map PortSymbol.octet ++ [.endSymbol]
        ring :=
          { s.ring with
            takeSlots := Tab.all 128 none, mgmtSlots := [], lastGood := s.ring.frame.seq
            goodCount := s.ring.goodCount + 1
            link := if s.ring.link = .sync then .up else s.ring.link
            reception := .between
            frame :=
              { s.ring.frame with octets := s.ring.frame.octets + 4, buf := [], fcsOk := true } } } := by
  obtain ⟨-, through⟩ := acting_facts acts
  have checked : s.checked fcs =
      (s.emitOctets (fcsOctets (fcsOf s.ring.frame.txCrc))).setFrame
        { s.ring.frame with octets := s.ring.frame.octets + 4, buf := [], fcsOk := true } .endWait := by
    simp [State.checked, matches_]
  have ends : rxEnd (s.checked fcs) = goodEnd (s.checked fcs) := by
    simp [checked, rxEnd, State.setFrame, State.setRing, State.emitOctets, State.emit,
      Reception.inFrame, through]
  rw [ends, goodEnd, checked]
  rfl

/-- Settles O7: the octets of the FCS, the end symbol, and the time base on the way to it. -/
theorem goodEndCommitsFrame : Obligations.GoodEndCommitsFrame := by
  refine ⟨fun octets phase s acts check empty four size matches_ => ?_, fun n s =>
    ⟨advanceToPhase_behind, advanceToPhase_clear, fun e t ahead inTick timer before runs none result =>
      ?_⟩⟩
  · refine congrArg Host.Outcome.next ?_
    generalize is : advanceToPhase phase.val (s.takeUp (.frameGoodEnd octets phase)) = t
    have ring : t.ring = s.ring := by simp [← is]
    have out : t.portB = s.portB := by simp [← is]
    obtain ⟨-, through⟩ := acting_facts acts
    rw [← ring] at acts check empty size matches_ through
    rw [rxOctets_fcs check through empty size four, rxEnd_good acts matches_, ring, out]
  · have taken : takeExpiry s = t := by
      have is := Host.Outcome.next.inj result
      rwa [takeUp_of_not_mem none] at is
    rw [← taken]
    exact advanceToPhase_expiry ahead inTick timer before runs

end Sys2Proof.Machine
end

section
/-! PROOFS. The bad ends of frames (9.4) and the hand-overs of a good end. -/

namespace Sys2Proof.Machine

open Sys2Proof

/-! ### Bad ends -/

/-- The complement of the sent CRC is not the sent CRC. -/
theorem complement_ne (v : BitVec 32) : ~~~v ≠ v := by
  intro same
  have bit := congrArg (BitVec.getLsbD · 0) same
  simp at bit

section
variable {s : State} (acts : s.ring.acting = true)
include acts

theorem rxAbort_acting : rxAbort s = discarded .abort [.abortSymbol] .between s := by
  obtain ⟨inside, through⟩ := acting_facts acts
  simp [rxAbort, inside, through, badEnd_eq_discarded]

theorem rxIdle_acting : rxIdle s = discarded .structural [.abortSymbol] .ignoring s := by
  obtain ⟨inside, through⟩ := acting_facts acts
  simp [rxIdle, inside, through, badEnd_eq_discarded]

theorem rxEnd_early (early : s.ring.reception ≠ .endWait) :
    rxEnd s = discarded .structural [.abortSymbol] .between s := by
  obtain ⟨inside, through⟩ := acting_facts acts
  simp [rxEnd, inside, through, early, badEnd_eq_discarded]

/-- The 1537th octet ends a frame bad before any other judgement. -/
theorem rxOctet_oversize {o : Octet} (size : 1536 ≤ s.ring.frame.octets) :
    rxOctet o s = discarded .oversize [.abortSymbol] .ignoring s := by
  obtain ⟨inside, through⟩ := acting_facts acts
  simp [rxOctet, inside, through, maxFrameOctets, size, badEnd_eq_discarded]

theorem rxOctet_endWait {o : Octet} (wait : s.ring.reception = .endWait)
    (size : s.ring.frame.octets < 1536) :
    rxOctet o s = discarded .structural [.abortSymbol] .ignoring s := by
  obtain ⟨inside, through⟩ := acting_facts acts
  simp [rxOctet, wait, Reception.inFrame, through, maxFrameOctets, Nat.not_le.mpr size,
    badEnd_eq_discarded]

omit acts in
/-- The octets after one that ends the frame are ignored. -/
theorem rxOctets_discards {o : Octet} {rest : List Octet} {why : BadEnd}
    (ends : rxOctet o s = discarded why [.abortSymbol] .ignoring s) :
    rxOctets (o :: rest) s = ignored rest.length (discarded why [.abortSymbol] .ignoring s) := by
  rw [rxOctets_cons, ends, rxOctets_outside _ rfl]

end

/-- A frame whose FCS has not matched ends bad at its end symbol. -/
theorem rxEnd_bad {s : State} {fcs : List Octet} (acts : s.ring.acting = true)
    (check : s.ring.reception = .check) (differs : fcsValue fcs ≠ fcsOf s.ring.frame.rxCrc)
    (empty : s.ring.frame.buf = []) :
    rxEnd (s.checked fcs) =
      discarded .fcs
        ((fcsOctets (~~~fcsOf s.ring.frame.txCrc)).map PortSymbol.octet ++ [.endSymbol]) .between
        { s with
          ring :=
            { s.ring with
              frame := { s.ring.frame with octets := s.ring.frame.octets + 4, fcsOk := false } } } := by
  obtain ⟨-, through⟩ := acting_facts acts
  have checked : s.checked fcs =
      (s.emitOctets (fcsOctets (~~~fcsOf s.ring.frame.txCrc))).setFrame
        { s.ring.frame with octets := s.ring.frame.octets + 4, buf := [], fcsOk := false } .endWait := by
    simp only [State.checked, beq_eq_false_iff_ne.mpr differs, Bool.false_eq_true, if_false]
  have ends : rxEnd (s.checked fcs) = badEnd .fcs [.endSymbol] .between (s.checked fcs) := by
    simp [checked, rxEnd, State.setFrame, State.setRing, State.emitOctets, State.emit,
      Reception.inFrame, through]
  rw [ends, badEnd_eq_discarded, checked]
  simp [discarded, State.setFrame, State.setRing, State.emitOctets, State.emit, check, empty]

/-- A frame cut within its FCS leaves with as many octets in place of those that had arrived. -/
theorem rxAbort_inCheck {s : State} {buf : List Octet} (acts : s.ring.acting = true) :
    rxAbort (s.inCheck buf) = discarded .abort [.abortSymbol] .between (s.inCheck buf) := by
  obtain ⟨-, through⟩ := acting_facts acts
  refine rxAbort_acting ?_
  simp [State.inCheck, State.setFrame, Ring.acting, Reception.inFrame, through]

theorem knownKind_iff {k : Octet} :
    knownKind k = true ↔ k ∈ [kindData, kindMgmt, kindReply, kindSlot, kindEvent] := by
  simp [knownKind, or_assoc]

section
variable {s : State} {o : Octet}

theorem rxHeader_unknown (fresh : s.ring.frame.buf = []) (a : o ≠ 0x01#8) (b : o ≠ 0x02#8) :
    rxHeader o s = discarded .structural [.abortSymbol] .ignoring s := by
  rw [← badEnd_eq_discarded]
  unfold rxHeader
  exact if_pos ⟨by simp [fresh], a, b⟩

theorem rxCell_bad (bad : badCellOctets (s.ring.frame.buf ++ [o]) = true) :
    rxCell o s = discarded .structural [.abortSymbol] .ignoring s := by
  rw [← badEnd_eq_discarded]
  exact if_pos bad

theorem badCellOctets_kind (unknown : o ∉ [kindData, kindMgmt, kindReply, kindSlot, kindEvent]) :
    badCellOctets ([] ++ [o]) = true := by
  have no : knownKind o = false := by
    rw [← knownKind_iff] at unknown
    simpa using unknown
  simp [badCellOctets, no]

theorem badCellOctets_count {buf : List Octet} (four : buf.length = 4) (long : 48 < o.toNat) :
    badCellOctets (buf ++ [o]) = true := by
  have count : octAt (buf ++ [o]) 4 = o.toNat := by
    rw [octAt, ← four]
    simp
  simp [badCellOctets, four, count, long]

end

theorem rxStart_acting {s : State} (acts : s.ring.acting = true) (clear : s.ring.transparent = false)
    (link : s.ring.link ≠ .down) :
    rxStart s = begun (discarded .structural [.abortSymbol] .between s) := by
  simp [rxStart, acts, clear, link, badEnd_eq_discarded, beginFrame_eq_begun]

theorem ignored_idles (n : Nat) (s : State) :
    (ignored n s).idles = ignored (n + 1) s := by
  simp [ignored, State.idles, State.emit, List.replicate_succ']

theorem ignored_ignored (m n : Nat) (s : State) : ignored n (ignored m s) = ignored (m + n) s := by
  simp [ignored]

/-- Outside a frame the symbol after the octets is ignored too. -/
theorem rxTail_outside {s : State} (os : List Octet) {tail : FrameTail} (is : tail ≠ .nothing)
    (outside : s.ring.reception.inFrame = false) :
    rxTail tail (rxOctets os s) = ignored (os.length + 1) s := by
  have still : (ignored os.length s).ring.reception.inFrame = false := outside
  rw [rxOctets_outside os outside, ← ignored_idles]
  cases tail with
  | nothing => exact absurd rfl is
  | endSymbol | abortSymbol | idleSymbol => simp [rxTail, rxEnd, rxAbort, rxIdle, still]

theorem rxStart_down {s : State} (os : List Octet) (down : s.ring.link = .down)
    (outside : s.ring.reception.inFrame = false) :
    rxOctets os (rxStart s) = ignored (os.length + 1) s := by
  have idle : rxStart s = ignored 1 s := by
    rw [rxStart, if_pos down]
    rfl
  have still : (ignored 1 s).ring.reception.inFrame = false := outside
  rw [idle, rxOctets_outside os still, ignored_ignored, Nat.add_comm]

/-- Settles O8: each octet and each symbol by the reception state it finds. -/
theorem framesEndBad : Obligations.FramesEndBad := by
  refine ⟨fun octets s acts check empty four size differs => ⟨?_, congrArg Host.Outcome.next ?_⟩,
    fun s acts => ⟨congrArg Host.Outcome.next (rxAbort_acting (s := s.takeUp _) acts),
      congrArg Host.Outcome.next (rxIdle_acting (s := s.takeUp _) acts),
      fun early => congrArg Host.Outcome.next (rxEnd_early (s := s.takeUp _) acts early)⟩,
    fun octets s acts check empty short size => ⟨_, rfl, ?_⟩, fun o rest s acts => ?_,
    fun octets s acts clear link => congrArg Host.Outcome.next ?_, fun octets s outside =>
      ⟨fun tail mem => congrArg Host.Outcome.next ?_, fun down => congrArg Host.Outcome.next ?_⟩⟩
  · rw [fcsValue_octets]
    exact complement_ne _
  · obtain ⟨-, through⟩ := acting_facts acts
    have fcs := rxOctets_fcs (s := s.takeUp (.frameBadEnd octets .endSymbol)) check through empty size
      four
    rw [fcs]
    exact rxEnd_bad (s := s.takeUp (.frameBadEnd octets .endSymbol)) acts check differs empty
  · obtain ⟨-, through⟩ := acting_facts acts
    have fcs := rxOctets_fcs_short (s := s.takeUp (.frameBadEnd octets .abortSymbol)) check through
      empty size short
    rw [fcs, rxTail, rxAbort_inCheck (s := s.takeUp (.frameBadEnd octets .abortSymbol)) acts]
    exact ⟨rfl, rfl, rfl⟩
  · dsimp only
    obtain ⟨-, through⟩ := acting_facts acts
    have acts' : (s.takeUp (.frameBadEnd (o :: rest) .nothing)).ring.acting = true := acts
    have bad {why : BadEnd} (ends : rxOctet o (s.takeUp (.frameBadEnd (o :: rest) .nothing)) =
          discarded why [.abortSymbol] .ignoring (s.takeUp (.frameBadEnd (o :: rest) .nothing))) :
        exec (.frameBadEnd (o :: rest) .nothing) s =
          .next (ignored rest.length (discarded why [.abortSymbol] .ignoring
            (s.takeUp (.frameBadEnd (o :: rest) .nothing)))) :=
      congrArg Host.Outcome.next (rxOctets_discards ends)
    refine ⟨fun size => bad (rxOctet_oversize acts' size), fun size => ⟨fun header fresh a b => ?_,
      fun cells fresh unknown => ?_, fun cells four long => ?_, fun wait => ?_⟩⟩
    · exact bad ((rxOctet_header (s := s.takeUp _) header through size).trans
        (rxHeader_unknown (s := s.takeUp _) fresh a b))
    · refine bad ((rxOctet_cells (s := s.takeUp _) cells through size).trans
        (rxCell_bad (s := s.takeUp _) ?_))
      have held : (s.takeUp (.frameBadEnd (o :: rest) .nothing)).ring.frame.buf = [] := fresh
      rw [held]
      exact badCellOctets_kind unknown
    · exact bad ((rxOctet_cells (s := s.takeUp _) cells through size).trans
        (rxCell_bad (s := s.takeUp _) (badCellOctets_count four long)))
    · exact bad (rxOctet_endWait acts' wait size)
  · rw [rxStart_acting (s := s.takeUp _) acts clear link]
  · have out : s.ring.reception.inFrame = false := by
      obtain is | is := outside <;> simp [is, Reception.inFrame]
    have some_ : tail ≠ .nothing := by
      rintro rfl
      simp at mem
    exact rxTail_outside (s := s.takeUp _) octets some_ out
  · have out : s.ring.reception.inFrame = false := by
      obtain is | is := outside <;> simp [is, Reception.inFrame]
    exact rxStart_down (s := s.takeUp _) octets down out

/-! ### The value taken for an object -/

/-- Whether a slot holds the value taken for an object. -/
def Taken.isOf (x : Option Taken) (cls : ObjClass) (inst : Nat) : Prop :=
  ∃ y, x = some y ∧ y.cls = cls ∧ y.inst.toNat = inst

/-- What a slot gives of an object. -/
def Taken.valueOf (cls : ObjClass) (inst : Nat) (x : Option Taken) : Option (List Octet) :=
  match x with
  | some t => if t.cls = cls ∧ t.inst.toNat = inst then some t.payload else none
  | none => none

theorem valueOf_none {cls : ObjClass} {inst : Nat} {x : Option Taken}
    (empty : ¬Taken.isOf x cls inst) : Taken.valueOf cls inst x = none := by
  cases x with
  | none => rfl
  | some t => exact if_neg fun is => empty ⟨t, rfl, is⟩

theorem takenFor_eq (slots : Tab 128 (Option Taken)) (cls : ObjClass) (inst : Nat) :
    takenFor slots cls inst = (slots.entries).findSome? (Taken.valueOf cls inst) := rfl

theorem takenFor_none {slots : Tab 128 (Option Taken)} {cls : ObjClass} {inst : Nat}
    (empty : ∀ e, ¬Taken.isOf (slots.get e) cls inst) : takenFor slots cls inst = none := by
  rw [takenFor_eq, List.findSome?_eq_none_iff]
  intro x mem
  obtain ⟨e, rfl⟩ := Tab.mem_entries.mp mem
  exact valueOf_none (empty e)

theorem entries_length {n : Nat} {α : Type} (t : Tab n α) : t.entries.length = n := by
  simp [Tab.entries]

theorem entries_getElem {n : Nat} {α : Type} (t : Tab n α) (i : Fin n)
    (inside : i.val < t.entries.length) : t.entries[i.val] = t.get i := by
  simp [Tab.entries, Tab.get]

/-- Of two slots that hold one object the lower one's value is taken. -/
theorem takenFor_lowest {slots : Tab 128 (Option Taken)} {cls : ObjClass} {inst : Nat} {e : Fin 128}
    {y : Taken} (here : slots.get e = some y) (class_ : y.cls = cls) (at_ : y.inst.toNat = inst)
    (lowest : ∀ e' < e, ¬Taken.isOf (slots.get e') cls inst) :
    takenFor slots cls inst = some y.payload := by
  rw [takenFor_eq, List.findSome?_eq_some_iff]
  have found : Taken.valueOf cls inst (slots.get e) = some y.payload := by
    rw [here]
    exact if_pos ⟨class_, at_⟩
  have inside : e.val < slots.entries.length := by
    rw [entries_length]
    exact e.isLt
  refine ⟨slots.entries.take e, slots.get e, slots.entries.drop (e + 1), ?_, found, fun x mem => ?_⟩
  · rw [← entries_getElem slots e inside, List.getElem_cons_drop, List.take_append_drop]
  · obtain ⟨j, lt, rfl⟩ := List.mem_take_iff_getElem.mp mem
    have before : j < 128 := by omega
    rw [entries_getElem slots ⟨j, before⟩]
    exact valueOf_none (lowest ⟨j, before⟩ (by
      rw [Fin.lt_def]
      exact (lt_min_iff.mp lt).1))

/-! ### The hand-overs of a good end -/

theorem handOvers_async {r : Ring} {us : BitVec 32} (kind : r.frame.kind = .async) :
    handOvers r us = r.mgmtSlots ++ [.eventRelease r.frame.ordinal] := by
  simp [handOvers, kind]

theorem handOvers_cycle {r : Ring} {us : BitVec 32} (kind : r.frame.kind = .cycle) :
    handOvers r us =
      ((List.finRange 4).map fun h => Instr.cycleDelivery h (deliveryFor r.takeSlots h)) ++
        dockDeliveries r.takeSlots ++ condDeliveries r.takeSlots ++
        [.cycleFrameNotice us, .requiredEntryJudgement (filledSlots r.takeSlots)] ++
        r.mgmtSlots ++ [.eventRelease r.frame.ordinal] := by
  simp [handOvers, kind]

/-- Settles O9: the list by the frame's kind, each value that of the lowest slot that holds its
object. -/
theorem handOversOfAFrame : Obligations.HandOversOfAFrame := by
  refine ⟨fun r us => ⟨handOvers_async, fun kind => ?_⟩, ?_⟩
  · refine ⟨fun h => ?_, ?_, ?_, ⟨r.deliveries us, by rw [handOvers_eq, List.append_assoc]⟩⟩ <;>
      rw [handOvers_cycle kind]
    case refine_2 => simp
    case refine_3 => simp [filledSlots]
    simp only [List.mem_append, List.mem_map]
    exact .inl (.inl (.inl (.inl (.inl ⟨h, List.mem_finRange h, rfl⟩))))
  · intro r us command endpoint trim dock cond holds taken kind commands endpoints trims docks conds
    have value {cls : ObjClass} {inst : Nat} {v : Option (List Octet)} (is : taken cls inst v) :
        takenFor r.takeSlots cls inst = v := by
      obtain ⟨rfl, empty⟩ | ⟨e, y, here, class_, at_, rfl, lowest⟩ := is
      · exact takenFor_none empty
      · exact takenFor_lowest here class_ at_ lowest
    have delivery (h : Head) : deliveryFor r.takeSlots h =
        { command := (command h).map fun l => ⟨l.getD 0 0, l.getD 1 0, w16 (octAt16 l 2)⟩
          endpoint := (endpoint h).map fun l => octAt16 l 0
          trims := Tab.ofFn fun z => (trim (zoneCh h z)).map fun l => (w16 (octAt16 l 0)).toInt } := by
      simp only [deliveryFor, value (commands h), value (endpoints h), value (trims _)]
      rfl
    rw [handOvers_cycle kind]
    simp only [delivery, dockDeliveries, condDeliveries, value (docks _), value (conds _)]
    rfl

end Sys2Proof.Machine
end

section
/-! PROOFS. Cells as they pass (8.4, 9.3, 10.1, 12.3): what a cell that is taken whole leaves as. -/

namespace Sys2Proof.Machine

open Sys2Proof

/-! ### A cell that is passed -/

section
variable {c out : Cell} {s u : State}

/-- A cell taken whole leaves as it is passed. -/
theorem arriveCell_passed (whole : takesWhole c s.ring = true)
    (pass : passCell c (s.holding c) = (u.holding c, out)) : arriveCell c s = passed c out u := by
  rw [arriveCell_whole whole, completeCell, pass]
  rfl

theorem passCell_data (kind : c.kind = kindData) : passCell c s = passData c s := if_pos kind

theorem passCell_mgmt (kind : c.kind = kindMgmt) : passCell c s = passMgmt c s := by
  simp [passCell, kind, kindMgmt, kindData]

theorem passCell_slot (kind : c.kind = kindSlot) : passCell c s = passSlot c s := by
  simp [passCell, kind, kindMgmt, kindData, kindSlot]

theorem passCell_other (kind : c.kind = kindReply ∨ c.kind = kindEvent) : passCell c s = (s, c) := by
  obtain kind | kind := kind <;>
    simp [passCell, kind, kindMgmt, kindData, kindSlot, kindReply, kindEvent]

theorem passCell_unmapped (kind : c.kind = kindData)
    (none : ∀ e, (s.map.entries.get e).valid = true → (s.map.entries.get e).tag ≠ c.tag) :
    passCell c s = (s, c) := by
  have unheld : s.map.find c.tag = Option.none := by
    simpa [CellMap.find] using none
  rw [passCell_data kind, passData, unheld]

/-- A cell that nothing acts on passes untouched. -/
theorem arriveCell_untouched (whole : takesWhole c s.ring = true)
    (rests : (c.kind = kindData ∧
        ∀ e, (s.map.entries.get e).valid = true → (s.map.entries.get e).tag ≠ c.tag) ∨
      c.kind = kindReply ∨ c.kind = kindEvent) : arriveCell c s = passed c c s := by
  refine arriveCell_passed whole ?_
  obtain ⟨kind, none⟩ | kind := rests
  · exact passCell_unmapped kind none
  · exact passCell_other kind

end

/-! ### DATA cells -/

section
variable {c : Cell} {e : Fin 128} {s : State}

theorem passCell_take (kind : c.kind = kindData) (found : s.map.find c.tag = some e)
    (dir : (s.map.entries.get e).dir = .take) :
    passCell c (s.holding c) = takeCell e c (s.holding c) := by
  have held : (s.holding c).map = s.map := rfl
  simp only [passCell_data kind, passData, held, found, dir]

theorem passCell_give (kind : c.kind = kindData) (found : s.map.find c.tag = some e)
    (dir : (s.map.entries.get e).dir = .give) :
    passCell c (s.holding c) = giveCell e c (s.holding c) := by
  have held : (s.holding c).map = s.map := rfl
  simp only [passCell_data kind, passData, held, found, dir]

theorem takeCell_async (kind : s.ring.frame.kind = .async) :
    takeCell e c (s.holding c) = (s.holding c, c) := by
  have held : (s.holding c).ring.frame.kind = s.ring.frame.kind := rfl
  simp only [takeCell, held, kind]

theorem takeCell_fits (kind : s.ring.frame.kind = .cycle)
    (width : c.payload.length = classWidth (s.map.entries.get e).cls) :
    takeCell e c (s.holding c) =
      (State.holding
        { s with
          ring :=
            { s.ring with
              takeSlots := s.ring.takeSlots.upd e
                (some ⟨(s.map.entries.get e).cls, (s.map.entries.get e).inst, c.payload⟩) } } c,
        { c with flags := setFlag c.flags flagTaken }) := by
  have held : (s.holding c).ring.frame.kind = s.ring.frame.kind := rfl
  simp only [takeCell, held, kind]
  exact if_neg (not_not.mpr width)

theorem takeCell_misfits (kind : s.ring.frame.kind = .cycle)
    (width : c.payload.length ≠ classWidth (s.map.entries.get e).cls) :
    takeCell e c (s.holding c) =
      ((s.raiseCellFault e 0 c).holding c, { c with flags := setFlag c.flags flagFault }) := by
  have held : (s.holding c).ring.frame.kind = s.ring.frame.kind := rfl
  simp only [takeCell, held, kind]
  exact if_pos width

theorem giveCell_collides (given : c.flags &&& 0x02#8 ≠ 0#8) :
    giveCell e c (s.holding c) = ((s.raiseCellFault e 1 c).holding c, c) :=
  if_pos (bne_iff_ne.mpr given)

theorem giveCell_misfits (fresh : ¬c.flags &&& 0x02#8 ≠ 0#8)
    (width : c.payload.length ≠ classWidth (s.map.entries.get e).cls) :
    giveCell e c (s.holding c) =
      ((s.raiseCellFault e 0 c).holding c, { c with flags := setFlag c.flags flagFault }) :=
  (if_neg fun given => fresh (bne_iff_ne.mp given)).trans (if_pos width)

theorem giveCell_fits (fresh : ¬c.flags &&& 0x02#8 ≠ 0#8)
    (width : ¬c.payload.length ≠ classWidth (s.map.entries.get e).cls) :
    giveCell e c (s.holding c) =
      (s.holding c,
        { c with
          payload := padTo c.payload.length
            (giveValue (s.map.entries.get e).cls (s.map.entries.get e).inst s).1
          flags := givenFlags c.flags
            (giveValue (s.map.entries.get e).cls (s.map.entries.get e).inst s).2 }) :=
  (if_neg fun given => fresh (bne_iff_ne.mp given)).trans (if_neg width)

theorem givenFlags_eq (f : Octet) (held : Bool) :
    givenFlags f held = if held then f ||| 0x02#8 ||| 0x04#8 else (f ||| 0x02#8) &&& 0xFB#8 := rfl

end

/-- Settles O11: by the frame's kind and the cell's length. -/
theorem takeStagesValue : Obligations.TakeStagesValue := by
  refine ⟨fun c e s whole kind found dir => congrArg Host.Outcome.next ?_,
    fun c s whole rests x mem => ?_⟩
  · have pass := passCell_take (s := s.takeUp (.take c)) kind found dir
    dsimp only
    split
    · next async => exact arriveCell_passed whole (pass.trans (takeCell_async async))
    · next cycle =>
      split
      · next fits => exact arriveCell_passed whole (pass.trans (takeCell_fits cycle fits))
      · next misfits => exact arriveCell_passed whole (pass.trans (takeCell_misfits cycle misfits))
  · have goes (x : Instr) := arriveCell_untouched (s := s.takeUp x) whole rests
    simp only [List.mem_cons, List.not_mem_nil, or_false] at mem
    rcases mem with rfl | rfl | rfl <;> exact congrArg Host.Outcome.next (goes _)

/-! ### Marks packed into bits -/

theorem packBits_lt (l : List Bool) : packBits l < 2 ^ l.length := by
  induction l with
  | nil => simp [packBits]
  | cons b l ih =>
    rw [packBits, List.length_cons, Nat.pow_succ]
    have bit : boolCode b ≤ 1 := by cases b <;> decide
    omega

theorem packBits_testBit (l : List Bool) (i : Nat) : (packBits l).testBit i = l.getD i false := by
  induction l generalizing i with
  | nil => simp [packBits]
  | cons b l ih =>
    cases i with
    | zero => cases b <;> simp [packBits, boolCode, Nat.testBit_zero]
    | succ i =>
      have half : (boolCode b + 2 * packBits l) / 2 = packBits l := by
        have bit : boolCode b ≤ 1 := by cases b <;> decide
        omega
      rw [packBits, Nat.testBit_succ, half, ih]
      rfl

theorem oct_packBits (l : List Bool) {i : Nat} (small : i < 8) :
    (oct (packBits l)).getLsbD i = l.getD i false := by
  rw [oct, BitVec.getLsbD_ofNat, packBits_testBit]
  simp [small]

/-! ### The values of give objects -/

theorem indexOf_oct {n : Nat} (i : Fin n) (small : n ≤ 256) : indexOf n (oct i.val) = some i := by
  have same : (oct i.val).toNat = i.val := octet_toNat (by omega)
  simp [indexOf, same]

theorem getD_map_finRange {n : Nat} {α : Type} (f : Fin n → α) (tail : List α) (d : α) (i : Fin n) :
    ((List.finRange n).map f ++ tail).getD i.val d = f i := by
  have inside : i.val < ((List.finRange n).map f).length := by simp
  rw [List.getD_append _ _ _ _ inside, List.getD_eq_getElem _ _ inside]
  simp

theorem headStatus_value (h : Head) (s : State) :
    giveValue .headStatus (oct h.val) s = (headStatus h s, false) := by
  simp [giveValue, indexOf_oct]

/-- The marks of a zone and of the head after them, packed into an octet. -/
theorem zoneMarks_bits (f : Zone → Bool) (b : Bool) :
    (oct (packBits ((List.finRange 7).map f ++ [b]))).getLsbD 7 = b ∧
      ∀ z : Zone, (oct (packBits ((List.finRange 7).map f ++ [b]))).getLsbD z.val = f z := by
  refine ⟨?_, fun z => ?_⟩
  · rw [oct_packBits _ (by omega)]
    simp
  · rw [oct_packBits _ (by omega), getD_map_finRange]

theorem platenStatus_value (p : Platen) (s : State) :
    giveValue .platenStatus (oct p.val) s =
      (platenStatus p s,
        (s.filters.get (positionChan p)).stale || (s.filters.get (forceChan p)).stale) := by
  simp [giveValue, indexOf_oct]

theorem activeLines_bits (p : Platen) (s : State) :
    packBits (activeLines p s) < 16 ∧
      ∀ l : Line, (packBits (activeLines p s)).testBit l.val =
        (s.queues.get p).orders.any fun o => o.active && o.line == l := by
  refine ⟨?_, fun l => ?_⟩
  · exact (packBits_lt _).trans_eq (by simp [activeLines])
  · have bit := getD_map_finRange
      (fun l : Line => (s.queues.get p).orders.any fun o => o.active && o.line == l) [] false l
    rw [List.append_nil] at bit
    rw [packBits_testBit]
    exact bit

/-- The marks of the 16 inputs, packed. -/
theorem inputMarks_bits (f : InputUnit → Bool) (s : State) :
    packBits (s.inputs.entries.map f) < 65536 ∧
      ∀ i : Fin 16, (packBits (s.inputs.entries.map f)).testBit i.val = f (s.inputs.get i) := by
  have length : (s.inputs.entries.map f).length = 16 := by rw [List.length_map, entries_length]
  refine ⟨(packBits_lt _).trans_eq (by rw [length]; rfl), fun i => ?_⟩
  have inside : i.val < (s.inputs.entries.map f).length := by
    rw [length]
    exact i.isLt
  rw [packBits_testBit, List.getD_eq_getElem _ _ inside, List.getElem_map, entries_getElem]

/-- Settles O12: collision, width and value in order; then each object's octets. -/
theorem giveWritesValue : Obligations.GiveWritesValue := by
  refine ⟨fun c e s whole kind found dir => congrArg Host.Outcome.next ?_, fun s => ?_⟩
  · have pass := passCell_give (s := s.takeUp (.give c)) kind found dir
    dsimp only
    split
    · next given => exact arriveCell_passed whole (pass.trans (giveCell_collides given))
    · next fresh =>
      split
      · next misfits => exact arriveCell_passed whole (pass.trans (giveCell_misfits fresh misfits))
      · next fits => exact arriveCell_passed whole (pass.trans (giveCell_fits fresh fits))
  · refine ⟨fun h => ?_, fun c => ⟨?_, ?_⟩, fun i => ?_, fun p => ?_, ?_, rfl⟩
    · obtain ⟨skip, masked⟩ := zoneMarks_bits (fun z => (s.zoneOf h z).masked) (s.heads.get h).skip
      obtain ⟨latch, limited⟩ := zoneMarks_bits (fun z => (s.zoneOf h z).diffLimited)
        ((s.heads.get h).latch == none)
      refine ⟨_, _, ?_, skip, latch.trans ?_, fun z => ⟨masked z, limited z⟩⟩
      · rw [headStatus_value, headStatus, List.map_map, List.map_map]
        cases (s.heads.get h).program <;> rfl
      · rw [Bool.beq_eq_decide_eq]
    · simp [giveValue, indexOf_oct, be16]
    · simp [giveValue, indexOf_oct, be16]
    · simp [giveValue, indexOf_oct, be32]
    · obtain ⟨small, bits⟩ := activeLines_bits p s
      refine ⟨packBits (activeLines p s), ?_, small, bits⟩
      rw [platenStatus_value, platenStatus]
      cases (s.docks.get p).docked <;> cases (s.conds.get p).profile <;> rfl
    · obtain ⟨small, bits⟩ := inputMarks_bits (fun u => u.filtered) s
      obtain ⟨small', bits'⟩ := inputMarks_bits InputUnit.isActive s
      exact ⟨_, _, rfl, small, small', fun i => ⟨bits i, bits' i⟩⟩

/-! ### SLOT cells -/

/-- Settles O13: by the cell's length and by what the Event Queue gives. -/
theorem slotCarriesRecord : Obligations.SlotCarriesRecord := by
  refine fun c s whole kind => ⟨congrArg Host.Outcome.next ?_, fun _ queued => ?_⟩
  · have pass : passCell c ((s.takeUp (.slotFill c)).holding c) =
        passSlot c ((s.takeUp (.slotFill c)).holding c) := passCell_slot kind
    dsimp only
    split
    · next other =>
      exact arriveCell_passed (s := s.takeUp (.slotFill c)) whole (pass.trans (if_pos other))
    · next twelve =>
      have fills := pass.trans (if_neg twelve)
      cases filled : fillSlot s.events s.ring.frame.ordinal with
      | none =>
        refine arriveCell_passed (s := s.takeUp (.slotFill c)) whole (fills.trans ?_)
        have same : fillSlot ((s.takeUp (.slotFill c)).holding c).events
            ((s.takeUp (.slotFill c)).holding c).ring.frame.ordinal = none := filled
        rw [same]
      | some x =>
        obtain ⟨r, q⟩ := x
        refine arriveCell_passed (s := s.takeUp (.slotFill c))
          (u := { s.takeUp (.slotFill c) with events := q }) whole (fills.trans ?_)
        have same : fillSlot ((s.takeUp (.slotFill c)).holding c).events
            ((s.takeUp (.slotFill c)).holding c).ring.frame.ordinal = some (r, q) := filled
        rw [same]
        rfl
  · cases filled : fillSlot s.events s.ring.frame.ordinal with
    | none =>
      obtain ⟨x, mem, waits⟩ := queued
      exact absurd waits ((slotTakesBestRecord.1 _ _).mp filled x mem)
    | some x => exact ⟨x.1, x.2, rfl⟩

/-! ### MGMT cells -/

section
variable {h : MgmtHead} {payload : List Octet} {s : State}

/-- Another node's request passes untouched. -/
theorem arriveCell_mgmt_other (whole : takesWhole (mgmtCell h payload) s.ring = true)
    (other : lowTag h.tag ≠ s.ring.node.toNat) :
    arriveCell (mgmtCell h payload) s = passed (mgmtCell h payload) (mgmtCell h payload) s :=
  arriveCell_passed whole ((passCell_mgmt rfl).trans (if_neg other))

/-- A request of this node leaves as its reply, and an accepted one is staged. -/
theorem arriveCell_mgmt_own {o : Octet} {body : List Octet}
    (whole : takesWhole (mgmtCell h (o :: body)) s.ring = true)
    (own : lowTag h.tag = s.ring.node.toNat) :
    let j := judgeStaging (judgeRequest (o :: body) s) s
    arriveCell (mgmtCell h (o :: body)) s =
      passed (mgmtCell h (o :: body))
        ⟨kindReply, h.flags, h.tag, padTo (body.length + 1) (oct (statusCode j.status) :: j.data)⟩
        { s with ring := { s.ring with mgmtSlots := s.ring.mgmtSlots ++ j.staged.toList } } := by
  refine arriveCell_passed whole ((passCell_mgmt rfl).trans ((if_pos own).trans ?_))
  have same : judgeStaging (judgeRequest (o :: body) (s.holding (mgmtCell h (o :: body))))
      (s.holding (mgmtCell h (o :: body))) = judgeStaging (judgeRequest (o :: body) s) s := rfl
  simp only [passRequest, mgmtCell] at same ⊢
  rw [same]
  cases (judgeStaging (judgeRequest (o :: body) s) s).staged with
  | none => rw [Option.toList_none, List.append_nil]; rfl
  | some i => rfl

theorem arriveCell_mgmt_empty (whole : takesWhole (mgmtCell h []) s.ring = true)
    (own : lowTag h.tag = s.ring.node.toNat) :
    arriveCell (mgmtCell h []) s = passed (mgmtCell h []) ⟨kindReply, h.flags, h.tag, []⟩ s :=
  arriveCell_passed whole ((passCell_mgmt rfl).trans (if_pos own))

end

/-- Settles O15. -/
theorem requestsAreAnswered : Obligations.RequestsAreAnswered := by
  intro h body s own x mem whole
  rw [exec_request mem]
  exact congrArg Host.Outcome.next (arriveCell_mgmt_own (s := s.takeUp x.1) whole own)

theorem requestOf_unknown {n : Nat} (unknown : n = 0 ∨ 10 < n) : requestOf n = none := by
  obtain rfl | past := unknown
  · rfl
  · obtain ⟨m, rfl⟩ := Nat.exists_eq_add_of_lt past
    rw [show 10 + m + 1 = m + 11 by omega]
    rfl

theorem judgeRequest_unknown {p : List Octet} (unknown : octAt p 0 = 0 ∨ 10 < octAt p 0)
    (s : State) : judgeRequest p s = refuse .badRequest := by
  rw [judgeRequest, requestOf_unknown unknown]

/-- Settles O16: by whose request it is, and by the length of its payload. -/
theorem requestsNotActedOn : Obligations.RequestsNotActedOn := by
  refine ⟨fun h body s other => ⟨fun x mem whole => ?_, fun whole => ?_⟩,
    fun h payload s own whole bad => congrArg Host.Outcome.next ?_⟩
  · rw [exec_request mem]
    exact congrArg Host.Outcome.next (arriveCell_mgmt_other (s := s.takeUp x.1) whole other)
  · exact congrArg Host.Outcome.next
      (arriveCell_mgmt_other (s := s.takeUp (.unknownRequestCode h body)) whole other)
  · cases payload with
    | nil => exact arriveCell_mgmt_empty (s := s.takeUp (.unknownRequestCode h [])) whole own
    | cons o body =>
      have refused := judgeRequest_unknown (bad.resolve_left (List.cons_ne_nil o body))
        (s.takeUp (.unknownRequestCode h (o :: body)))
      refine (arriveCell_mgmt_own (s := s.takeUp (.unknownRequestCode h (o :: body)))
        whole own).trans ?_
      rw [refused]
      dsimp only [judgeStaging, refuse, Option.toList_none]
      rw [List.append_nil]
      rfl
end Sys2Proof.Machine
end

section
/-! PROOFS. Table records and their octets, the checks of a request in their order, and what READ
answers. -/

namespace Sys2Proof.Machine

open Sys2Proof

/-! ### Records read back from their octets -/

theorem decode_encodeMapEntry (e : MapEntry) :
    decodeMapEntry (encodeMapEntry e) = some { e with valid := true } := by
  have tag : w16 (256 * (oct (e.tag.toNat / 256)).toNat + (oct e.tag.toNat).toNat) = e.tag := by
    rw [two_octets_spell (by omega), w16, BitVec.ofNat_toNat, BitVec.setWidth_eq]
  simp [decodeMapEntry, encodeMapEntry, be16, octAt16, octAt, dirOf_code, classOf_code,
    boolOf_code, tag]

theorem decode_encodeDirEntry {e : DirEntry} (fits : e.fits = true) :
    decodeDirEntry (encodeDirEntry e) = some { e with valid := true } := by
  simp only [DirEntry.fits, Bool.and_eq_true, decide_eq_true_eq] at fits
  simp [decodeDirEntry, encodeDirEntry, octAt, octet_toNat, fits]

theorem entries_seven {α : Type} (t : Tab 7 α) :
    t.entries = [t.get 0, t.get 1, t.get 2, t.get 3, t.get 4, t.get 5, t.get 6] :=
  List.ext_getElem (by simp [entries_length]) fun i inside _ => by
    rw [entries_length] at inside
    rw [entries_getElem t ⟨i, inside⟩]
    interval_cases i <;> rfl

/-- Values written two octets each read back in their places. -/
theorem octAt16_flatMap {l : List Nat} {tail : List Octet} (fits : ∀ x ∈ l, x ≤ 65535) :
    ∀ (i : Nat) (inside : i < l.length), octAt16 (l.flatMap be16 ++ tail) (2 * i) = l[i] := by
  induction l with
  | nil => exact fun i inside => absurd inside (Nat.not_lt_zero i)
  | cons x xs ih =>
    intro i inside
    cases i with
    | zero => exact two_octets_spell (fits x List.mem_cons_self)
    | succ i =>
      exact ih (fun y mem => fits y (List.mem_cons_of_mem x mem)) i (Nat.lt_of_succ_lt_succ inside)

theorem decode_encodeStep {r : StepRecord} (fits : r.fits = true) :
    decodeStep (encodeStep r) = some { r with valid := true } := by
  simp only [StepRecord.fits, Bool.and_eq_true, List.all_eq_true, decide_eq_true_eq, and_assoc]
    at fits
  obtain ⟨fitting, fits⟩ := fits
  have targets : (Tab.ofFn fun z : Zone => octAt16 (encodeStep r) (2 * z.val)) = r.targets := by
    refine Tab.ext_get fun z => ?_
    have inside : z.val < r.targets.entries.length := by
      rw [entries_length]
      exact z.isLt
    rw [Tab.get_ofFn, ← entries_getElem r.targets z inside]
    simp only [encodeStep, List.append_assoc]
    exact octAt16_flatMap fitting z.val inside
  unfold decodeStep
  rw [targets]
  simp [encodeStep, entries_seven, be16, octAt16, octAt, endKindOf_code, boolOf_code,
    stepCondOf_code, two_octets_spell, octet_toNat, fits]

theorem decode_encodeZone {e : ZoneConfig} (fits : e.fits = true) :
    decodeZone (encodeZone e) = some { e with valid := true } := by
  simp only [ZoneConfig.fits, Bool.and_eq_true, decide_eq_true_eq] at fits
  simp [decodeZone, encodeZone, be16, octAt16, octAt, rangeOf_code, bandActionOf_code,
    two_octets_spell, octet_toNat, fits]

theorem decode_encodeLine {e : LineConfig} (fits : e.fits = true) :
    decodeLine (encodeLine e) = some { e with valid := true } := by
  simp only [LineConfig.fits, Bool.and_eq_true, decide_eq_true_eq] at fits
  simp [decodeLine, encodeLine, be16, octAt16, octAt, boolOf_code, flowActionOf_code,
    two_octets_spell, octet_toNat, fits]

theorem decode_encodeProfile {e : ProfileEntry} (fits : e.fits = true) :
    decodeProfile (encodeProfile e) = some { e with valid := true } := by
  simp only [ProfileEntry.fits, Bool.and_eq_true, decide_eq_true_eq] at fits
  simp [decodeProfile, encodeProfile, be16, octAt16, octAt, two_octets_spell, octet_toNat, fits]

theorem decode_encodeSegment {r : SegmentRecord} (fits : r.fits = true) :
    decodeSegment (encodeSegment r) = some { r with valid := true } := by
  simp only [SegmentRecord.fits, Bool.and_eq_true, decide_eq_true_eq] at fits
  simp [decodeSegment, encodeSegment, be16, octAt16, octAt, two_octets_spell, fits]

theorem decode_encodeInput {e : InputConfig} (fits : e.fits = true) :
    decodeInput (encodeInput e) = some { e with valid := true } := by
  simp only [InputConfig.fits, decide_eq_true_eq] at fits
  simp [decodeInput, encodeInput, octAt, inputFnOf_code, boolOf_code, inputModeOf_code,
    octet_toNat, fits]

theorem encodeStep_length (r : StepRecord) : (encodeStep r).length = 36 := by
  simp [encodeStep, entries_seven, be16]

/-- Settles O20: table by table. -/
theorem tableRecordsReadBack : Obligations.TableRecordsReadBack :=
  ⟨fun e => ⟨decode_encodeMapEntry e, rfl⟩, fun _ fits => ⟨decode_encodeDirEntry fits, rfl⟩,
    fun r fits => ⟨decode_encodeStep fits, encodeStep_length r⟩,
    fun _ fits => ⟨decode_encodeZone fits, rfl⟩, fun _ fits => ⟨decode_encodeLine fits, rfl⟩,
    fun _ fits => ⟨decode_encodeProfile fits, rfl⟩,
    fun _ fits => ⟨decode_encodeSegment fits, rfl⟩, fun _ fits => ⟨decode_encodeInput fits, rfl⟩⟩

end Sys2Proof.Machine
end

section
/-! PROOFS. The checks of a request in their order, and what READ answers. -/

namespace Sys2Proof.Machine

open Sys2Proof

/-! ### Codes past their tables -/

theorem boolOf_past {n : Nat} (past : 2 ≤ n) : boolOf n = none := by
  obtain ⟨m, rfl⟩ := Nat.exists_eq_add_of_le' past
  rfl

theorem dirOf_past {n : Nat} (past : 2 ≤ n) : dirOf n = none := by
  obtain ⟨m, rfl⟩ := Nat.exists_eq_add_of_le' past
  rfl

theorem classOf_past {n : Nat} (past : 12 ≤ n) : classOf n = none := by
  obtain ⟨m, rfl⟩ := Nat.exists_eq_add_of_le' past
  rfl

theorem rangeOf_past {n : Nat} (past : 2 ≤ n) : rangeOf n = none := by
  obtain ⟨m, rfl⟩ := Nat.exists_eq_add_of_le' past
  rfl

theorem bandActionOf_past {n : Nat} (past : 3 ≤ n) : bandActionOf n = none := by
  obtain ⟨m, rfl⟩ := Nat.exists_eq_add_of_le' past
  rfl

theorem endKindOf_past {n : Nat} (past : 3 ≤ n) : endKindOf n = none := by
  obtain ⟨m, rfl⟩ := Nat.exists_eq_add_of_le' past
  rfl

theorem stepCondOf_past {n : Nat} (past : 3 ≤ n) : stepCondOf n = none := by
  obtain ⟨m, rfl⟩ := Nat.exists_eq_add_of_le' past
  rfl

theorem flowActionOf_past {n : Nat} (past : 2 ≤ n) : flowActionOf n = none := by
  obtain ⟨m, rfl⟩ := Nat.exists_eq_add_of_le' past
  rfl

theorem inputFnOf_past {n : Nat} (past : 5 ≤ n) : inputFnOf n = none := by
  obtain ⟨m, rfl⟩ := Nat.exists_eq_add_of_le' past
  rfl

theorem inputModeOf_past {n : Nat} (past : 2 ≤ n) : inputModeOf n = none := by
  obtain ⟨m, rfl⟩ := Nat.exists_eq_add_of_le' past
  rfl

theorem orderModeOf_past {n : Nat} (past : 2 ≤ n) : orderModeOf n = none := by
  obtain ⟨m, rfl⟩ := Nat.exists_eq_add_of_le' past
  rfl

theorem scopeOf_past {n : Nat} (past : 2 ≤ n) : scopeOf n = none := by
  obtain ⟨m, rfl⟩ := Nat.exists_eq_add_of_le' past
  rfl

theorem groupOf_past {n : Nat} (past : 5 ≤ n) : groupOf n = none := by
  obtain ⟨m, rfl⟩ := Nat.exists_eq_add_of_le' past
  rfl

theorem tableOf_past {n : Nat} (past : 8 ≤ n) : tableOf n = none := by
  obtain ⟨m, rfl⟩ := Nat.exists_eq_add_of_le' past
  rfl

theorem tableOf_code (t : TableId) : tableOf (tableCode t) = some t := by cases t <;> rfl

theorem groupOf_code (g : Group) : groupOf (groupCode g) = some g := by cases g <;> rfl

/-! ### The checks that all requests have -/

section
variable {r : Request} {t : TableId} {p : List Octet} {s : State}

/-- A request of a known code that names a table is judged by its length and then by its own
checks. -/
theorem judgeRequest_named (code : requestOf (octAt p 0) = some r)
    (table : requestTable r p = some t) :
    judgeRequest p s =
      if p.length ≠ requestLength r t then refuse .badRequest else judgeOwn r t p s := by
  rw [judgeRequest, code]
  dsimp only
  rw [table]

theorem judgeRequest_plain (code : requestOf (octAt p 0) = some r) (plain : r.hasTable = false) :
    judgeRequest p s =
      if p.length ≠ requestLength r .cellmap then refuse .badRequest
      else judgeOwn r .cellmap p s := by
  refine judgeRequest_named code ?_
  rw [requestTable, plain]
  rfl

theorem judgeRequest_badTable (code : requestOf (octAt p 0) = some r) (tabled : r.hasTable = true)
    (unknown : tableOf (octAt p 1) = none) : judgeRequest p s = refuse .badTable := by
  have table : requestTable r p = none := by
    rw [requestTable, if_pos tabled, unknown, ite_self]
  rw [judgeRequest, code]
  dsimp only
  rw [table]

theorem judgeRequest_tabled (code : requestOf (octAt p 0) = some r) (tabled : r.hasTable = true)
    (known : tableOf (octAt p 1) = some t) (long : 2 ≤ p.length) :
    judgeRequest p s =
      if p.length ≠ requestLength r t then refuse .badRequest else judgeOwn r t p s := by
  refine judgeRequest_named code ?_
  rw [requestTable, if_pos tabled, if_neg (by omega), known]

end

/-! ### DISPENSE -/

/-- Settles O19: by the platen and line, by mode and count, and then by the engine's checks. -/
theorem dispenseChecksInOrder : Obligations.DispenseChecksInOrder := by
  intro p s code length
  have own : judgeRequest p s = judgeDispense p s := by
    rw [judgeRequest_plain (r := .dispense) (by rw [code]; rfl) rfl]
    exact if_neg (not_not.mpr length)
  rw [own]
  refine ⟨fun outside => ?_, fun d l atD atL => ?_⟩
  · unfold judgeDispense
    split
    · next platen =>
      rw [dif_neg (by omega)]
    · rfl
  · have inside : octAt p 1 < 3 := atD ▸ d.isLt
    have insideL : octAt p 2 < 4 := atL ▸ l.isLt
    obtain rfl : (⟨octAt p 1, inside⟩ : Platen) = d := Fin.ext atD
    obtain rfl : (⟨octAt p 2, insideL⟩ : Line) = l := Fin.ext atL
    unfold judgeDispense
    rw [dif_pos inside, dif_pos insideL]
    refine ⟨fun bad => ?_, fun mode least most => ?_⟩
    · dsimp only
      cases known : orderModeOf (octAt p 5) with
      | none => rfl
      | some m =>
        have low : octAt p 5 ≤ 1 := by
          by_contra past
          rw [orderModeOf_past (by omega)] at known
          cases known
        exact if_neg (by omega)
    · have known : orderModeOf (octAt p 5) = some (if octAt p 5 = 0 then .single else .burst) := by
        generalize octAt p 5 = m at mode
        interval_cases m <;> rfl
      dsimp only
      rw [known]
      dsimp only
      rw [if_pos ⟨least, most⟩]
      have off : (!LineConfig.isEnabled (s.lineOf ⟨octAt p 1, inside⟩ ⟨octAt p 2, insideL⟩).config)
          = true ↔ ¬((s.lines.get (lineIx ⟨octAt p 1, inside⟩ ⟨octAt p 2, insideL⟩)).config.valid = true
            ∧ (s.lines.get (lineIx ⟨octAt p 1, inside⟩ ⟨octAt p 2, insideL⟩)).config.enabled = true) := by
        rw [Bool.not_eq_true', LineConfig.isEnabled, State.lineOf, ← Bool.not_eq_true, Bool.and_eq_true]
      have gated : (!s.gateOpen .line) = true ↔
          s.verifier.vbr = true ∧ s.verifier.line.state ≠ .verified := by
        simp [State.gateOpen, State.groupVerified, Verifier.group]
      unfold dispenseRefusal State.occupancy
      simp only [off, gated]
      split_ifs <;> rfl

/-! ### READ and STATUS -/

theorem judgeRead_past {t : TableId} {p : List Octet} (past : tableSize t ≤ octAt p 2) (s : State) :
    judgeRead t p s = refuse .badIndex := by
  have none' : readEntry t (octAt p 2) s = none := by
    unfold readEntry
    cases t <;> exact dif_neg (Nat.not_lt.mpr past)
  rw [judgeRead, none']

theorem judgeRead_entry {t : TableId} {p data : List Octet} {s : State}
    (entry : readEntry t (octAt p 2) s = some data) : judgeRead t p s = answer data := by
  rw [judgeRead, entry]

/-- The entries of a table are its values at its indices in their order. -/
theorem entries_eq_map {n : Nat} {α : Type} (t : Tab n α) :
    t.entries = (List.finRange n).map t.get :=
  List.ext_getElem (by simp [entries_length]) fun i inside _ => by
    rw [entries_length] at inside
    rw [entries_getElem t ⟨i, inside⟩, List.getElem_map, List.getElem_finRange]
    rfl

theorem oct_boolCode (b : Bool) : oct (boolCode b) = if b then 1 else 0 := by cases b <;> rfl

/-- Settles O18: the entry of each table, and STATUS. -/
theorem readAndStatusAnswer : Obligations.ReadAndStatusAnswer := by
  refine fun p s => ⟨fun code t known length => ?_, fun code length => ?_⟩
  · have own : judgeRequest p s = judgeRead t p s := by
      rw [judgeRequest_tabled (r := .read) (by rw [code]; rfl) rfl known (by omega)]
      exact if_neg (not_not.mpr length)
    rw [own]
    refine ⟨fun past => judgeRead_past past s, ?_⟩
    refine ⟨fun i is at_ => ?_, fun i is at_ => ?_, fun i is at_ => ?_, fun i is at_ => ?_,
      fun i is at_ => ?_, fun i is at_ => ?_, fun i is at_ => ?_, fun i is at_ => ?_⟩ <;>
      subst is <;> refine judgeRead_entry ?_ <;> rw [at_] <;> refine (dif_pos i.isLt).trans ?_ <;>
      refine congrArg some ?_ <;> dsimp only
    · simp only [encodeMapEntry, be16, oct_boolCode, List.cons_append]
    · simp only [encodeDirEntry, State.useCount, oct_boolCode, List.cons_append, List.nil_append]
    · simp only [encodeStep, be16, oct_boolCode, entries_eq_map, List.flatMap_map,
        List.cons_append, List.append_assoc]
    · simp only [encodeZone, be16, oct_boolCode, List.cons_append, List.nil_append]
    · simp only [encodeLine, be16, oct_boolCode, List.cons_append, List.nil_append]
    · simp only [encodeProfile, be16, oct_boolCode, List.cons_append, List.nil_append]
    · simp only [encodeSegment, be16, oct_boolCode, List.cons_append]
    · simp only [encodeInput, oct_boolCode]
  · rw [judgeRequest_plain (r := .status) (by rw [code]; rfl) rfl]
    exact if_neg (not_not.mpr length)

end Sys2Proof.Machine
end

section
/-! PROOFS. The checks of each request and what it stages. -/

namespace Sys2Proof.Machine

open Sys2Proof

/-! ### The ranges of a record -/

theorem MapEntry.inRange_iff (e : MapEntry) :
    MapEntry.inRange e = true ↔
      e.tag ≠ 0 ∧ e.dir = classDir e.cls ∧ e.inst.toNat < classInstances e.cls ∧
        (e.required = true → e.dir = .take) := by
  cases required : e.required <;> simp [MapEntry.inRange, required, and_assoc]

theorem DirEntry.inRange_iff (e : DirEntry) :
    DirEntry.inRange e = true ↔ 1 ≤ e.count ∧ e.count ≤ 24 ∧ e.first ≤ 95 ∧ e.first + e.count ≤ 96 := by
  simp [DirEntry.inRange, and_assoc]

theorem StepRecord.inRange_iff {r : StepRecord} (fits : r.fits = true) :
    StepRecord.inRange r = true ↔
      r.ringRate ≤ 4095 ∧ r.membraneRate ≤ 4095 ∧ r.trimLimit ≤ 4095 ∧
        (r.endKind = .duration → 1 ≤ r.endCount) ∧
        (r.endKind = .settled → 1 ≤ r.endCount ∧ r.endCount ≤ 255 ∧ r.band ≠ 0) ∧
        (r.endKind ≠ .duration → 1 ≤ r.maxCycles ∧ r.timeoutAction.toNat ≤ 1) ∧
        (r.dispense = true →
          r.line.toNat ≤ 3 ∧ 1 ≤ r.count ∧ r.count ≤ 1023 ∧ r.mode.toNat ≤ 1) ∧
        (r.conditioner = .sweep → r.profile.toNat ≤ 7) := by
  have mask : r.settleMask ≤ 255 := by
    simp only [StepRecord.fits, Bool.and_eq_true, decide_eq_true_eq] at fits
    simp only [fits]
  have dispense : (!r.dispense ||
      decide (r.line.toNat ≤ 3 ∧ 1 ≤ r.count ∧ r.count ≤ 1023 ∧ r.mode.toNat ≤ 1)) = true ↔
      (r.dispense = true → r.line.toNat ≤ 3 ∧ 1 ≤ r.count ∧ r.count ≤ 1023 ∧ r.mode.toNat ≤ 1) := by
    cases r.dispense <;> simp
  have sweep : (r.conditioner != .sweep || decide (r.profile.toNat ≤ 7)) = true ↔
      (r.conditioner = .sweep → r.profile.toNat ≤ 7) := by
    cases r.conditioner <;> simp
  rw [StepRecord.inRange, Bool.and_eq_true, Bool.and_eq_true, dispense, sweep]
  cases r.endKind <;> simp [mask, and_assoc]

theorem ZoneConfig.inRange_iff (e : ZoneConfig) :
    ZoneConfig.inRange e = true ↔
      e.safeRate ≤ 4095 ∧ e.opDebounce ≤ 7 ∧ e.bandDebounce ≤ 7 ∧ 1 ≤ e.staleLimit ∧
        e.staleLimit ≤ 255 ∧ e.averaging ∈ [1, 2, 4, 8] ∧ e.floor ≤ e.ceiling ∧
        (e.range = .fine → e.ceiling ≤ 40950) ∧ e.safeValue ≤ e.ceiling ∧
        e.ceiling ≤ e.opLimit := by
  cases range : e.range <;> simp [ZoneConfig.inRange, range, and_assoc, or_assoc]

theorem LineConfig.inRange_iff (e : LineConfig) :
    LineConfig.inRange e = true ↔
      5 ≤ e.strokePeriod ∧ e.strokePeriod ≤ 2000 ∧ 1 ≤ e.flowWindow ∧ e.flowWindow ≤ 1000 ∧
        1 ≤ e.missLimit ∧ e.missLimit ≤ 15 := by
  simp [LineConfig.inRange, and_assoc]

theorem ProfileEntry.inRange_iff {e : ProfileEntry} (fits : e.fits = true) :
    ProfileEntry.inRange e = true ↔
      1 ≤ e.count ∧ e.count ≤ 12 ∧ e.first ≤ 95 ∧ e.first + e.count ≤ 96 ∧ 1 ≤ e.reachBand ∧
        e.reachBand ≤ 200 ∧ 100 ≤ e.reachTimeout ∧ e.reachTimeout ≤ 10000 := by
  have repeats : e.repeats ≤ 255 := by
    simp only [ProfileEntry.fits, Bool.and_eq_true, decide_eq_true_eq] at fits
    simp only [fits]
  simp [ProfileEntry.inRange, and_assoc, repeats]

theorem SegmentRecord.inRange_iff (r : SegmentRecord) :
    SegmentRecord.inRange r = true ↔ r.position ≤ 4000 ∧ r.downforce ≤ 1000 ∧ r.dwell ≤ 5000 := by
  simp [SegmentRecord.inRange, and_assoc]

theorem InputConfig.inRange_iff (e : InputConfig) :
    InputConfig.inRange e = true ↔
      (e.fn = .supplyLow → e.platen.toNat ≤ 2 ∧ e.line.toNat ≤ 3) ∧
        (e.fn = .condOverload → e.platen.toNat ≤ 2) ∧ e.filter ≤ 15 := by
  cases fn : e.fn <;> simp [InputConfig.inRange, fn]

/-! ### Claims and uses -/

section
variable (s : State)

theorem programClaimed_iff (p : Fin 16) :
    s.programClaimed p = true ↔ ∃ h : Head, s.store.claims.get h = some p := by
  simp [State.programClaimed, Tab.mem_entries]

theorem stepClaimed_iff (i : Fin 96) :
    s.stepClaimed i = true ↔
      ∃ p, (∃ h : Head, s.store.claims.get h = some p) ∧ (s.store.dir.get p).first ≤ i.val ∧
        i.val < (s.store.dir.get p).first + (s.store.dir.get p).count := by
  simp [State.stepClaimed, programClaimed_iff, and_assoc]

theorem profileClaimed_iff (k : Fin 8) :
    s.profileClaimed k = true ↔
      ∃ p : Platen,
        ((s.conds.get p).state = .sweeping ∧ (s.conds.get p).profile = some k) ∨
          (s.conds.get p).pendingProfile = some k := by
  simp [State.profileClaimed, Tab.mem_entries]

theorem segmentClaimed_iff (i : Fin 96) :
    s.segmentClaimed i = true ↔
      ∃ k, (∃ p : Platen,
          ((s.conds.get p).state = .sweeping ∧ (s.conds.get p).profile = some k) ∨
            (s.conds.get p).pendingProfile = some k) ∧
        (s.profiles.get k).first ≤ i.val ∧
        i.val < (s.profiles.get k).first + (s.profiles.get k).count := by
  simp [State.segmentClaimed, profileClaimed_iff, State.profileSpans]

theorem zoneInUse_iff (c : ZoneCh) :
    s.zoneInUse c = true ↔
      (s.heads.get (headOfZone c)).state = .running ∨
        (s.heads.get (headOfZone c)).state = .paused := isActive_iff

theorem lineInUse_iff (p : Platen) (l : Line) :
    s.lineInUse p l = true ↔ ∃ o ∈ (s.queues.get p).orders, o.line = l := by
  simp [State.lineInUse]

end

/-! ### The judgement of a record -/

/-- A judgement by ranges, then by claim or use. -/
theorem judged_of {j : Judged} {ranges held : Prop} {ok used : Bool} {st : Status} {i : Instr}
    (is : j = if !ok then refuse .badValue else if used then refuse st else accept i)
    (inRange : ok = true ↔ ranges) (inUse : used = true ↔ held) :
    (¬ranges → j = refuse .badValue) ∧ (ranges → held → j = refuse st) ∧
      (ranges → ¬held → j = accept i) := by
  rw [is, ← inRange, ← inUse]
  cases ok <;> cases used <;> simp

/-- A decoded record is judged by its ranges, then by claim or use. -/
theorem judgeRecord_judged {α : Type} {r : Option α} {x : α} {inRange : α → Bool} {used : Bool}
    {stage : α → Instr} {ranges held : Prop} (decoded : r = some x)
    (fits : inRange x = true ↔ ranges) (inUse : used = true ↔ held) :
    (¬ranges → judgeRecord r inRange used stage = refuse .badValue) ∧
      (ranges → held → judgeRecord r inRange used stage = refuse .inUse) ∧
      (ranges → ¬held → judgeRecord r inRange used stage = accept (stage x)) := by
  subst decoded
  exact judged_of rfl fits inUse

theorem judgeUse_judged {used : Bool} {i : Instr} {held : Prop} (inUse : used = true ↔ held) :
    (¬True → judgeUse used i = refuse .badValue) ∧
      (True → held → judgeUse used i = refuse .inUse) ∧
      (True → ¬held → judgeUse used i = accept i) :=
  judged_of (ok := true) rfl (by simp) inUse

/-! ### WRITE and ERASE, from their octets -/

theorem octAt_one {n : Nat} (small : n ≤ 255) (a : Octet) (l : List Octet) :
    octAt (a :: oct n :: l) 1 = n := octet_toNat small

theorem octAt_two {n : Nat} (small : n ≤ 255) (a b : Octet) (l : List Octet) :
    octAt (a :: b :: oct n :: l) 2 = n := octet_toNat small

theorem tableCode_le (t : TableId) : tableCode t ≤ 255 := by cases t <;> decide

/-- A WRITE and an ERASE of the length of their table are judged by the table's own checks. -/
theorem judgeRequest_written {p : List Octet} {t : TableId} (code : octAt p 0 = 2)
    (known : tableOf (octAt p 1) = some t) (length : p.length = 4 + recordLength t) (s : State) :
    judgeRequest p s = judgeWrite t p s := by
  rw [judgeRequest_tabled (r := .write) (by rw [code]; rfl) rfl known (by omega)]
  exact if_neg (not_not.mpr length)

theorem judgeRequest_erased {p : List Octet} {t : TableId} (code : octAt p 0 = 3)
    (known : tableOf (octAt p 1) = some t) (length : p.length = 3) (s : State) :
    judgeRequest p s = judgeErase t p s := by
  rw [judgeRequest_tabled (r := .erase) (by rw [code]; rfl) rfl known (by omega)]
  exact if_neg (not_not.mpr length)

theorem judgeRequest_write (t : TableId) (o v : Octet) {record : List Octet}
    (length : record.length = recordLength t) (s : State) :
    judgeRequest ([2, oct (tableCode t), o, v] ++ record) s =
      judgeWrite t ([2, oct (tableCode t), o, v] ++ record) s := by
  refine judgeRequest_written rfl ?_ (by simp [length]; omega) s
  rw [List.cons_append, List.cons_append, octAt_one (tableCode_le t), tableOf_code]

theorem judgeRequest_erase (t : TableId) (o : Octet) (s : State) :
    judgeRequest [3, oct (tableCode t), o] s = judgeErase t [3, oct (tableCode t), o] s := by
  refine judgeRequest_erased rfl ?_ rfl s
  rw [octAt_one (tableCode_le t), tableOf_code]

/-- A WRITE whose table or index is past the end is refused, and so is an ERASE. -/
theorem judgeWrite_past {t : TableId} {p : List Octet} (past : tableSize t ≤ octAt p 2) (s : State) :
    judgeWrite t p s = refuse .badIndex := by
  unfold judgeWrite
  cases t <;> exact dif_neg (Nat.not_lt.mpr past)

theorem judgeErase_past {t : TableId} {p : List Octet} (past : tableSize t ≤ octAt p 2) (s : State) :
    judgeErase t p s = refuse .badIndex := by
  unfold judgeErase
  cases t <;> exact dif_neg (Nat.not_lt.mpr past)

section
variable {p : List Octet}

theorem judgeWrite_cellmap {i : Fin 128} (at_ : octAt p 2 = i.val) (s : State) :
    judgeWrite .cellmap p s = judgeMapWrite i (p.drop 4) s := by
  obtain ⟨i, inside⟩ := i
  subst at_
  exact dif_pos inside

theorem judgeWrite_programDir {i : Fin 16} (at_ : octAt p 2 = i.val) (s : State) :
    judgeWrite .programDir p s =
      judgeRecord (decodeDirEntry (p.drop 4)) DirEntry.inRange (s.programClaimed i)
        (.programDirWriteApply i) := by
  obtain ⟨i, inside⟩ := i
  subst at_
  exact dif_pos inside

theorem judgeWrite_step {i : Fin 96} (at_ : octAt p 2 = i.val) (s : State) :
    judgeWrite .step p s =
      judgeRecord (decodeStep (p.drop 4)) StepRecord.inRange (s.stepClaimed i)
        (.stepWriteApply i) := by
  obtain ⟨i, inside⟩ := i
  subst at_
  exact dif_pos inside

theorem judgeWrite_zone {i : ZoneCh} (at_ : octAt p 2 = i.val) (s : State) :
    judgeWrite .zone p s =
      judgeRecord (decodeZone (p.drop 4)) ZoneConfig.inRange (s.zoneInUse i)
        (.zoneWriteApply i) := by
  obtain ⟨i, inside⟩ := i
  subst at_
  exact dif_pos inside

theorem judgeWrite_line {i : LineIx} (at_ : octAt p 2 = i.val) (s : State) :
    judgeWrite .line p s =
      judgeRecord (decodeLine (p.drop 4)) LineConfig.inRange
        (s.lineInUse (platenOfLine i) (lineOfLine i)) (.lineWriteApply i) := by
  obtain ⟨i, inside⟩ := i
  subst at_
  exact dif_pos inside

theorem judgeWrite_profile {i : Fin 8} (at_ : octAt p 2 = i.val) (s : State) :
    judgeWrite .profile p s =
      judgeRecord (decodeProfile (p.drop 4)) ProfileEntry.inRange (s.profileClaimed i)
        (.profileWriteApply i) := by
  obtain ⟨i, inside⟩ := i
  subst at_
  exact dif_pos inside

theorem judgeWrite_segment {i : Fin 96} (at_ : octAt p 2 = i.val) (s : State) :
    judgeWrite .segment p s =
      judgeRecord (decodeSegment (p.drop 4)) SegmentRecord.inRange (s.segmentClaimed i)
        (.segmentWriteApply i) := by
  obtain ⟨i, inside⟩ := i
  subst at_
  exact dif_pos inside

theorem judgeWrite_input {i : Fin 16} (at_ : octAt p 2 = i.val) (s : State) :
    judgeWrite .input p s =
      judgeRecord (decodeInput (p.drop 4)) InputConfig.inRange
        (InputUnit.isActive (s.inputs.get i)) (.inputWriteApply i) := by
  obtain ⟨i, inside⟩ := i
  subst at_
  exact dif_pos inside

end

/-- An enumerated octet with an unlisted code is BAD_VALUE (R189). -/
theorem judgeRecord_undecoded {α : Type} {r : Option α} (none' : r = none) (inRange : α → Bool)
    (used : Bool) (stage : α → Instr) : judgeRecord r inRange used stage = refuse .badValue := by
  rw [none']
  rfl

theorem octAt_drop (l : List Octet) (k i : Nat) : octAt (l.drop k) i = octAt l (k + i) := by
  simp [octAt, List.getD_eq_getElem?_getD]

/-! ### Records with an unlisted code -/

section
variable {l : List Octet}

theorem decodeMapEntry_unlisted (past : 2 ≤ octAt l 2 ∨ 12 ≤ octAt l 3 ∨ 2 ≤ octAt l 5) :
    decodeMapEntry l = none := by
  rcases past with past | past | past <;>
    simp [decodeMapEntry, dirOf_past, classOf_past, boolOf_past, past]

theorem decodeStep_unlisted (past : 3 ≤ octAt l 23 ∨ 2 ≤ octAt l 29 ∨ 3 ≤ octAt l 34) :
    decodeStep l = none := by
  rcases past with past | past | past <;>
    simp [decodeStep, endKindOf_past, boolOf_past, stepCondOf_past, past]

theorem decodeZone_unlisted (past : 2 ≤ octAt l 0 ∨ 3 ≤ octAt l 14) : decodeZone l = none := by
  rcases past with past | past <;> simp [decodeZone, rangeOf_past, bandActionOf_past, past]

theorem decodeLine_unlisted (past : 2 ≤ octAt l 0 ∨ 2 ≤ octAt l 6) : decodeLine l = none := by
  rcases past with past | past <;> simp [decodeLine, boolOf_past, flowActionOf_past, past]

theorem decodeInput_unlisted (past : 5 ≤ octAt l 0 ∨ 2 ≤ octAt l 3 ∨ 2 ≤ octAt l 4) :
    decodeInput l = none := by
  rcases past with past | past | past <;>
    simp [decodeInput, inputFnOf_past, boolOf_past, inputModeOf_past, past]

end

section
variable {p : List Octet} {s : State} (code : octAt p 0 = 2)
include code

theorem mapWrite_unlisted (table : octAt p 1 = 0) (inside : octAt p 2 < 128)
    (length : p.length = 10) (past : 2 ≤ octAt p 6 ∨ 12 ≤ octAt p 7 ∨ 2 ≤ octAt p 9) :
    judgeRequest p s = refuse .badValue := by
  rw [judgeRequest_written (t := .cellmap) code (by rw [table]; rfl) length,
    judgeWrite_cellmap (i := ⟨_, inside⟩) rfl, judgeMapWrite,
    decodeMapEntry_unlisted (by simpa only [octAt_drop] using past)]

theorem stepWrite_unlisted (table : octAt p 1 = 2) (inside : octAt p 2 < 96)
    (length : p.length = 40) (past : 3 ≤ octAt p 27 ∨ 2 ≤ octAt p 33 ∨ 3 ≤ octAt p 38) :
    judgeRequest p s = refuse .badValue := by
  rw [judgeRequest_written (t := .step) code (by rw [table]; rfl) length,
    judgeWrite_step (i := ⟨_, inside⟩) rfl]
  exact judgeRecord_undecoded (decodeStep_unlisted (by simpa only [octAt_drop] using past)) _ _ _

theorem zoneWrite_unlisted (table : octAt p 1 = 3) (inside : octAt p 2 < 28)
    (length : p.length = 22) (past : 2 ≤ octAt p 4 ∨ 3 ≤ octAt p 18) :
    judgeRequest p s = refuse .badValue := by
  rw [judgeRequest_written (t := .zone) code (by rw [table]; rfl) length,
    judgeWrite_zone (i := ⟨_, inside⟩) rfl]
  exact judgeRecord_undecoded (decodeZone_unlisted (by simpa only [octAt_drop] using past)) _ _ _

theorem lineWrite_unlisted (table : octAt p 1 = 4) (inside : octAt p 2 < 12)
    (length : p.length = 11) (past : 2 ≤ octAt p 4 ∨ 2 ≤ octAt p 10) :
    judgeRequest p s = refuse .badValue := by
  rw [judgeRequest_written (t := .line) code (by rw [table]; rfl) length,
    judgeWrite_line (i := ⟨_, inside⟩) rfl]
  exact judgeRecord_undecoded (decodeLine_unlisted (by simpa only [octAt_drop] using past)) _ _ _

theorem inputWrite_unlisted (table : octAt p 1 = 7) (inside : octAt p 2 < 16)
    (length : p.length = 10) (past : 5 ≤ octAt p 4 ∨ 2 ≤ octAt p 7 ∨ 2 ≤ octAt p 8) :
    judgeRequest p s = refuse .badValue := by
  rw [judgeRequest_written (t := .input) code (by rw [table]; rfl) length,
    judgeWrite_input (i := ⟨_, inside⟩) rfl]
  exact judgeRecord_undecoded (decodeInput_unlisted (by simpa only [octAt_drop] using past)) _ _ _

end

end Sys2Proof.Machine
end

section
/-! PROOFS. The checks of a request in their order, and what it stages. -/

namespace Sys2Proof.Machine

open Sys2Proof

/-! ### The table and the length come before a request's own checks -/

section
variable {p : List Octet} {s : State}

/-- What READ, WRITE and ERASE have in common: a table, its length, and an index. -/
theorem tabled_request (code : octAt p 0 = 1 ∨ octAt p 0 = 2 ∨ octAt p 0 = 3) :
    ∃ r : Request, requestOf (octAt p 0) = some r ∧ r.hasTable = true ∧
      (∀ t, requestLength r t = if octAt p 0 = 3 then 3 else 4 + recordLength t) ∧
      ∀ t, tableSize t ≤ octAt p 2 → judgeOwn r t p s = refuse .badIndex := by
  rcases code with is | is | is <;> rw [is]
  · exact ⟨.read, rfl, rfl, fun _ => rfl, fun _ past => judgeRead_past past s⟩
  · exact ⟨.write, rfl, rfl, fun _ => rfl, fun _ past => judgeWrite_past past s⟩
  · exact ⟨.erase, rfl, rfl, fun _ => rfl, fun _ past => judgeErase_past past s⟩

theorem tabled_checks (code : octAt p 0 = 1 ∨ octAt p 0 = 2 ∨ octAt p 0 = 3) :
    (7 < octAt p 1 → judgeRequest p s = refuse .badTable) ∧
      (∀ t, tableOf (octAt p 1) = some t → 2 ≤ p.length →
        p.length ≠ (if octAt p 0 = 3 then 3 else 4 + recordLength t) →
          judgeRequest p s = refuse .badRequest) ∧
      ∀ t, tableOf (octAt p 1) = some t → tableSize t ≤ octAt p 2 →
        p.length = (if octAt p 0 = 3 then 3 else 4 + recordLength t) →
          judgeRequest p s = refuse .badIndex := by
  obtain ⟨r, known, tabled, length, past⟩ := tabled_request (s := s) code
  refine ⟨fun outside => judgeRequest_badTable known tabled (tableOf_past outside),
    fun t table long other => ?_, fun t table beyond same => ?_⟩
  · rw [judgeRequest_tabled known tabled table long]
    exact if_pos (by rwa [length])
  · have long : 2 ≤ p.length := by
      split at same <;> omega
    rw [judgeRequest_tabled known tabled table long]
    exact (if_neg (by rwa [length, not_not])).trans (past t beyond)

/-- A request without a table is refused at any other length than its own. -/
theorem plain_length {n length : Nat}
    (here : (n, length) ∈ [(4, 4), (5, 10), (6, 17), (7, 6), (8, 3), (9, 2), (10, 2)])
    (code : octAt p 0 = n) (other : p.length ≠ length) :
    judgeRequest p s = refuse .badRequest := by
  have request : ∃ r : Request,
      requestOf n = some r ∧ r.hasTable = false ∧ requestLength r .cellmap = length := by
    simp only [List.mem_cons, Prod.mk.injEq, List.not_mem_nil, or_false] at here
    rcases here with ⟨rfl, rfl⟩ | ⟨rfl, rfl⟩ | ⟨rfl, rfl⟩ | ⟨rfl, rfl⟩ | ⟨rfl, rfl⟩ | ⟨rfl, rfl⟩ |
      ⟨rfl, rfl⟩ <;> exact ⟨_, rfl, rfl, rfl⟩
  obtain ⟨r, known, plain, rfl⟩ := request
  rw [judgeRequest_plain (by rw [code, known]) plain]
  exact if_pos other

/-! ### The requests without a table -/

theorem judgeRequest_reset (code : octAt p 0 = 10) (length : p.length = 2) :
    judgeRequest p s =
      if 1 < octAt p 1 then refuse .badValue
      else if s.anyHeadActive then refuse .busy
      else accept (.resetApply (if octAt p 1 = 0 then .state else .all)) := by
  rw [judgeRequest_plain (r := .reset) (by rw [code]; rfl) rfl]
  refine (if_neg (not_not.mpr length)).trans ?_
  dsimp only [judgeOwn]
  rw [judgeReset]
  by_cases past : 1 < octAt p 1
  · rw [scopeOf_past past, if_pos past]
  · have known : scopeOf (octAt p 1) = some (if octAt p 1 = 0 then .state else .all) := by
      generalize octAt p 1 = n at past
      have low : n ≤ 1 := Nat.le_of_not_lt past
      interval_cases n <;> rfl
    rw [known, if_neg past]

theorem judgeRequest_verify (code : octAt p 0 = 4) (length : p.length = 4) :
    (4 < octAt p 1 → judgeRequest p s = refuse .badValue) ∧
      ∀ g : Group, octAt p 1 = groupCode g →
        judgeRequest p s = accept (.verifyApply g (w16 (octAt16 p 2))) := by
  have own : judgeRequest p s = judgeVerify p := by
    rw [judgeRequest_plain (r := .verify) (by rw [code]; rfl) rfl]
    exact if_neg (not_not.mpr length)
  rw [own, judgeVerify]
  refine ⟨fun past => ?_, fun g is => ?_⟩
  · rw [groupOf_past past]
  · rw [is, groupOf_code]

theorem judgeRequest_stopLine (code : octAt p 0 = 8) (length : p.length = 3) :
    (2 < octAt p 1 ∨ 3 < octAt p 2 → judgeRequest p s = refuse .badIndex) ∧
      ∀ (d : Platen) (l : Line), octAt p 1 = d.val → octAt p 2 = l.val →
        judgeRequest p s = accept (.stopLineApply d l) := by
  have own : judgeRequest p s = judgeStopLine p := by
    rw [judgeRequest_plain (r := .stopLine) (by rw [code]; rfl) rfl]
    exact if_neg (not_not.mpr length)
  rw [own, judgeStopLine]
  refine ⟨fun past => ?_, fun d l atD atL => ?_⟩
  · by_cases inside : octAt p 1 < 3
    · rw [dif_pos inside, dif_neg (by omega)]
    · rw [dif_neg inside]
  · rw [dif_pos (atD ▸ d.isLt), dif_pos (atL ▸ l.isLt)]
    simp only [atD, atL]

theorem judgeRequest_clearInput (code : octAt p 0 = 9) (length : p.length = 2) :
    (15 < octAt p 1 → judgeRequest p s = refuse .badIndex) ∧
      ∀ i : Fin 16, octAt p 1 = i.val →
        judgeRequest p s =
          if (s.inputs.get i).filtered = (s.inputs.get i).config.polarity then
            refuse .stillAsserted
          else accept (.clearInputApply i) := by
  have own : judgeRequest p s = judgeClearInput p s := by
    rw [judgeRequest_plain (r := .clearInput) (by rw [code]; rfl) rfl]
    exact if_neg (not_not.mpr length)
  rw [own, judgeClearInput]
  refine ⟨fun past => dif_neg (by omega), fun i at_ => ?_⟩
  rw [dif_pos (at_ ▸ i.isLt)]
  simp only [at_, InputUnit.asserted, beq_iff_eq]

end

/-! ### The erase of each table -/

section
variable {p : List Octet}

theorem judgeErase_cellmap {i : Fin 128} (at_ : octAt p 2 = i.val) (s : State) :
    judgeErase .cellmap p s = accept (.cellmapEraseApply i) := by
  obtain ⟨i, inside⟩ := i
  subst at_
  exact dif_pos inside

theorem judgeErase_programDir {i : Fin 16} (at_ : octAt p 2 = i.val) (s : State) :
    judgeErase .programDir p s = judgeUse (s.programClaimed i) (.programDirEraseApply i) := by
  obtain ⟨i, inside⟩ := i
  subst at_
  exact dif_pos inside

theorem judgeErase_step {i : Fin 96} (at_ : octAt p 2 = i.val) (s : State) :
    judgeErase .step p s = judgeUse (s.stepClaimed i) (.stepEraseApply i) := by
  obtain ⟨i, inside⟩ := i
  subst at_
  exact dif_pos inside

theorem judgeErase_zone {i : ZoneCh} (at_ : octAt p 2 = i.val) (s : State) :
    judgeErase .zone p s = judgeUse (s.zoneInUse i) (.zoneEraseApply i) := by
  obtain ⟨i, inside⟩ := i
  subst at_
  exact dif_pos inside

theorem judgeErase_line {i : LineIx} (at_ : octAt p 2 = i.val) (s : State) :
    judgeErase .line p s = judgeUse (s.lineInUse (platenOfLine i) (lineOfLine i)) (.lineEraseApply i) := by
  obtain ⟨i, inside⟩ := i
  subst at_
  exact dif_pos inside

theorem judgeErase_profile {i : Fin 8} (at_ : octAt p 2 = i.val) (s : State) :
    judgeErase .profile p s = judgeUse (s.profileClaimed i) (.profileEraseApply i) := by
  obtain ⟨i, inside⟩ := i
  subst at_
  exact dif_pos inside

theorem judgeErase_segment {i : Fin 96} (at_ : octAt p 2 = i.val) (s : State) :
    judgeErase .segment p s = judgeUse (s.segmentClaimed i) (.segmentEraseApply i) := by
  obtain ⟨i, inside⟩ := i
  subst at_
  exact dif_pos inside

theorem judgeErase_input {i : Fin 16} (at_ : octAt p 2 = i.val) (s : State) :
    judgeErase .input p s = judgeUse (InputUnit.isActive (s.inputs.get i)) (.inputEraseApply i) := by
  obtain ⟨i, inside⟩ := i
  subst at_
  exact dif_pos inside

end

/-! ### Settling O17 -/

/-- The enumerated octets of the tables, by offset and bound (Table 13-6). -/
theorem unlisted_refused {p : List Octet} {s : State} {x : Nat × Nat × Nat × Nat × Nat}
    (here : x ∈ [(0, 128, 6, 2, 2), (0, 128, 6, 3, 12), (0, 128, 6, 5, 2), (2, 96, 36, 23, 3),
      (2, 96, 36, 29, 2), (2, 96, 36, 34, 3), (3, 28, 18, 0, 2), (3, 28, 18, 14, 3),
      (4, 12, 7, 0, 2), (4, 12, 7, 6, 2), (7, 16, 6, 0, 5), (7, 16, 6, 3, 2), (7, 16, 6, 4, 2)])
    (code : octAt p 0 = 2) (table : octAt p 1 = x.1) (inside : octAt p 2 < x.2.1)
    (length : p.length = 4 + x.2.2.1) (past : x.2.2.2.2 ≤ octAt p (4 + x.2.2.2.1)) :
    judgeRequest p s = refuse .badValue := by
  simp only [List.mem_cons, List.not_mem_nil, or_false] at here
  rcases here with rfl | rfl | rfl | rfl | rfl | rfl | rfl | rfl | rfl | rfl | rfl | rfl | rfl
  · exact mapWrite_unlisted code table inside length (.inl past)
  · exact mapWrite_unlisted code table inside length (.inr (.inl past))
  · exact mapWrite_unlisted code table inside length (.inr (.inr past))
  · exact stepWrite_unlisted code table inside length (.inl past)
  · exact stepWrite_unlisted code table inside length (.inr (.inl past))
  · exact stepWrite_unlisted code table inside length (.inr (.inr past))
  · exact zoneWrite_unlisted code table inside length (.inl past)
  · exact zoneWrite_unlisted code table inside length (.inr past)
  · exact lineWrite_unlisted code table inside length (.inl past)
  · exact lineWrite_unlisted code table inside length (.inr past)
  · exact inputWrite_unlisted code table inside length (.inl past)
  · exact inputWrite_unlisted code table inside length (.inr (.inl past))
  · exact inputWrite_unlisted code table inside length (.inr (.inr past))

theorem judgeStaging_eq {s : State} (j : Judged) :
    judgeStaging j s =
      if j.staged ≠ none ∧ 4 ≤ s.ring.mgmtSlots.length then ⟨.busy, [], none⟩ else j := by
  unfold judgeStaging
  cases staged : j.staged with
  | none => simp
  | some i => simp [refuse]

/-- Settles O17: the table, the length, each request's own fields, and each table's index, ranges
and use. -/
theorem requestChecksInOrder : Obligations.RequestChecksInOrder := by
  refine ⟨fun p s => ⟨tabled_checks, fun x here => plain_length here, judgeRequest_reset,
    judgeRequest_verify, judgeRequest_stopLine, judgeRequest_clearInput,
    fun x here => unlisted_refused here, judgeStaging_eq⟩, ?_⟩
  intro v s write erase judged claimed claimedStep swept sweptSegment headBusy ordered active
  have third {n : Nat} {table : Octet} {record : List Octet} (i : Fin n) (small : n ≤ 256) :
      octAt ([2, table, oct i.val, v] ++ record) 2 = i.val := octAt_two (by omega) _ _ _
  have second {n : Nat} {table : Octet} (i : Fin n) (small : n ≤ 256) :
      octAt [3, table, oct i.val] 2 = i.val := octAt_two (by omega) _ _ _
  refine ⟨fun i e => ⟨?_, ?_⟩, fun i e fits => ⟨?_, ?_⟩, fun i r fits => ⟨?_, ?_⟩,
    fun i e fits => ⟨?_, ?_⟩, fun i e fits => ⟨?_, ?_⟩, fun i e fits => ⟨?_, ?_⟩,
    fun i r fits => ⟨?_, ?_⟩, fun i e fits => ⟨?_, ?_⟩⟩
  · have own : write 0 i.val (encodeMapEntry e) = judgeMapWrite i (encodeMapEntry e) s :=
      (judgeRequest_write .cellmap _ v rfl s).trans
        (judgeWrite_cellmap (third i (by omega)) s)
    rw [own, judgeMapWrite, decode_encodeMapEntry]
    exact judged_of rfl (MapEntry.inRange_iff _) bindsTwice_iff
  · exact (judgeRequest_erase .cellmap _ s).trans (judgeErase_cellmap (second i (by omega)) s)
  · have own : write 1 i.val (encodeDirEntry e) = _ :=
      (judgeRequest_write .programDir _ v rfl s).trans (judgeWrite_programDir (third i (by omega)) s)
    rw [own]
    exact judgeRecord_judged (decode_encodeDirEntry fits) (DirEntry.inRange_iff _) (programClaimed_iff s i)
  · have own : erase 1 i.val = _ :=
      (judgeRequest_erase .programDir _ s).trans (judgeErase_programDir (second i (by omega)) s)
    rw [own]
    exact judgeUse_judged (programClaimed_iff s i)
  · have own : write 2 i.val (encodeStep r) = _ :=
      (judgeRequest_write .step _ v (encodeStep_length r) s).trans (judgeWrite_step (third i (by omega)) s)
    rw [own]
    exact judgeRecord_judged (decode_encodeStep fits) (StepRecord.inRange_iff fits) (stepClaimed_iff s i)
  · have own : erase 2 i.val = _ :=
      (judgeRequest_erase .step _ s).trans (judgeErase_step (second i (by omega)) s)
    rw [own]
    exact judgeUse_judged (stepClaimed_iff s i)
  · have own : write 3 i.val (encodeZone e) = _ :=
      (judgeRequest_write .zone _ v rfl s).trans (judgeWrite_zone (third i (by omega)) s)
    rw [own]
    exact judgeRecord_judged (decode_encodeZone fits) (ZoneConfig.inRange_iff _) (zoneInUse_iff s i)
  · have own : erase 3 i.val = _ :=
      (judgeRequest_erase .zone _ s).trans (judgeErase_zone (second i (by omega)) s)
    rw [own]
    exact judgeUse_judged (zoneInUse_iff s i)
  · have own : write 4 i.val (encodeLine e) = _ :=
      (judgeRequest_write .line _ v rfl s).trans (judgeWrite_line (third i (by omega)) s)
    rw [own]
    exact judgeRecord_judged (decode_encodeLine fits) (LineConfig.inRange_iff _) (lineInUse_iff s _ _)
  · have own : erase 4 i.val = _ :=
      (judgeRequest_erase .line _ s).trans (judgeErase_line (second i (by omega)) s)
    rw [own]
    exact judgeUse_judged (lineInUse_iff s _ _)
  · have own : write 5 i.val (encodeProfile e) = _ :=
      (judgeRequest_write .profile _ v rfl s).trans (judgeWrite_profile (third i (by omega)) s)
    rw [own]
    exact judgeRecord_judged (decode_encodeProfile fits) (ProfileEntry.inRange_iff fits) (profileClaimed_iff s i)
  · have own : erase 5 i.val = _ :=
      (judgeRequest_erase .profile _ s).trans (judgeErase_profile (second i (by omega)) s)
    rw [own]
    exact judgeUse_judged (profileClaimed_iff s i)
  · have own : write 6 i.val (encodeSegment r) = _ :=
      (judgeRequest_write .segment _ v rfl s).trans (judgeWrite_segment (third i (by omega)) s)
    rw [own]
    exact judgeRecord_judged (decode_encodeSegment fits) (SegmentRecord.inRange_iff _) (segmentClaimed_iff s i)
  · have own : erase 6 i.val = _ :=
      (judgeRequest_erase .segment _ s).trans (judgeErase_segment (second i (by omega)) s)
    rw [own]
    exact judgeUse_judged (segmentClaimed_iff s i)
  · have own : write 7 i.val (encodeInput e) = _ :=
      (judgeRequest_write .input _ v rfl s).trans (judgeWrite_input (third i (by omega)) s)
    rw [own]
    exact judgeRecord_judged (decode_encodeInput fits) (InputConfig.inRange_iff _) (Iff.rfl)
  · have own : erase 7 i.val = _ :=
      (judgeRequest_erase .input _ s).trans (judgeErase_input (second i (by omega)) s)
    rw [own]
    exact judgeUse_judged (Iff.rfl)

end Sys2Proof.Machine
end

section
/-! PROOFS. The commands of a head, each with its outcome and the one change it makes. -/

namespace Sys2Proof.Machine

open Sys2Proof

/-! ### A new command and its answer -/

section
variable {h : Head} {v : CommandValue} {s u : State} {o : HeadOutcome}

/-- A new command is answered over the state its application leaves. -/
theorem newHeadCommand_answered
    (applied : applyHeadCommand h (headCommandOf v.code v.arg) (s.learnHead h v.seq) =
      (u.learnHead h v.seq, o)) :
    newHeadCommand h v s = headAnswered h v.code v.seq o (u.heads.get h) u := by
  unfold newHeadCommand
  dsimp only
  rw [show s.setMap { s.map with learnedHead := s.map.learnedHead.upd h (some v.seq) } =
    s.learnHead h v.seq from rfl, applied]
  unfold raiseHeadRefusal headAnswered
  simp only [HeadOutcome.isRefusal, decide_eq_true_eq]
  rfl

/-- A command that changes the head's record alone. -/
theorem newHeadCommand_record {r : HeadRecord}
    (applied : applyHeadCommand h (headCommandOf v.code v.arg) (s.learnHead h v.seq) =
      ((s.learnHead h v.seq).setHead h r, o)) :
    newHeadCommand h v s = headAnswered h v.code v.seq o r s := by
  refine (newHeadCommand_answered (u := s.setHead h r) applied).trans ?_
  simp [headAnswered, State.setHead]

/-- A command that changes nothing. -/
theorem newHeadCommand_unchanged
    (applied : applyHeadCommand h (headCommandOf v.code v.arg) (s.learnHead h v.seq) =
      (s.learnHead h v.seq, o)) :
    newHeadCommand h v s = headAnswered h v.code v.seq o (s.heads.get h) s :=
  newHeadCommand_answered applied

end

/-! ### PAUSE, RESUME, SKIP and NOP -/

theorem newHeadCommand_pause (h : Head) (seq : Word16) (s : State) :
    newHeadCommand h ⟨2, 0, seq⟩ s =
      headAnswered h 2 seq
        (match (s.heads.get h).state with
          | .running => .accepted
          | .paused => .same
          | _ => .notRunning)
        (if (s.heads.get h).state = .running then { s.heads.get h with state := .paused }
          else s.heads.get h) s := by
  cases is : (s.heads.get h).state with
  | running =>
    exact newHeadCommand_record (by simp [headCommandOf, applyHeadCommand, State.learnHead, is])
  | _ => exact newHeadCommand_unchanged (by simp [headCommandOf, applyHeadCommand, State.learnHead, is])

theorem newHeadCommand_resume (h : Head) (seq : Word16) (s : State) :
    newHeadCommand h ⟨3, 0, seq⟩ s =
      headAnswered h 3 seq
        (match (s.heads.get h).state with
          | .paused => .accepted
          | .running => .same
          | _ => .notPaused)
        (if (s.heads.get h).state = .paused then { s.heads.get h with state := .running }
          else s.heads.get h) s := by
  cases is : (s.heads.get h).state with
  | paused =>
    exact newHeadCommand_record (by simp [headCommandOf, applyHeadCommand, State.learnHead, is])
  | _ => exact newHeadCommand_unchanged (by simp [headCommandOf, applyHeadCommand, State.learnHead, is])

theorem newHeadCommand_skip (h : Head) (seq : Word16) (s : State) :
    newHeadCommand h ⟨4, 0, seq⟩ s =
      headAnswered h 4 seq
        (if (s.heads.get h).state = .running then .accepted else .notRunning)
        (if (s.heads.get h).state = .running then { s.heads.get h with skip := true }
          else s.heads.get h) s := by
  cases is : (s.heads.get h).state with
  | running =>
    exact newHeadCommand_record (by simp [headCommandOf, applyHeadCommand, State.learnHead, is])
  | _ => exact newHeadCommand_unchanged (by simp [headCommandOf, applyHeadCommand, State.learnHead, is])

/-- Settles O21: by the head's state. -/
theorem pauseResumeSkipNop : Obligations.PauseResumeSkipNop := by
  intro h seq s r
  refine ⟨congrArg Host.Outcome.next (newHeadCommand_pause h seq _),
    congrArg Host.Outcome.next (newHeadCommand_resume h seq _),
    congrArg Host.Outcome.next (newHeadCommand_skip h seq _),
    congrArg Host.Outcome.next (newHeadCommand_unchanged rfl)⟩

/-! ### Safe hold -/

/-- A state in which head `h` has entered SAFE_HOLD with a cause (R35), other than the map. -/
theorem enterSafeHold_learned (h : Head) (cause : SafeCause) (s : State) (q : Word16) :
    enterSafeHold h cause (s.learnHead h q) = (enterSafeHold h cause s).learnHead h q := by
  simp only [enterSafeHold_eq]
  rfl

/-- Settles O23: by the marks of Table 2-5, and what the entry does. -/
theorem causesEnterSafeHold : Obligations.CausesEnterSafeHold := by
  intro h s r held
  have entry (cause : SafeCause) (c : Instr) :
      enterSafeHold h cause (s.takeUp c) = held cause (s.takeUp c) := by
    rw [enterSafeHold_eq, safeSubstate_eq]
    rfl
  have notice (cause : SafeCause) (c : Instr) (marked : Bool)
      (marks : ∀ st, causeEnters cause st = true ↔
        st = .running ∨ st = .paused ∨ (st = .done ∧ marked = true)) :
      safeHoldCause h cause (s.takeUp c) =
        if r.state = .running ∨ r.state = .paused ∨ (r.state = .done ∧ marked = true) then
          held cause (s.takeUp c)
        else s.takeUp c := by
    unfold safeHoldCause
    rw [entry]
    exact if_congr (marks r.state) rfl rfl
  refine ⟨fun x here => ?_, ?_⟩
  · simp only [List.mem_cons, List.not_mem_nil, or_false] at here
    rcases here with rfl | rfl | rfl | rfl | rfl <;>
      exact congrArg Host.Outcome.next (notice _ _ _ fun st => by cases st <;> simp [causeEnters])
  · intro seq t
    refine congrArg Host.Outcome.next ?_
    have enters (runs : r.state = .running ∨ r.state = .paused ∨ r.state = .done) :
        newHeadCommand h ⟨5, 0, seq⟩ t =
          headAnswered h 5 seq .accepted ((held .aborted t).heads.get h) (held .aborted t) := by
      rw [← entry]
      refine newHeadCommand_answered ?_
      rw [← enterSafeHold_learned]
      have same : ((t.learnHead h seq).heads.get h).state = r.state := rfl
      rcases runs with is | is | is <;> rw [is] at same <;>
        simp [headCommandOf, applyHeadCommand, same, t]
    have rests (is : r.state = .idle ∨ r.state = .safeHold) :
        newHeadCommand h ⟨5, 0, seq⟩ t = headAnswered h 5 seq .same r t := by
      refine newHeadCommand_unchanged ?_
      have same : ((t.learnHead h seq).heads.get h).state = r.state := rfl
      rcases is with is | is <;> rw [is] at same <;> simp [headCommandOf, applyHeadCommand, same]
    split
    · next is => exact rests is
    · next is =>
      refine enters ?_
      cases st : r.state <;> simp [st] at is ⊢

end Sys2Proof.Machine
end

section
/-! PROOFS. CLEAR and START: what an accepted one does to the head, its zones and its claim. -/

namespace Sys2Proof.Machine

open Sys2Proof

/-! ### CLEAR -/

/-- A zone vented by CLEAR (R24, R48, R75). -/
def ZoneChannel.vented (z : ZoneChannel) : ZoneChannel :=
  { z with
    setpoint := 0, code := 0, ramping := false, settle := 0, diffLimited := false
    saturated := false, debounce := 0, excursion := false, monitorStale := false }

/-- The state with the zones of head `h` among `l` vented, and their changed codes marked. -/
def State.vented (h : Head) (l : List Zone) (s : State) : State :=
  { s with
    zones :=
      Tab.ofFn fun c =>
        if ∃ z ∈ l, zoneCh h z = c then (s.zones.get c).vented else s.zones.get c
    reg :=
      { s.reg with
        pending :=
          Tab.ofFn fun c =>
            if ∃ z ∈ l, chanOfZone (zoneCh h z) = c ∧ (s.zoneOf h z).code ≠ 0 ∧ s.reg.last.get c ≠ 0
            then true
            else s.reg.pending.get c } }

theorem chanOfZone_inj {c d : ZoneCh} (same : chanOfZone c = chanOfZone d) : c = d :=
  Fin.ext (Fin.mk.inj_iff.mp same)

theorem vented_cons (h : Head) (z : Zone) (l : List Zone) (s : State) :
    (clearZone h s z).vented h l = s.vented h (z :: l) := by
  have zones (c : ZoneCh) :
      (clearZone h s z).zones.get c =
        if zoneCh h z = c then (s.zones.get c).vented else s.zones.get c := by
    rw [clearZone_eq, Tab.get_upd]
    split
    · next is => rw [← is]; rfl
    · rfl
  have code (y : Zone) : ((clearZone h s z).zoneOf h y).code =
      if z = y then 0 else (s.zoneOf h y).code := by
    rw [State.zoneOf, zones]
    by_cases is : z = y
    · simp [is, ZoneChannel.vented]
    · rw [if_neg is, if_neg fun same => is (zoneCh_inj same)]
      rfl
  have last : (clearZone h s z).reg.last = s.reg.last := by rw [clearZone_eq]
  have pending (c : Chan) : (clearZone h s z).reg.pending.get c =
      if chanOfZone (zoneCh h z) = c ∧ (s.zoneOf h z).code ≠ 0 ∧ s.reg.last.get c ≠ 0 then true
      else s.reg.pending.get c := by
    rw [clearZone_eq]
    by_cases is : chanOfZone (zoneCh h z) = c
    · subst is
      split <;> simp_all
    · simp only [is, false_and, if_false]
      split
      · rw [Tab.get_upd_ne _ _ is]
      · rfl
  have zoneTab : ((clearZone h s z).vented h l).zones = (s.vented h (z :: l)).zones := by
    refine Tab.ext_get fun c => ?_
    simp only [State.vented, Tab.get_ofFn, zones, List.mem_cons, exists_eq_or_imp]
    by_cases is : zoneCh h z = c
    · simp only [is, if_true, true_or]
      split <;> rfl
    · simp only [is, if_false, false_or]
  have pendingTab : ((clearZone h s z).vented h l).reg.pending = (s.vented h (z :: l)).reg.pending := by
    refine Tab.ext_get fun c => ?_
    simp only [State.vented, Tab.get_ofFn, pending, code, last, List.mem_cons, exists_eq_or_imp]
    by_cases first : chanOfZone (zoneCh h z) = c ∧ (s.zoneOf h z).code ≠ 0 ∧ s.reg.last.get c ≠ 0
    · rw [if_pos first, ite_self, if_pos (.inl first)]
    · have rest : (∃ y ∈ l, chanOfZone (zoneCh h y) = c ∧
          (if z = y then 0 else (s.zoneOf h y).code) ≠ 0 ∧ s.reg.last.get c ≠ 0) ↔
          ∃ y ∈ l, chanOfZone (zoneCh h y) = c ∧ (s.zoneOf h y).code ≠ 0 ∧ s.reg.last.get c ≠ 0 := by
        refine exists_congr fun y => and_congr_right fun _ => ?_
        by_cases is : z = y
        · subst is
          simp [first]
        · simp [is]
      simp only [rest, first, if_false, false_or]
  have shape : (clearZone h s z).vented h l =
      { s with
        zones := ((clearZone h s z).vented h l).zones
        reg := { s.reg with pending := ((clearZone h s z).vented h l).reg.pending } } := by
    rw [clearZone_eq]
    rfl
  rw [shape, zoneTab, pendingTab]
  rfl

theorem clearZones_eq (h : Head) (s : State) :
    clearZones h s = s.vented h (List.finRange 7) := by
  have folded (l : List Zone) (s : State) : l.foldl (clearZone h) s = s.vented h l := by
    induction l generalizing s with
    | nil => simp [State.vented, Tab.ofFn_get]
    | cons z l ih => rw [List.foldl_cons, ih, vented_cons]
  exact folded _ s

/-- A head that an accepted CLEAR has brought to IDLE. -/
def HeadRecord.cleared (r : HeadRecord) : HeadRecord :=
  { r with state := .idle, substate := .none, cause := .none, skip := false, latch := none }

theorem clearHead_learned (h : Head) (s : State) (q : Word16) :
    clearHead h (s.learnHead h q) =
      ((s.vented h (List.finRange 7)).setHead h (s.heads.get h).cleared).learnHead h q := by
  unfold clearHead
  rw [clearZones_eq]
  rfl

theorem newHeadCommand_clears {h : Head} {s : State} (seq : Word16)
    (may : (s.heads.get h).state = .done ∨
      ((s.heads.get h).state = .safeHold ∧ (s.heads.get h).substate = .settled)) :
    newHeadCommand h ⟨6, 0, seq⟩ s =
      headAnswered h 6 seq .accepted (s.heads.get h).cleared (s.vented h (List.finRange 7)) := by
  have applied : applyHeadCommand h .clear (s.learnHead h seq) =
      (((s.vented h (List.finRange 7)).setHead h (s.heads.get h).cleared).learnHead h seq,
        .accepted) := by
    rw [← clearHead_learned]
    rcases may with is | ⟨is, settled⟩
    · simp [applyHeadCommand, State.learnHead, is]
    · simp [applyHeadCommand, State.learnHead, is, settled]
  refine (newHeadCommand_answered (u := (s.vented h (List.finRange 7)).setHead h
    (s.heads.get h).cleared) applied).trans ?_
  simp [headAnswered, State.setHead, State.vented]

theorem headOfZone_iff (h : Head) (c : ZoneCh) :
    (∃ z ∈ List.finRange 7, zoneCh h z = c) ↔ headOfZone c = h := by
  refine ⟨fun ⟨z, _, is⟩ => is ▸ headOfZone_zoneCh h z, fun is => ?_⟩
  obtain ⟨z, same⟩ := zoneCh_of_head is
  exact ⟨z, List.mem_finRange z, same⟩

theorem vented_zones (h : Head) (s : State) :
    (s.vented h (List.finRange 7)).zones =
      Tab.ofFn fun c =>
        if headOfZone c = h then (s.zones.get c).vented else s.zones.get c := by
  simp only [State.vented, headOfZone_iff]

theorem vented_pending (h : Head) (s : State) :
    (s.vented h (List.finRange 7)).reg.pending =
      Tab.ofFn fun c : Chan =>
        if hc : c.val < 28 then
          if headOfZone ⟨c.val, hc⟩ = h ∧ (s.zones.get ⟨c.val, hc⟩).code ≠ 0 ∧
              s.reg.last.get c ≠ 0 then true
          else s.reg.pending.get c
        else s.reg.pending.get c := by
  refine Tab.ext_get fun c => ?_
  simp only [State.vented, Tab.get_ofFn]
  by_cases low : c.val < 28
  · rw [dif_pos low]
    have same : (∃ z ∈ List.finRange 7, chanOfZone (zoneCh h z) = c ∧ (s.zoneOf h z).code ≠ 0 ∧
        s.reg.last.get c ≠ 0) ↔ headOfZone ⟨c.val, low⟩ = h ∧ (s.zones.get ⟨c.val, low⟩).code ≠ 0 ∧
          s.reg.last.get c ≠ 0 := by
      have at_ (z : Zone) : chanOfZone (zoneCh h z) = c ↔ zoneCh h z = ⟨c.val, low⟩ :=
        ⟨fun is => Fin.ext (Fin.mk.inj_iff.mp is), fun is => Fin.ext (Fin.mk.inj_iff.mp is)⟩
      rw [← headOfZone_iff h ⟨c.val, low⟩]
      constructor
      · rintro ⟨z, mem, is, code, last⟩
        exact ⟨⟨z, mem, (at_ z).mp is⟩, (at_ z).mp is ▸ code, last⟩
      · rintro ⟨⟨z, mem, is⟩, code, last⟩
        exact ⟨z, mem, (at_ z).mpr is, by rwa [State.zoneOf, is], last⟩
    simp only [same]
  · rw [dif_neg low, if_neg]
    rintro ⟨z, _, is, _⟩
    exact low (is ▸ (zoneCh h z).isLt)

/-- Settles O24: by the head's state. -/
theorem clearVentsZones : Obligations.ClearVentsZones := by
  intro h seq s
  refine congrArg Host.Outcome.next (congrArg State.kickPort ?_)
  extract_lets t r
  have unchanged {o : HeadOutcome} (applied : applyHeadCommand h .clear (t.learnHead h seq) =
      (t.learnHead h seq, o)) : newHeadCommand h ⟨6, 0, seq⟩ t = headAnswered h 6 seq o r t :=
    newHeadCommand_unchanged applied
  have clears (may : r.state = .done ∨ (r.state = .safeHold ∧ r.substate = .settled)) :
      newHeadCommand h ⟨6, 0, seq⟩ t =
        headAnswered h 6 seq .accepted r.cleared
          { t with
            zones := (t.vented h (List.finRange 7)).zones
            reg := { t.reg with pending := (t.vented h (List.finRange 7)).reg.pending } } :=
    newHeadCommand_clears seq may
  rw [vented_zones, vented_pending] at clears
  have st : ((t.learnHead h seq).heads.get h).state = r.state := rfl
  have sub : ((t.learnHead h seq).heads.get h).substate = r.substate := rfl
  cases is : r.state with
  | idle => exact unchanged (by simp [applyHeadCommand, st, is])
  | running => exact unchanged (by simp [applyHeadCommand, st, is])
  | paused => exact unchanged (by simp [applyHeadCommand, st, is])
  | done => exact clears (.inl is)
  | safeHold =>
    dsimp only
    split
    · next unsettled => exact unchanged (by simp [applyHeadCommand, st, sub, is, unsettled.2])
    · next settled => exact clears (.inr ⟨is, by simpa using settled⟩)

end Sys2Proof.Machine
end

section
/-! PROOFS. START: its gates in their order, and what an accepted one does. -/

namespace Sys2Proof.Machine

open Sys2Proof

section
variable {h : Head} {p : Octet} {s : State} {q : Word16}

theorem takeRelease_learned (h : Head) (s : State) (q : Word16) :
    (s.learnHead h q).takeRelease h = (s.takeRelease h).learnHead h q := by
  by_cases waits : .programRelease h ∈ s.handed
  · have taken : s.takeRelease h = (s.takeUp (.programRelease h)).setClaim h none := if_pos waits
    have taken' : (s.learnHead h q).takeRelease h =
        ((s.learnHead h q).takeUp (.programRelease h)).setClaim h none := if_pos waits
    rw [taken, taken']
    rfl
  · have kept : s.takeRelease h = s := if_neg waits
    have kept' : (s.learnHead h q).takeRelease h = s.learnHead h q := if_neg waits
    rw [kept, kept']

/-- A head's record when its program begins. -/
def HeadRecord.begun (r : HeadRecord) (i : Fin 16) (first : StepRecord) : HeadRecord :=
  { r with
    state := .running, program := some i, stepIndex := 0, context := some first, cycleCount := 0
    settledRun := 0, skip := false, latch := r.endpoint }

/-- What the beginning of program `i` does outside the head: the claim, the zones' masks and the
actions of the first step. -/
def State.begun (s : State) (h : Head) (i : Fin 16) (actions : List Instr) : State :=
  { s with
    store := { s.store with claims := s.store.claims.upd h (some i) }
    zones :=
      Tab.ofFn fun c =>
        if headOfZone c = h then { s.zones.get c with ramping := true, settle := 0 }
        else s.zones.get c
    handed := s.handed ++ actions }

theorem startHead_undocked (none' : s.platenOf h = none) : startHead h p s = (s, .notDocked) := by
  unfold startHead
  rw [none']

theorem startHead_invalid {d : Platen} (docked : s.platenOf h = some d)
    (invalid : s.validProgram p = none) : startHead h p s = (s.takeRelease h, .badProgram) := by
  unfold startHead
  rw [docked]
  dsimp only
  rw [validProgram_takeRelease, invalid]

theorem startHead_gated {d : Platen} {i : Fin 16} {o : HeadOutcome} (docked : s.platenOf h = some d)
    (valid : s.validProgram p = some i) (gate : startVerdict h s = some o) :
    startHead h p s = (s.takeRelease h, o) := by
  unfold startHead
  rw [docked]
  dsimp only
  rw [validProgram_takeRelease, valid]
  dsimp only
  rw [startVerdict_takeRelease, gate]

theorem stepRecordOf_claims (s : State) (c : Tab 4 (Option (Fin 16))) (i : Fin 16) (idx : Nat) :
    State.stepRecordOf (s.setStore { s.store with claims := c }) i idx = s.stepRecordOf i idx := rfl

theorem takeRelease_stepRecordOf (h : Head) (s : State) (i : Fin 16) (idx : Nat) :
    (s.takeRelease h).stepRecordOf i idx = s.stepRecordOf i idx := by
  obtain ⟨c, is⟩ := takeRelease_store h s
  simp [State.stepRecordOf, is]

theorem takeRelease_heads (h : Head) (s : State) : (s.takeRelease h).heads = s.heads := by simp

/-- An accepted START. -/
theorem startHead_starts {d : Platen} {i : Fin 16} (docked : s.platenOf h = some d)
    (valid : s.validProgram p = some i) (gates : startVerdict h s = none) :
    startHead h p s =
      (((s.takeRelease h).begun h i (stepActions h d (s.stepRecordOf i 0))).setHead h
        ((s.heads.get h).begun i (s.stepRecordOf i 0)), .accepted) := by
  have still : (s.takeRelease h).platenOf h = some d := by
    rw [← docked]
    exact platenOf_congr (by simp) h
  unfold startHead
  rw [docked]
  dsimp only
  rw [validProgram_takeRelease, valid]
  dsimp only
  rw [startVerdict_takeRelease, gates]
  dsimp only
  rw [← takeRelease_stepRecordOf h s, ← takeRelease_heads h s]
  generalize s.takeRelease h = u at still
  have events (r : HeadRecord) (x : StepRecord) :
      ((u.setClaim h (some i)).setHead h r).stepEvents h x = stepActions h d x := by
    have same : ((u.setClaim h (some i)).setHead h r).platenOf h = some d := still
    rw [State.stepEvents, same]
  rw [startStep_eq, events, maskZones_eq]
  simp [State.setHead, State.setClaim, State.setStore, State.handAll, State.setHanded, State.begun,
    HeadRecord.begun, HeadRecord.stepStarted, State.stepRecordOf]

/-! ### A new START -/

theorem headAnswered_setHead (h : Head) (code : Octet) (seq : Word16) (o : HeadOutcome)
    (r r' : HeadRecord) (s : State) :
    headAnswered h code seq o r' (s.setHead h r) = headAnswered h code seq o r' s := by
  simp [headAnswered, State.setHead]

theorem applyHeadCommand_start_idle (idle : (s.heads.get h).state = .idle) :
    applyHeadCommand h (.start p) s = startHead h p s := by
  simp only [applyHeadCommand, idle]

theorem applyHeadCommand_start_busy (busy : (s.heads.get h).state ≠ .idle) :
    applyHeadCommand h (.start p) s = (s, .notIdle) := by
  cases is : (s.heads.get h).state <;> simp only [applyHeadCommand, is]
  exact absurd is busy

theorem startVerdict_eq (h : Head) (s : State) :
    startVerdict h s =
      if s.verifier.vbr = true ∧
          ¬(s.verifier.cellmap.state = .verified ∧ s.verifier.program.state = .verified ∧
            s.verifier.zone.state = .verified ∧ ∀ c, headOfZone c = h → .zone c ∉ s.written) then
        some .gated
      else if s.cadence.state ≠ .locked then some .cadence
      else if s.functionActive .estop then some .estop
      else if s.functionActive .airLow then some .airLow
      else none := by
  unfold startVerdict
  refine if_congr ?_ rfl rfl
  rw [Bool.not_eq_true', ← Bool.not_eq_true, Bool.and_eq_true, Bool.and_eq_true,
    State.gateOpen_iff, State.gateOpen_iff, State.zoneGateOpen_iff, Verifier.group, Verifier.group]
  tauto

/-- Settles O22: by the gates in their order. -/
theorem startJudgedByGates : Obligations.StartJudgedByGates := by
  intro h p seq s
  refine congrArg Host.Outcome.next ?_
  extract_lets t u r refused actions
  have st : ((t.learnHead h seq).heads.get h).state = r.state := rfl
  have released : (t.learnHead h seq).takeRelease h = u.learnHead h seq := takeRelease_learned h t seq
  have verdict : startVerdict h (t.learnHead h seq) = startVerdict h s := by
    have written : (t.learnHead h seq).written = s.written :=
      State.written_takeUp_of_ne fun g is => by cases is
    rw [startVerdict_eq, startVerdict_eq, written]
    rfl
  have record : u.heads.get h = r := by
    simp [u, t, r]
  split
  · next other =>
    exact newHeadCommand_unchanged (v := ⟨1, p, seq⟩)
      (applyHeadCommand_start_busy (by rwa [st]))
  next idle =>
  have idle : r.state = .idle := by simpa using idle
  have answered {o : HeadOutcome} {x : State}
      (starts : startHead h p (t.learnHead h seq) = (x.learnHead h seq, o)) :
      newHeadCommand h ⟨1, p, seq⟩ t = headAnswered h 1 seq o (x.heads.get h) x :=
    newHeadCommand_answered (v := ⟨1, p, seq⟩)
      ((applyHeadCommand_start_idle (st.trans idle)).trans starts)
  have refuses {o : HeadOutcome} (starts : startHead h p (t.learnHead h seq) = (u.learnHead h seq, o)) :
      newHeadCommand h ⟨1, p, seq⟩ t = refused o u := by
    rw [answered starts, record]
  cases docked : s.platenOf h with
  | none => exact answered (startHead_undocked docked)
  | some d =>
    dsimp only
    cases valid : s.validProgram p with
    | none => exact refuses ((startHead_invalid (s := t.learnHead h seq) docked valid).trans (by rw [released]))
    | some i =>
      have gated {o : HeadOutcome} (gate : startVerdict h s = some o) :
          newHeadCommand h ⟨1, p, seq⟩ t = refused o u :=
        refuses ((startHead_gated (s := t.learnHead h seq) docked valid
          (verdict.trans gate)).trans
          (by rw [released]))
      dsimp only
      rw [startVerdict_eq] at gated
      split
      · next g => exact gated (if_pos g)
      next g1 =>
      rw [if_neg g1] at gated
      split
      · next g => exact gated (if_pos g)
      next g2 =>
      rw [if_neg g2] at gated
      split
      · next g => exact gated (if_pos g)
      next g3 =>
      rw [if_neg g3] at gated
      split
      · next g => exact gated (if_pos g)
      next g4 =>
      have gates : startVerdict h s = none := by
        rw [startVerdict_eq, if_neg g1, if_neg g2, if_neg g3, if_neg g4]
      have starts := startHead_starts (s := t.learnHead h seq) docked valid (verdict.trans gates)
      rw [released] at starts
      refine (answered (x := (u.begun h i (stepActions h d (s.stepRecordOf i 0))).setHead h
        (r.begun i (s.stepRecordOf i 0))) starts).trans ?_
      rw [State.setHead_heads, Tab.get_upd_same, headAnswered_setHead]
      refine congrArg (headAnswered h 1 seq .accepted (r.begun i (s.stepRecordOf i 0))) ?_
      have zones : u.zones = s.zones := by
        simp [u, t]
      unfold State.begun
      rw [zones]
      rfl

end

end Sys2Proof.Machine
end

section
/-! PROOFS. How the command of a cycle delivery is judged, and a delivery to a head that does not
run. -/

namespace Sys2Proof.Machine

open Sys2Proof

/-! ### Stage 2 -/

section
variable {h : Head} {d : Delivery} {s : State}

/-- The endpoint after stage 2. -/
def HeadRecord.endpointAfter (r : HeadRecord) (d : Delivery) : Option Nat := d.endpoint <|> r.endpoint

/-- The record that stage 2 leaves, but for the latch. -/
def HeadRecord.fed (r : HeadRecord) (d : Delivery) : HeadRecord :=
  { r with
    endpoint := r.endpointAfter d
    trims := Tab.ofFn fun z => (d.trims.get z).getD (r.trims.get z) }

theorem storeTrims_eq (stored : Tab 7 Int) (carried : Tab 7 (Option Int)) :
    storeTrims stored carried = Tab.ofFn fun z => (carried.get z).getD (stored.get z) := by
  refine Tab.ext_get fun z => ?_
  simp only [storeTrims, Tab.get_ofFn]
  cases carried.get z <;> rfl

theorem stageInputs_eq (h : Head) (d : Delivery) (started : Bool) (s : State) :
    stageInputs h d started s =
      s.setHead h
        { (s.heads.get h).fed d with
          latch := settleLatch ((s.heads.get h).fed d) started } := by
  have endpoint : (match d.endpoint with
      | some e => some e
      | none => (s.heads.get h).endpoint) = (s.heads.get h).endpointAfter d := by
    unfold HeadRecord.endpointAfter
    cases d.endpoint <;> rfl
  unfold stageInputs
  simp only [storeTrims_eq]
  cases is : d.endpoint <;> simp only [HeadRecord.fed, HeadRecord.endpointAfter, is] <;> rfl

theorem settleLatch_rests {r : HeadRecord} (rests : r.state = .idle ∨ r.state = .safeHold) :
    settleLatch r false = r.latch := by
  rcases rests with is | is <;> simp [settleLatch, HeadRecord.isActive, is]

/-- At a head in IDLE or SAFE_HOLD the stages after the command come down to stage 2. -/
theorem staged_rests (started skipBefore : Bool)
    (rests : (s.heads.get h).state = .idle ∨ (s.heads.get h).state = .safeHold) :
    s.staged h d started skipBefore = stageInputs h d started s := by
  have same : ((stageInputs h d started s).heads.get h).state = (s.heads.get h).state := by
    simp [stageInputs_eq, HeadRecord.fed]
  unfold State.staged State.banded
  rcases rests with is | is <;> rw [is] at same <;>
    simp [same, runsBand, stageSetpoints]

/-! ### The SKIP mark of an earlier delivery -/

theorem stageEnd_unskipped {met : Bool} (unmarked : (s.heads.get h).skip = false) (b b' : Bool) :
    stageEnd h b met s = stageEnd h b' met s := by
  have judged (c : StepRecord) : judgeStep (countCycle (s.heads.get h) c met) c b =
      judgeStep (countCycle (s.heads.get h) c met) c b' := by
    simp [judgeStep, countCycle, unmarked]
  unfold stageEnd
  simp only [judged]

theorem stageBand_unskipped (unmarked : (s.heads.get h).skip = false) :
    ((stageBand h s).1.heads.get h).skip = false := by
  refine foldl_keeps (L := fun acc : State × Bool => (acc.1.heads.get h).skip = false)
    (fun acc z before => ?_) _ unmarked
  have monitored (band : Nat) : ((bandMonitor h band z acc.1).1.heads.get h).skip = false := by
    simpa using before
  unfold stageBandZone
  dsimp only
  split
  · unfold applyBandAction safeHoldCause
    (repeat' split) <;> simp [enterSafeHold_eq, before]
  · exact monitored _

theorem banded_unskipped (started : Bool) (unmarked : (s.heads.get h).skip = false) :
    ((s.banded h d started).1.heads.get h).skip = false := by
  have stored : ((stageInputs h d started s).heads.get h).skip = false := by
    simpa [stageInputs_eq, HeadRecord.fed] using unmarked
  unfold State.banded
  dsimp only
  split
  · exact stageBand_unskipped stored
  · exact stored

/-- At a head without a SKIP mark it does not matter when it was marked. -/
theorem staged_unskipped (started : Bool) (unmarked : (s.heads.get h).skip = false) (b b' : Bool) :
    s.staged h d started b = s.staged h d started b' := by
  have set : ((stageSetpoints h (s.banded h d started).1).heads.get h).skip = false := by
    simpa using banded_unskipped started unmarked
  unfold State.staged
  dsimp only
  rw [stageEnd_unskipped set b b']

/-- A delivery that has started a program latches its own endpoint. -/
theorem staged_started (b b' : Bool) (unmarked : (s.heads.get h).skip = false) :
    s.staged h d true b =
      (s.setHead h { s.heads.get h with latch := (s.heads.get h).endpointAfter d }).staged h d
        false b' := by
  have stored : stageInputs h d true s =
      stageInputs h d false
        (s.setHead h { s.heads.get h with latch := (s.heads.get h).endpointAfter d }) := by
    rw [stageInputs_eq, stageInputs_eq]
    simp only [State.setHead_heads, Tab.get_upd_same]
    have latch : settleLatch (HeadRecord.fed
        { s.heads.get h with latch := (s.heads.get h).endpointAfter d } d) false =
        (s.heads.get h).endpointAfter d := by
      unfold settleLatch
      simp only [Bool.false_eq_true, if_false]
      split
      · rfl
      · rfl
    rw [latch]
    simp [State.setHead, HeadRecord.fed, settleLatch, HeadRecord.endpointAfter]
  rw [staged_unskipped true unmarked b b']
  unfold State.staged State.banded
  rw [stored]

end

/-! ### The delivery after its command -/

theorem heads_kickPort (s : State) : s.kickPort.heads = s.heads := by simp

theorem kickPort_setHead (h : Head) (r : HeadRecord) (s : State) :
    (s.setHead h r).kickPort = s.kickPort.setHead h r := by
  have code (c : Chan) : (s.setHead h r).channelCode c = s.channelCode c := rfl
  unfold State.kickPort
  simp only [code]
  cases is : s.reg.inHand with
  | some c => simp only [State.setHead, is]
  | none =>
    cases low : RegulatorPort.lowest s.reg <;> simp only [State.setHead, is, low]

section
variable {h : Head} {d : Delivery} {s u : State}

/-- The delivery without its command. -/
def commandless (d : Delivery) : Delivery := { d with command := none }

theorem startedStep_same (st : HeadState) : startedStep st st = false := by cases st <;> rfl

theorem startedStep_iff (a b : HeadState) : startedStep a b = true ↔ a = .idle ∧ b = .running := by
  simp [startedStep]

theorem exec_rest (fresh : .cycleDelivery h (commandless d) ∉ u.handed) :
    exec (.cycleDelivery h (commandless d)) u =
      .next (State.kickPort (u.staged h d false (u.heads.get h).skip)) := by
  have same : exec (.cycleDelivery h (commandless d)) u =
      .next (State.kickPort (deliverCycle h (commandless d) (u.takeUp (.cycleDelivery h (commandless d))))) := rfl
  rw [same, takeUp_of_not_mem fresh, deliverCycle_eq]
  have none' : stageCommand h (commandless d).command u = u := rfl
  rw [none', startedStep_same]
  rfl

theorem exec_cycleDelivery (h : Head) (d : Delivery) (s : State) :
    exec (.cycleDelivery h d) s =
      .next (State.kickPort ((stageCommand h d.command (s.takeUp (.cycleDelivery h d))).staged h d
        (startedStep (s.heads.get h).state
          ((stageCommand h d.command (s.takeUp (.cycleDelivery h d))).heads.get h).state)
        (s.heads.get h).skip)) := rfl

/-- A command that starts no program and leaves the SKIP mark as it was: the delivery goes on without
it. -/
theorem exec_goesOn (commanded : stageCommand h d.command (s.takeUp (.cycleDelivery h d)) = u)
    (unstarted : startedStep (s.heads.get h).state (u.heads.get h).state = false)
    (skip : (u.heads.get h).skip = (s.heads.get h).skip)
    (fresh : .cycleDelivery h (commandless d) ∉ u.handed) :
    exec (.cycleDelivery h d) s = exec (.cycleDelivery h (commandless d)) u := by
  rw [exec_cycleDelivery, commanded, exec_rest fresh, unstarted, skip]

/-- A command that leaves its head IDLE or in SAFE_HOLD, after which the port may have sent. -/
theorem exec_goesOn_rests
    (commanded : (stageCommand h d.command (s.takeUp (.cycleDelivery h d))).kickPort = u.kickPort)
    (rests : (u.heads.get h).state = .idle ∨ (u.heads.get h).state = .safeHold)
    (fresh : .cycleDelivery h (commandless d) ∉ u.handed) :
    exec (.cycleDelivery h d) s = exec (.cycleDelivery h (commandless d)) u := by
  rw [exec_cycleDelivery, exec_rest fresh]
  generalize stageCommand h d.command (s.takeUp (.cycleDelivery h d)) = w at commanded
  have heads : w.heads = u.heads := by simpa using congrArg State.heads commanded
  have unstarted : startedStep (s.heads.get h).state (w.heads.get h).state = false := by
    rw [heads]
    rcases rests with is | is <;> simp [startedStep, is]
  rw [unstarted, staged_rests false _ (by rwa [heads]), staged_rests false _ rests, stageInputs_eq,
    stageInputs_eq, heads, kickPort_setHead, kickPort_setHead, commanded]

/-- A START that has started a program. -/
theorem exec_goesOn_started
    (commanded : stageCommand h d.command (s.takeUp (.cycleDelivery h d)) = u)
    (idle : (s.heads.get h).state = .idle) (running : (u.heads.get h).state = .running)
    (unmarked : (u.heads.get h).skip = false)
    (endpoint : (u.heads.get h).endpoint = (s.heads.get h).endpoint)
    (fresh : .cycleDelivery h (commandless d) ∉ u.handed) :
    exec (.cycleDelivery h d) s =
      exec (.cycleDelivery h (commandless d))
        (u.setHead h { u.heads.get h with latch := d.endpoint <|> (s.heads.get h).endpoint }) := by
  rw [exec_cycleDelivery, commanded, (startedStep_iff _ _).mpr ⟨idle, running⟩,
    exec_rest (u := u.setHead h _) fresh, ← endpoint,
    staged_started (d := d) (s.heads.get h).skip
      ((u.setHead h { u.heads.get h with
        latch := (u.heads.get h).endpointAfter d }).heads.get h).skip unmarked]
  rfl

end

/-! ### What each command leaves of its head -/

section
variable {h : Head} {s : State}

/-- A START leaves the head as it was, or begins a program. -/
theorem startHead_record (h : Head) (p : Octet) (s : State) :
    ((startHead h p s).1.heads.get h) = s.heads.get h ∨
      ∃ i first, ((startHead h p s).1.heads.get h) = (s.heads.get h).begun i first := by
  cases docked : s.platenOf h with
  | none => exact .inl (by rw [startHead_undocked docked])
  | some d =>
    cases valid : s.validProgram p with
    | none => exact .inl (by rw [startHead_invalid docked valid, takeRelease_heads])
    | some i =>
      cases gates : startVerdict h s with
      | some o => exact .inl (by rw [startHead_gated docked valid gates, takeRelease_heads])
      | none =>
        refine .inr ⟨i, s.stepRecordOf i 0, ?_⟩
        rw [startHead_starts docked valid gates, State.setHead_heads, Tab.get_upd_same]

end

/-! ### Settling O27 -/

section
variable {h : Head} {d : Delivery} {v : CommandValue} {s : State}

theorem stageCommand_seen (command : d.command = some v) (seen : s.map.learnedHead.get h = some v.seq) :
    stageCommand h d.command s = s := by
  rw [command]
  simp [stageCommand, seen]

theorem stageCommand_first (command : d.command = some v) (fresh : s.map.learnedHead.get h = none) :
    stageCommand h d.command s =
      { s with
        heads := s.heads.upd h { s.heads.get h with lastSeq := v.seq, lastOutcome := .learned }
        map := { s.map with learnedHead := s.map.learnedHead.upd h (some v.seq) } } := by
  rw [command]
  simp [stageCommand, fresh, State.setHead, State.setMap]

theorem stageCommand_new {q : Word16} (command : d.command = some v)
    (learned : s.map.learnedHead.get h = some q) (new : q ≠ v.seq) :
    stageCommand h d.command s = newHeadCommand h v s := by
  rw [command]
  simp [stageCommand, learned, new.symm]

theorem headAnswered_heads (code : Octet) (seq : Word16) (o : HeadOutcome) (r : HeadRecord) :
    (headAnswered h code seq o r s).heads.get h = { r with lastSeq := seq, lastOutcome := o } := by
  unfold headAnswered
  dsimp only
  split <;> simp

/-- Only the argument of a START is read. -/
theorem newHeadCommand_plain {code arg : Octet} (plain : code ≠ 1) (seq : Word16) :
    newHeadCommand h ⟨code, arg, seq⟩ s = newHeadCommand h ⟨code, 0, seq⟩ s := by
  have same : headCommandOf code arg = headCommandOf code 0 := by
    unfold headCommandOf
    split <;> try rfl
    next one => exact absurd (BitVec.eq_of_toNat_eq one) plain
  unfold newHeadCommand
  rw [same]

theorem newHeadCommand_unknown (unknown : 6 < v.code.toNat) :
    newHeadCommand h v s = headAnswered h v.code v.seq .badCommand (s.heads.get h) s := by
  refine newHeadCommand_unchanged ?_
  have is : headCommandOf v.code v.arg = .unknown := by
    obtain ⟨m, same⟩ := Nat.exists_eq_add_of_le' unknown
    unfold headCommandOf
    rw [same]
    rfl
  rw [is]
  rfl

theorem newHeadCommand_busy (clear : v.code = 6)
    (runs : (s.heads.get h).state = .running ∨ (s.heads.get h).state = .paused) :
    newHeadCommand h v s = headAnswered h v.code v.seq .busy (s.heads.get h) s := by
  refine newHeadCommand_unchanged ?_
  have is : headCommandOf v.code v.arg = .clear := by rw [clear]; rfl
  rw [is]
  rcases runs with is | is <;> simp [applyHeadCommand, State.learnHead, is]

/-- An ABORT leaves its head IDLE or in SAFE_HOLD. -/
theorem newHeadCommand_abort_rests (seq : Word16) :
    ((newHeadCommand h ⟨5, 0, seq⟩ s).heads.get h).state = .idle ∨
      ((newHeadCommand h ⟨5, 0, seq⟩ s).heads.get h).state = .safeHold := by
  have is : headCommandOf 5 0 = .abort := rfl
  simp only [newHeadCommand_heads, is, Tab.get_upd_same]
  cases st : ((s.learnHead h seq).heads.get h).state <;>
    simp [applyHeadCommand, st, enterSafeHold_eq]

/-- A CLEAR of a head that runs no program leaves it IDLE or in SAFE_HOLD. -/
theorem newHeadCommand_clear_rests (seq : Word16)
    (free : ¬((s.heads.get h).state = .running ∨ (s.heads.get h).state = .paused)) :
    ((newHeadCommand h ⟨6, 0, seq⟩ s).heads.get h).state = .idle ∨
      ((newHeadCommand h ⟨6, 0, seq⟩ s).heads.get h).state = .safeHold := by
  have is : headCommandOf 6 0 = .clear := rfl
  have same : ((s.learnHead h seq).heads.get h).state = (s.heads.get h).state := rfl
  simp only [newHeadCommand_heads, is, Tab.get_upd_same]
  cases st : ((s.learnHead h seq).heads.get h).state
  case safeHold =>
    simp only [applyHeadCommand, st]
    split
    · exact .inl (clearHead_state h _)
    · exact .inr st
  case done =>
    simp only [applyHeadCommand, st]
    exact .inl (clearHead_state h _)
  case idle =>
    simp only [applyHeadCommand, st]
    exact .inl trivial
  case running => exact absurd (.inl (same.symm.trans st)) free
  case paused => exact absurd (.inr (same.symm.trans st)) free

theorem newHeadCommand_start_record (p : Octet) (seq : Word16) :
    let r := (newHeadCommand h ⟨1, p, seq⟩ s).heads.get h
    (r.state = (s.heads.get h).state ∧ r.skip = (s.heads.get h).skip) ∨
      ((s.heads.get h).state = .idle ∧ r.state = .running ∧ r.skip = false ∧
        r.endpoint = (s.heads.get h).endpoint) := by
  have is : headCommandOf 1 p = .start p := rfl
  simp only [newHeadCommand_heads, is, Tab.get_upd_same]
  by_cases idle : ((s.learnHead h seq).heads.get h).state = .idle
  · rw [applyHeadCommand_start_idle idle]
    obtain same | ⟨i, first, begun⟩ := startHead_record h p (s.learnHead h seq)
    · rw [same]
      exact .inl ⟨rfl, rfl⟩
    · rw [begun]
      exact .inr ⟨idle, rfl, rfl, rfl⟩
  · rw [applyHeadCommand_start_busy idle]
    exact .inl ⟨rfl, rfl⟩

end

/-- A started program latches the endpoint of its own delivery. -/
def State.latching (u : State) (h : Head) (d : Delivery) (r : HeadRecord) : State :=
  if r.state = .idle ∧ (u.heads.get h).state = .running then
    { u with heads := u.heads.upd h { u.heads.get h with latch := d.endpoint <|> r.endpoint } }
  else u

/-- Command `c`, executed after the delivery is taken up, leaves a state from which the delivery goes
on without it. -/
def AppliedFirst (h : Head) (d : Delivery) (s : State) (c : Instr) : Prop :=
  ∃ u : State, exec c (s.takeUp (.cycleDelivery h d)) = .next u ∧
    (.cycleDelivery h (commandless d) ∉ (u.latching h d (s.heads.get h)).handed →
      exec (.cycleDelivery h d) s =
        exec (.cycleDelivery h (commandless d)) (u.latching h d (s.heads.get h)))

section
variable {h : Head} {d : Delivery} {s u : State} {c : Instr}

theorem appliedFirst_unstarted (runs : exec c (s.takeUp (.cycleDelivery h d)) = .next u)
    (commanded : stageCommand h d.command (s.takeUp (.cycleDelivery h d)) = u)
    (unstarted : startedStep (s.heads.get h).state (u.heads.get h).state = false)
    (skip : (u.heads.get h).skip = (s.heads.get h).skip) : AppliedFirst h d s c := by
  refine ⟨u, runs, ?_⟩
  have rests : u.latching h d (s.heads.get h) = u := if_neg fun both => by
    rw [(startedStep_iff _ _).mpr both] at unstarted
    cases unstarted
  rw [rests]
  exact exec_goesOn commanded unstarted skip

theorem appliedFirst_rests (runs : exec c (s.takeUp (.cycleDelivery h d)) = .next u)
    (commanded : (stageCommand h d.command (s.takeUp (.cycleDelivery h d))).kickPort = u.kickPort)
    (rests : (u.heads.get h).state = .idle ∨ (u.heads.get h).state = .safeHold) :
    AppliedFirst h d s c := by
  refine ⟨u, runs, ?_⟩
  have unstarted : u.latching h d (s.heads.get h) = u := if_neg fun both => by
    rw [both.2] at rests
    obtain no | no := rests <;> cases no
  rw [unstarted]
  exact exec_goesOn_rests commanded rests

theorem appliedFirst_started (runs : exec c (s.takeUp (.cycleDelivery h d)) = .next u)
    (commanded : stageCommand h d.command (s.takeUp (.cycleDelivery h d)) = u)
    (idle : (s.heads.get h).state = .idle) (running : (u.heads.get h).state = .running)
    (unmarked : (u.heads.get h).skip = false)
    (endpoint : (u.heads.get h).endpoint = (s.heads.get h).endpoint) : AppliedFirst h d s c := by
  refine ⟨u, runs, ?_⟩
  have starts : u.latching h d (s.heads.get h) =
      u.setHead h { u.heads.get h with latch := d.endpoint <|> (s.heads.get h).endpoint } :=
    if_pos ⟨idle, running⟩
  rw [starts]
  intro fresh
  rw [State.setHead_handed] at fresh
  exact exec_goesOn_started commanded idle running unmarked endpoint fresh

variable {v : CommandValue} {q : Word16}

/-- Each of the seven commands, new in a delivery, is applied first, as its own row is. -/
theorem command_appliedFirst {n : Nat} (command : d.command = some v)
    (learned : s.map.learnedHead.get h = some q) (new : q ≠ v.seq)
    (here : (n, c) ∈ [(0, Instr.nop h v.seq), (1, .start h v.arg v.seq), (2, .pause h v.seq),
      (3, .resume h v.seq), (4, .skip h v.seq), (5, .abort h v.seq), (6, .clear h v.seq)])
    (code : v.code.toNat = n) (absent : c ∉ (s.takeUp (.cycleDelivery h d)).handed)
    (skips : ¬(n = 4 ∧ (s.heads.get h).state = .running))
    (clears : ¬(n = 6 ∧ ((s.heads.get h).state = .running ∨ (s.heads.get h).state = .paused))) :
    AppliedFirst h d s c := by
  have commanded := stageCommand_new (s := s.takeUp (.cycleDelivery h d)) command learned new
  have plain {m : Octet} (is : v.code.toNat = m.toNat) (other : m ≠ 1) :
      stageCommand h d.command (s.takeUp (.cycleDelivery h d)) =
        newHeadCommand h ⟨m, 0, v.seq⟩ (s.takeUp (.cycleDelivery h d)) := by
    rw [commanded, ← newHeadCommand_plain (arg := v.arg) other, ← BitVec.eq_of_toNat_eq is]
  have gone : (s.takeUp (.cycleDelivery h d)).takeUp c = s.takeUp (.cycleDelivery h d) :=
    takeUp_of_not_mem absent
  have recorded {m : Octet} {o : HeadOutcome} {r : HeadRecord} (is : v.code.toNat = m.toNat)
      (other : m ≠ 1)
      (runs : exec c (s.takeUp (.cycleDelivery h d)) =
        .next (newHeadCommand h ⟨m, 0, v.seq⟩ (s.takeUp (.cycleDelivery h d))))
      (answers : newHeadCommand h ⟨m, 0, v.seq⟩ (s.takeUp (.cycleDelivery h d)) =
        headAnswered h m v.seq o r (s.takeUp (.cycleDelivery h d)))
      (unstarted : startedStep (s.heads.get h).state r.state = false)
      (skip : r.skip = (s.heads.get h).skip) : AppliedFirst h d s c := by
    refine appliedFirst_unstarted runs (plain is other) ?_ ?_ <;> rw [answers, headAnswered_heads]
    · exact unstarted
    · exact skip
  simp only [List.mem_cons, Prod.mk.injEq, List.not_mem_nil, or_false] at here
  rcases here with ⟨rfl, rfl⟩ | ⟨rfl, rfl⟩ | ⟨rfl, rfl⟩ | ⟨rfl, rfl⟩ | ⟨rfl, rfl⟩ | ⟨rfl, rfl⟩ |
    ⟨rfl, rfl⟩
  · refine recorded (m := 0) code (by decide) ?_ (newHeadCommand_unchanged rfl) (startedStep_same _) rfl
    exact congrArg (fun x => Host.Outcome.next (newHeadCommand h ⟨0, 0, v.seq⟩ x)) gone
  · have runs : exec (.start h v.arg v.seq) (s.takeUp (.cycleDelivery h d)) =
        .next (newHeadCommand h ⟨1, v.arg, v.seq⟩ (s.takeUp (.cycleDelivery h d))) :=
      congrArg (fun x => Host.Outcome.next (newHeadCommand h ⟨1, v.arg, v.seq⟩ x)) gone
    have is : stageCommand h d.command (s.takeUp (.cycleDelivery h d)) =
        newHeadCommand h ⟨1, v.arg, v.seq⟩ (s.takeUp (.cycleDelivery h d)) := by
      rw [commanded, ← (BitVec.eq_of_toNat_eq code : v.code = 1)]
    obtain ⟨state, skip⟩ | ⟨idle, running, unmarked, endpoint⟩ :=
      newHeadCommand_start_record (h := h) (s := s.takeUp (.cycleDelivery h d)) v.arg v.seq
    · exact appliedFirst_unstarted runs is (by rw [state]; exact startedStep_same _) skip
    · exact appliedFirst_started runs is idle running unmarked endpoint
  · refine recorded (m := 2) code (by decide) ?_ (newHeadCommand_pause h _ _) ?_ ?_
    · exact congrArg (fun x => Host.Outcome.next (newHeadCommand h ⟨2, 0, v.seq⟩ x)) gone
    · change startedStep (s.heads.get h).state (ite _ _ (s.heads.get h)).state = false
      split
      · simp [startedStep]
      · exact startedStep_same _
    · change (ite _ _ (s.heads.get h)).skip = _
      split <;> rfl
  · refine recorded (m := 3) code (by decide) ?_ (newHeadCommand_resume h _ _) ?_ ?_
    · exact congrArg (fun x => Host.Outcome.next (newHeadCommand h ⟨3, 0, v.seq⟩ x)) gone
    · change startedStep (s.heads.get h).state
        (ite ((s.heads.get h).state = .paused) _ (s.heads.get h)).state = false
      split
      · next is => simp [startedStep, is]
      · exact startedStep_same _
    · change (ite _ _ (s.heads.get h)).skip = _
      split <;> rfl
  · refine recorded (m := 4) code (by decide) ?_ (newHeadCommand_skip h _ _) ?_ ?_
    · exact congrArg (fun x => Host.Outcome.next (newHeadCommand h ⟨4, 0, v.seq⟩ x)) gone
    · change startedStep (s.heads.get h).state
        (ite ((s.heads.get h).state = .running) _ (s.heads.get h)).state = false
      split
      · next is => exact absurd ⟨rfl, is⟩ skips
      · exact startedStep_same _
    · change (ite ((s.heads.get h).state = .running) _ (s.heads.get h)).skip = _
      split
      · next is => exact absurd ⟨rfl, is⟩ skips
      · rfl
  · refine appliedFirst_rests (u := newHeadCommand h ⟨5, 0, v.seq⟩ (s.takeUp (.cycleDelivery h d)))
      ?_ ?_ (newHeadCommand_abort_rests _)
    · exact congrArg (fun x => Host.Outcome.next (newHeadCommand h ⟨5, 0, v.seq⟩ x)) gone
    · rw [plain (m := 5) code (by decide)]
  · refine appliedFirst_rests
      (u := (newHeadCommand h ⟨6, 0, v.seq⟩ (s.takeUp (.cycleDelivery h d))).kickPort) ?_ ?_ ?_
    · exact congrArg
        (fun x => Host.Outcome.next (State.kickPort (newHeadCommand h ⟨6, 0, v.seq⟩ x))) gone
    · rw [plain (m := 6) code (by decide), State.kickPort_kickPort]
    · rw [heads_kickPort]
      exact newHeadCommand_clear_rests _ fun runs => clears ⟨rfl, runs⟩

end

/-- Settles O27: by what the delivery's command does. -/
theorem deliveryToAHeadNotRunning : Obligations.DeliveryToAHeadNotRunning := by
  intro h d s
  extract_lets t r rest goesOn
  refine ⟨fun rests seen => ?_, fun v command seen fresh => ?_, fun v command first fresh => ?_,
    fun v q command learned new => ?_⟩
  · have same : stageCommand h d.command t = t := by
      obtain none' | ⟨v, command, seen⟩ := seen
      · rw [none']; rfl
      · exact stageCommand_seen command seen
    have stored := staged_rests (h := h) (d := d) (s := t) false r.skip rests
    rw [exec_cycleDelivery]
    change Host.Outcome.next (State.kickPort ((stageCommand h d.command t).staged h d _ r.skip)) = _
    rw [same]
    change Host.Outcome.next (State.kickPort (t.staged h d (startedStep r.state r.state) r.skip)) = _
    have latch : settleLatch ((t.heads.get h).fed d) false = r.latch := settleLatch_rests rests
    rw [startedStep_same, stored, stageInputs_eq, latch]
    rfl
  · exact exec_goesOn (stageCommand_seen command seen) (startedStep_same _) rfl fresh
  · exact exec_goesOn (stageCommand_first command first) (by
      simp only [Tab.get_upd_same]
      exact startedStep_same _) (by simp only [Tab.get_upd_same]; rfl) fresh
  · have commanded := stageCommand_new (s := t) command learned new
    refine ⟨fun unknown fresh => ?_, fun clear runs fresh => ?_, fun x here code absent skips clears => ?_⟩
    · refine exec_goesOn (commanded.trans (newHeadCommand_unknown unknown)) ?_ ?_ fresh <;>
        rw [headAnswered_heads]
      exact startedStep_same _
    · refine exec_goesOn (commanded.trans (newHeadCommand_busy clear runs)) ?_ ?_ fresh <;>
        rw [headAnswered_heads]
      exact startedStep_same _
    · exact command_appliedFirst command learned new here code absent skips clears

end Sys2Proof.Machine
end

section
/-! PROOFS. The Regulator Port, the Gauge Port and its filters. -/

namespace Sys2Proof.Machine

open Sys2Proof

/-! ### Numbers as bits, most significant first -/

/-- The low `k` bits of a number, most significant first. -/
def msbBits (k n : Nat) : List Bool := (List.range k).map fun i => n.testBit (k - 1 - i)

theorem msbBits_succ (k n : Nat) : msbBits (k + 1) n = msbBits k (n / 2) ++ [n.testBit 0] := by
  unfold msbBits
  rw [List.range_succ, List.map_append]
  congr 1
  · refine List.map_congr_left fun i mem => ?_
    have low := List.mem_range.mp mem
    rw [show k + 1 - 1 - i = k - 1 - i + 1 by omega, Nat.testBit_succ]
  · simp

theorem bitsToNat_snoc (l : List Bool) (b : Bool) :
    bitsToNat (l ++ [b]) = 2 * bitsToNat l + boolCode b := by
  simp [bitsToNat]

theorem bitsToNat_msbBits (k n : Nat) : bitsToNat (msbBits k n) = n % 2 ^ k := by
  induction k generalizing n with
  | zero => simp [msbBits, bitsToNat, Nat.mod_one]
  | succ k ih =>
    have low : boolCode (n.testBit 0) = n % 2 := by
      rw [Nat.testBit_zero]
      obtain is | is := Nat.mod_two_eq_zero_or_one n <;> rw [is] <;> rfl
    rw [msbBits_succ, bitsToNat_snoc, ih, low, Nat.pow_succ, Nat.mul_comm (2 ^ k) 2, Nat.mod_mul]
    omega

theorem msbBits_length (k n : Nat) : (msbBits k n).length = k := by simp [msbBits]

/-! ### The regulator word -/

theorem parity_odd (c : Chan) (code : Nat) :
    (onesIn 6 c.val + onesIn 12 code + boolCode (wordParity c code)) % 2 = 1 := by
  unfold wordParity
  obtain is | is := Nat.mod_two_eq_zero_or_one (onesIn 6 c.val + onesIn 12 code)
  · have even : ((onesIn 6 c.val + onesIn 12 code) % 2 == 0) = true := by simp [is]
    have one : boolCode true = 1 := rfl
    rw [even, one]
    omega
  · have odd : ((onesIn 6 c.val + onesIn 12 code) % 2 == 0) = false := by simp [is]
    have zero : boolCode false = 0 := rfl
    rw [odd, zero]
    omega

theorem regulatorWord_channel (c : Chan) (code : Nat) {i : Nat} (low : i < 6) :
    (regulatorWord c code).getMsbD i = c.val.testBit (5 - i) := by
  change BitVec.getMsbD (w := 6 + 12 + 1)
    (BitVec.ofNat 6 c.val ++ BitVec.ofNat 12 code ++ BitVec.ofBool (wordParity c code)) i = _
  rw [BitVec.getMsbD_append, BitVec.getMsbD_append, if_neg (by omega), if_neg (by omega),
    BitVec.getMsbD_eq_getLsbD, BitVec.getLsbD_ofNat]
  simp [low, show 5 - i < 6 by omega]

theorem regulatorWord_code (c : Chan) (code : Nat) {i : Nat} (low : i < 12) :
    (regulatorWord c code).getMsbD (6 + i) = code.testBit (11 - i) := by
  change BitVec.getMsbD (w := 6 + 12 + 1)
    (BitVec.ofNat 6 c.val ++ BitVec.ofNat 12 code ++ BitVec.ofBool (wordParity c code)) (6 + i) = _
  rw [BitVec.getMsbD_append, BitVec.getMsbD_append, if_neg (by omega), if_pos (by omega),
    BitVec.getMsbD_eq_getLsbD, BitVec.getLsbD_ofNat]
  simp [low, show 11 - i < 12 by omega]

theorem regulatorWord_parity (c : Chan) (code : Nat) :
    (regulatorWord c code).getMsbD 18 = wordParity c code := by
  change BitVec.getMsbD (w := 6 + 12 + 1)
    (BitVec.ofNat 6 c.val ++ BitVec.ofNat 12 code ++ BitVec.ofBool (wordParity c code)) 18 = _
  rw [BitVec.getMsbD_append, if_pos (by omega), BitVec.getMsbD_ofBool]
  rfl

/-- The ones of a number do not depend on the order of its bits. -/
theorem onesIn_eq_reversed (k n : Nat) :
    (List.range k).countP (fun i => n.testBit (k - 1 - i)) = onesIn k n := by
  have reversed : (List.range k).map (fun i => k - 1 - i) = (List.range k).reverse :=
    List.ext_getElem (by simp) fun i _ _ => by simp
  calc (List.range k).countP (fun i => n.testBit (k - 1 - i))
      = ((List.range k).map fun i => k - 1 - i).countP (fun i => n.testBit i) := by
        rw [List.countP_map]; rfl
    _ = onesIn k n := by rw [reversed, List.countP_reverse]; rfl

/-- A word has an odd number of ones. -/
theorem regulatorWord_odd (c : Chan) (code : Nat) :
    ((List.range 19).countP fun i => (regulatorWord c code).getMsbD i) % 2 = 1 := by
  have parts : List.range 19 = List.range 6 ++ (List.range 12).map (6 + ·) ++ [18] := by decide
  have channel : (List.range 6).countP (fun i => (regulatorWord c code).getMsbD i) =
      onesIn 6 c.val := by
    rw [← onesIn_eq_reversed]
    exact List.countP_congr fun i mem => by rw [regulatorWord_channel c code (List.mem_range.mp mem)]
  have data : ((List.range 12).map (6 + ·)).countP (fun i => (regulatorWord c code).getMsbD i) =
      onesIn 12 code := by
    rw [← onesIn_eq_reversed, List.countP_map]
    exact List.countP_congr fun i mem => by
      rw [Function.comp_apply, regulatorWord_code c code (List.mem_range.mp mem)]
  have last : [18].countP (fun i => (regulatorWord c code).getMsbD i) =
      boolCode (wordParity c code) := by
    simp only [List.countP_cons, List.countP_nil, regulatorWord_parity]
    cases wordParity c code <;> rfl
  rw [parts, List.countP_append, List.countP_append, channel, data, last]
  exact parity_odd c code

/-! ### What the port sends -/

theorem lowest_eq_none {r : RegulatorPort} (none' : ∀ c : Chan, r.pending.get c = false) :
    RegulatorPort.lowest r = none := by
  simp [RegulatorPort.lowest, none']

theorem lowest_eq_some {r : RegulatorPort} {c : Chan} (marked : r.pending.get c = true)
    (first : ∀ x < c, r.pending.get x = false) : RegulatorPort.lowest r = some c := by
  refine List.find?_eq_some_iff_getElem.mpr ⟨marked, c.val, by simp, by simp, fun j below => ?_⟩
  have small : j < 34 := below.trans c.isLt
  simpa using first ⟨j, small⟩ below

/-- A free port sends the lowest-numbered pending channel. -/
theorem kickPort_sends {s : State} {c : Chan} (free : s.reg.inHand = none)
    (low : RegulatorPort.lowest s.reg = some c) :
    s.kickPort =
      { s with
        reg :=
          { s.reg with
            last := s.reg.last.upd c (s.channelCode c), pending := s.reg.pending.upd c false
            inHand := some c }
        regulatorOut := s.regulatorOut ++ [regulatorWord c (s.channelCode c)] } := by
  unfold State.kickPort
  rw [free]
  dsimp only
  rw [low]

/-! ### The port on a tick -/

/-- From `s` to `t` the port goes on with its word, its refresh count and what it has sent last. -/
def SamePort (s t : State) : Prop :=
  t.reg.inHand = s.reg.inHand ∧ t.reg.refresh = s.reg.refresh ∧ t.reg.last = s.reg.last

theorem SamePort.of_reg {s t : State} (same : t.reg = s.reg) : SamePort s t := by
  rw [SamePort, same]
  exact ⟨rfl, rfl, rfl⟩

theorem SamePort.trans {s t u : State} (first : SamePort s t) (second : SamePort t u) :
    SamePort s u := by
  obtain ⟨hand, refresh, last⟩ := first
  obtain ⟨hand', refresh', last'⟩ := second
  exact ⟨hand'.trans hand, refresh'.trans refresh, last'.trans last⟩

theorem SamePort.next {s t u : State} (second : SamePort t u) (first : SamePort s t) :
    SamePort s u := first.trans second

theorem SamePort.foldl {α : Type} {f : State → α → State} (each : ∀ s a, SamePort s (f s a))
    (l : List α) (s : State) : SamePort s (l.foldl f s) :=
  foldl_keeps (fun _ _ before => before.trans (each _ _)) l (.of_reg rfl)

theorem markChange_samePort (s : State) (c : Chan) (a b : Nat) : SamePort s (s.markChange c a b) := by
  unfold State.markChange
  split <;> exact ⟨rfl, rfl, rfl⟩

theorem setSetpoint_samePort (s : State) (c : ZoneCh) (v : Nat) : SamePort s (s.setSetpoint c v) := by
  unfold State.setSetpoint
  dsimp only
  split
  · exact .next (.of_reg rfl) (.next (markChange_samePort _ _ _ _) (.of_reg rfl))
  · exact .next (markChange_samePort _ _ _ _) (.of_reg rfl)

theorem tickHead_samePort (s : State) (h : Head) : SamePort s (tickHead s h) := by
  have moved : SamePort s ((List.finRange 7).foldl (safeMoveZone h) s) :=
    .foldl (fun u z => by rw [safeMoveZone_eq]; exact setSetpoint_samePort _ _ _) _ s
  unfold tickHead
  split
  · exact moved.trans (.of_reg (by simp [safeSettle]))
  · exact .of_reg rfl

theorem driveCond_samePort (s : State) (p : Platen) (c : Conditioner) :
    SamePort s (s.driveCond p c) :=
  ((SamePort.of_reg (t := s.setCond p c) rfl).trans (markChange_samePort _ _ _ _)).trans
    (markChange_samePort _ _ _ _)

theorem startSegment_samePort (p : Platen) (k : Fin 8) (seg : Nat) (s : State) :
    SamePort s (startSegment p k seg s) :=
  .next (.of_reg rfl) (driveCond_samePort _ _ _)

theorem endSegment_samePort (p : Platen) (s : State) : SamePort s (endSegment p s) := by
  unfold endSegment
  dsimp only
  (repeat' split)
  · exact .next (startSegment_samePort _ _ _ _) (.of_reg rfl)
  · exact driveCond_samePort _ _ _
  · exact startSegment_samePort _ _ _ _
  · exact .next (startSegment_samePort _ _ _ _) (.of_reg rfl)
  · exact .next (driveCond_samePort _ _ _) (.of_reg rfl)

theorem enterFaulted_samePort (p : Platen) (cause : CondFaultCause) (d : Nat) (s : State) :
    SamePort s (enterFaulted p cause d s) := .next (.of_reg rfl) (driveCond_samePort _ _ _)

theorem tickCond_samePort (s : State) (p : Platen) : SamePort s (tickCond s p) := by
  unfold tickCond dwellEndAt reachTimeoutAt parkTimeoutAt
  dsimp only
  (repeat' split)
  · exact .of_reg rfl
  · exact endSegment_samePort _ _
  · exact .of_reg rfl
  · exact .next (enterFaulted_samePort _ _ _ _) (.of_reg rfl)
  · exact .of_reg rfl
  · exact .of_reg rfl
  · exact .next (enterFaulted_samePort _ _ _ _) (.of_reg rfl)
  all_goals exact .of_reg rfl

theorem tickField_samePort (s : State) : SamePort s (tickField s) := by
  have heads := SamePort.foldl tickHead_samePort (List.finRange 4) s
  have filters (u : State) : SamePort u ((List.finRange 34).foldl tickFilter u) :=
    .foldl (fun _ _ => .of_reg (by simp)) _ u
  have dispense (u : State) : SamePort u ((List.finRange 3).foldl tickDispense u) :=
    .foldl (fun _ _ => .of_reg (by simp)) _ u
  have conds (u : State) : SamePort u ((List.finRange 3).foldl tickCond u) :=
    .foldl tickCond_samePort _ u
  have idle (u : State) : SamePort u ((List.finRange 3).foldl tickIdle u) :=
    .foldl (fun _ _ => .of_reg (by simp)) _ u
  exact (((heads.trans (filters _)).trans (dispense _)).trans (conds _)).trans (idle _)

/-- The Regulator Port after every block has taken a tick. -/
theorem tickBlocks_reg (s : State) :
    ∃ u : State, SamePort s u ∧ (tickBlocks s).reg = (tickPort u).reg := by
  refine ⟨tickField { advanceTime (1000 - s.phase) s with phase := 0 },
    (tickField_samePort _).next (.of_reg (by simp)), ?_⟩
  simp [tickBlocks, foldl_leaves State.reg]

theorem tick_port {s : State} (goesOn : tickGoesOn s) :
    ∃ u : State, s.after .tick = u.kickPort ∧ u.regulatorOut = s.regulatorOut ∧
      ∃ v : State, SamePort s v ∧ u.reg = (tickPort v).reg := by
  obtain ⟨v, same, reg⟩ := tickBlocks_reg (s.takeUp .tick)
  obtain e | e := after_tick_goesOn goesOn
  · exact ⟨_, e, by simp, v, same, reg⟩
  · exact ⟨_, e, by simp [State.countReset], v, same, by simpa [State.countReset] using reg⟩

theorem tickPort_waits {s : State} (early : s.reg.refresh + 1 < 8) :
    (tickPort s).reg = { s.reg with refresh := s.reg.refresh + 1 } := by
  rw [tickPort, if_pos early]
  rfl

theorem tickPort_refreshes {s : State} (due : 8 ≤ s.reg.refresh + 1) :
    (tickPort s).reg = { s.reg with pending := Tab.all 34 true, refresh := 0 } := by
  rw [tickPort, if_neg (by omega)]
  rfl

theorem kickPort_refresh (s : State) : s.kickPort.reg.refresh = s.reg.refresh := by
  unfold State.kickPort
  (repeat' split) <;> rfl

theorem all_upd_zero : (Tab.all 34 true).upd 0 false = Tab.ofFn fun c : Chan => decide (c ≠ 0) := by
  decide

/-- Settles O32: the free port takes the lowest mark; a word's bits; and the eighth tick. -/
theorem regulatorPortSends : Obligations.RegulatorPortSends := by
  refine ⟨fun s => congrArg Host.Outcome.next ?_, fun s => ⟨fun none' => ?_, fun c marked first => ?_⟩,
    parity_odd, fun c code _ => ⟨fun i => regulatorWord_channel c code,
      fun i => regulatorWord_code c code, regulatorWord_odd c code⟩, fun s goesOn => ?_⟩
  · cases free : s.reg.inHand with
    | some c => exact State.kickPort_of_inHand free
    | none =>
      have sends := kickPort_sends (s := refreshPort (s.takeUp .regulatorRefresh)) free
        (lowest_all _ rfl)
      refine sends.trans ?_
      dsimp only [refreshPort, State.setReg]
      rw [all_upd_zero]
      rfl
  · exact congrArg Host.Outcome.next (State.kickPort_of_lowest (lowest_eq_none none'))
  · exact congrArg Host.Outcome.next (kickPort_sends rfl (lowest_eq_some marked first))
  · obtain ⟨u, ends, out, v, ⟨hand, refresh, last⟩, reg⟩ := tick_port goesOn
    refine ⟨_, exec_tick s, fun early => ?_, fun due => ?_⟩
    · rw [ends, kickPort_refresh, reg, tickPort_waits (by rwa [refresh]), refresh]
    · rw [← refresh] at due
      rw [tickPort_refreshes due] at reg
      rw [ends]
      refine ⟨by rw [kickPort_refresh, reg], fun busy => ?_, fun free => ?_⟩
      · obtain ⟨c, busy⟩ := Option.ne_none_iff_exists'.mp busy
        have still : u.reg.inHand = some c := by rw [reg]; exact hand.trans busy
        rw [State.kickPort_of_inHand still, reg]
        exact ⟨hand, rfl, out⟩
      · have still : u.reg.inHand = none := by rw [reg]; exact hand.trans free
        rw [kickPort_sends still (lowest_all _ (by rw [reg])), reg]
        exact ⟨rfl, rfl, by rw [out]; rfl⟩

end Sys2Proof.Machine
end

section
/-! PROOFS. The Gauge Port and its filters, and what a tick leaves as it was. -/

namespace Sys2Proof.Machine

open Sys2Proof

/-! ### Zone entries on a tick -/

/-- No zone's entry has changed. -/
def SameConfig (s t : State) : Prop := ∀ c, (t.zones.get c).config = (s.zones.get c).config

theorem SameConfig.of_zones {s t : State} (same : t.zones = s.zones) : SameConfig s t :=
  fun c => by rw [same]

theorem SameConfig.trans {s t u : State} (first : SameConfig s t) (second : SameConfig t u) :
    SameConfig s u := fun c => (second c).trans (first c)

theorem tickHead_sameConfig (s : State) (h : Head) : SameConfig s (tickHead s h) := by
  have moved : SameConfig s ((List.finRange 7).foldl (safeMoveZone h) s) :=
    foldl_keeps (L := SameConfig s) (fun u z before => before.trans fun c => by
      rw [safeMoveZone_zones, Tab.get_upd]
      split
      · next is => rw [← is]; rfl
      · rfl) _ (.of_zones rfl)
  unfold tickHead
  split
  · exact moved.trans (.of_zones (by simp [safeSettle]))
  · exact .of_zones rfl

theorem tickHeads_sameConfig (s : State) : SameConfig s ((List.finRange 4).foldl tickHead s) :=
  foldl_keeps (L := SameConfig s) (fun u h before => before.trans (tickHead_sameConfig u h)) _
    (.of_zones rfl)

theorem staleLimitOf_congr {s t : State} (same : SameConfig s t) (c : Chan) :
    t.staleLimitOf c = s.staleLimitOf c := by
  unfold State.staleLimitOf
  split
  · simp only [State.zoneConfig, same _]
  · rfl

/-! ### Filters and their age -/

/-- A filter of which a millisecond has passed, under a stale limit (R66). -/
def Filter.aged (f : Filter) (limit : Nat) : Filter :=
  { f with
    age := min (f.age + 1) 65535
    stale := f.stale || decide (limit < min (f.age + 1) 65535) }

theorem judgeStale_eq (c : Chan) (s : State) :
    judgeStale c s =
      if (s.filters.get c).stale = false ∧ s.staleLimitOf c < (s.filters.get c).age then
        { s with
          filters := s.filters.upd c { s.filters.get c with stale := true }
          handed :=
            s.handed ++
              [.eventRaise .gaugeStale (staleSource c) (w16 c.val)
                (w16 (s.filters.get c).feedback)] }
      else s := rfl

theorem judgeStale_filters_same (c : Chan) (s : State) :
    (judgeStale c s).filters.get c =
      { s.filters.get c with
        stale := (s.filters.get c).stale || decide (s.staleLimitOf c < (s.filters.get c).age) } := by
  rw [judgeStale_eq]
  split
  · next stales =>
    obtain ⟨fresh, past⟩ := stales
    simp [fresh, past]
  · next stays =>
    have same : ((s.filters.get c).stale || decide (s.staleLimitOf c < (s.filters.get c).age)) =
        (s.filters.get c).stale := by
      cases is : (s.filters.get c).stale with
      | true => rfl
      | false => simpa [is] using stays
    rw [same]

theorem tickFilter_filters_same (c : Chan) (s : State) :
    (tickFilter s c).filters.get c = (s.filters.get c).aged (s.staleLimitOf c) := by
  unfold tickFilter
  rw [judgeStale_filters_same]
  simp [Filter.aged, State.staleLimitOf, State.zoneConfig]

theorem tickFilter_filters_ne {c k : Chan} (ne : k ≠ c) (s : State) :
    (tickFilter s k).filters.get c = s.filters.get c := by
  unfold tickFilter
  rw [judgeStale_eq]
  split <;> simp [Tab.get_upd_ne _ _ ne]

theorem tickFilters_filters (c : Chan) (s : State) :
    ((List.finRange 34).foldl tickFilter s).filters.get c =
      (s.filters.get c).aged (s.staleLimitOf c) := by
  have folded := foldl_acts_once (fun s : State => (s.filters.get c, s.staleLimitOf c))
    (fun x => (x.1.aged x.2, x.2)) tickFilter c
    (fun s => Prod.ext (tickFilter_filters_same c s) (staleLimitOf_congr (.of_zones (by simp)) c))
    (fun s k ne => Prod.ext (tickFilter_filters_ne ne s) (staleLimitOf_congr (.of_zones (by simp)) c))
    (List.nodup_finRange 34) (List.mem_finRange c) s
  dsimp only at folded
  exact (Prod.mk.inj folded).1

theorem tickBlocks_filters (c : Chan) (s : State) :
    (tickBlocks s).filters.get c = (s.filters.get c).aged (s.staleLimitOf c) := by
  have heads := tickHeads_sameConfig { advanceTime (1000 - s.phase) s with phase := 0 }
  have same : SameConfig s ((List.finRange 4).foldl tickHead
      { advanceTime (1000 - s.phase) s with phase := 0 }) :=
    SameConfig.trans (.of_zones (by simp)) heads
  have filters : ((List.finRange 4).foldl tickHead
      { advanceTime (1000 - s.phase) s with phase := 0 }).filters = s.filters := by
    simp [foldl_leaves State.filters]
  have aged := tickFilters_filters c ((List.finRange 4).foldl tickHead
    { advanceTime (1000 - s.phase) s with phase := 0 })
  rw [staleLimitOf_congr same, filters] at aged
  rw [← aged]
  simp [tickBlocks, tickField, foldl_leaves State.filters]

theorem staleSource_eq (c : Chan) :
    staleSource c =
      if hc : c.val < 28 then .zone ⟨c.val, hc⟩
      else .conditioner ⟨(c.val - 28) % 3, by omega⟩ := by
  unfold staleSource
  split
  · rfl
  split
  · congr 2
    omega
  · congr 2
    omega

/-! ### What a block hands on a tick stays handed -/

section
variable (s : State)

theorem tickInputs_hands : Hands s (tickVerifier ((List.finRange 16).foldl tickInput (tickPort s))) :=
  (tickVerifier_hands _).next (.next (.foldl tickInput_hands _ (.refl _)) (.same (by simp)))

theorem tickIdles_hands :
    Hands s (tickVerifier ((List.finRange 16).foldl tickInput (tickPort
      ((List.finRange 3).foldl tickIdle s)))) :=
  (tickInputs_hands _).next (.foldl tickIdle_hands _ (.refl s))

theorem tickConds_hands :
    Hands s (tickVerifier ((List.finRange 16).foldl tickInput (tickPort
      ((List.finRange 3).foldl tickIdle ((List.finRange 3).foldl tickCond s))))) :=
  (tickIdles_hands _).next (.foldl tickCond_hands _ (.refl s))

theorem tickDispenses_hands :
    Hands s (tickVerifier ((List.finRange 16).foldl tickInput (tickPort
      ((List.finRange 3).foldl tickIdle ((List.finRange 3).foldl tickCond
        ((List.finRange 3).foldl tickDispense s)))))) :=
  (tickConds_hands _).next (.foldl tickDispense_hands _ (.refl s))

theorem filtered_hands :
    Hands ((List.finRange 34).foldl tickFilter ((List.finRange 4).foldl tickHead
      { advanceTime (1000 - s.phase) s with phase := 0 })) (tickBlocks s) := by
  unfold tickBlocks tickField
  exact tickDispenses_hands _

end

/-- A filter that goes stale at a tick raises it. -/
theorem tickFilters_stale {c : Chan} {s : State} (fresh : (s.filters.get c).stale = false)
    (past : s.staleLimitOf c < min ((s.filters.get c).age + 1) 65535) :
    .eventRaise .gaugeStale (staleSource c) (w16 c.val) (w16 (s.filters.get c).feedback) ∈
      ((List.finRange 34).foldl tickFilter s).handed := by
  refine foldl_hands_once (fun u : State => (u.filters.get c, u.staleLimitOf c))
    (fun u k ne => Prod.ext (tickFilter_filters_ne ne u)
      (staleLimitOf_congr (.of_zones (by simp)) c))
    tickFilter_hands (List.nodup_finRange 34) (List.mem_finRange c) fun u at_ => ?_
  obtain ⟨filter, limit⟩ := Prod.mk.inj at_
  unfold tickFilter
  dsimp only
  rw [judgeStale_eq, if_pos]
  · simp [filter]
  · have still : State.staleLimitOf (u.setFilter c { u.filters.get c with
        age := min ((u.filters.get c).age + 1) 65535 }) c = s.staleLimitOf c := limit
    rw [still]
    simpa [filter, fresh] using past

theorem tickBlocks_stale {c : Chan} {s : State} (fresh : (s.filters.get c).stale = false)
    (past : s.staleLimitOf c < min ((s.filters.get c).age + 1) 65535) :
    .eventRaise .gaugeStale (staleSource c) (w16 c.val) (w16 (s.filters.get c).feedback) ∈
      (tickBlocks s).handed := by
  have heads := tickHeads_sameConfig { advanceTime (1000 - s.phase) s with phase := 0 }
  have same : SameConfig s ((List.finRange 4).foldl tickHead
      { advanceTime (1000 - s.phase) s with phase := 0 }) :=
    SameConfig.trans (.of_zones (by simp)) heads
  have filters : ((List.finRange 4).foldl tickHead
      { advanceTime (1000 - s.phase) s with phase := 0 }).filters = s.filters := by
    simp [foldl_leaves State.filters]
  have raised := tickFilters_stale (c := c) (s := (List.finRange 4).foldl tickHead
    { advanceTime (1000 - s.phase) s with phase := 0 })
  rw [filters, staleLimitOf_congr same] at raised
  exact (filtered_hands s).mem (raised fresh past)

/-! ### Gauge words -/

theorem arriveWord_framing {w : GaugeBits} (bad : w.bits.length ≠ 19 ∨ w.stop = false) (s : State) :
    arriveWord w s = s.raise .gaugeError .gaugePort 0 0 := by
  rw [arriveWord, checkWord, if_pos bad]

theorem arriveWord_parity {w : GaugeBits} (length : w.bits.length = 19) (stop : w.stop = true)
    (even : w.bits.count true % 2 = 0) (s : State) :
    arriveWord w s = s.raise .gaugeError .gaugePort 1 0 := by
  rw [arriveWord, checkWord, if_neg (by simp [length, stop]), if_pos even]

/-- A word of six channel bits and thirteen others that is not refused for its form. -/
theorem checkWord_channel {w : GaugeBits} {n : Nat} {rest : List Bool} (small : n < 64)
    (bits : w.bits = msbBits 6 n ++ rest) (length : rest.length = 13) (stop : w.stop = true)
    (odd : w.bits.count true % 2 = 1) :
    checkWord w =
      if h : n < 34 then .good ⟨n, h⟩ (bitsToNat (rest.take 12)) else .unassigned n := by
  have long : w.bits.length = 19 := by rw [bits, List.length_append, msbBits_length, length]
  have channel : bitsToNat (w.bits.take 6) = n := by
    rw [bits, List.take_left' (msbBits_length 6 n), bitsToNat_msbBits, Nat.mod_eq_of_lt (show n < 2 ^ 6 by omega)]
  have reading : w.bits.drop 6 = rest := by rw [bits, List.drop_left' (msbBits_length 6 n)]
  rw [checkWord, if_neg (by simp [long, stop]), if_neg (by omega)]
  simp only [channel, reading]

theorem checkWord_good {w : GaugeBits} {c : Chan} {reading : Nat} {parity : Bool}
    (small : reading < 4096) (stop : w.stop = true)
    (bits : w.bits = msbBits 6 c.val ++ msbBits 12 reading ++ [parity])
    (odd : w.bits.count true % 2 = 1) : checkWord w = .good c reading := by
  have channel := checkWord_channel (n := c.val) (rest := msbBits 12 reading ++ [parity])
    (by omega) (by rw [bits, List.append_assoc]) (by simp [msbBits_length]) stop odd
  rw [channel, dif_pos c.isLt, List.take_left' (msbBits_length 12 reading), bitsToNat_msbBits,
    Nat.mod_eq_of_lt (show reading < 2 ^ 12 by omega)]

theorem msbBits_six (n : Nat) : msbBits 6 n = (List.range 6).map fun i => n.testBit (5 - i) := rfl

/-- Settles O33: by the form of the word, and by the age of the filter. -/
theorem gaugeErrorsRaise : Obligations.GaugeErrorsRaise := by
  refine ⟨fun w s => ⟨fun bad => congrArg Host.Outcome.next (arriveWord_framing bad _),
    fun length stop even => congrArg Host.Outcome.next (arriveWord_parity length stop even _),
    fun n rest past small length stop bits odd => congrArg Host.Outcome.next ?_⟩, fun c s => ?_⟩
  · rw [arriveWord, checkWord_channel small bits length stop odd, dif_neg (by omega)]
  · extract_lets t f limit age
    have limitOf (u : State) (same : SameConfig s u) : u.staleLimitOf c = limit :=
      staleLimitOf_congr same c
    refine ⟨congrArg Host.Outcome.next ?_, fun goesOn => ?_⟩
    · rw [judgeStale_eq, limitOf (s.takeUp (.gaugeStale c)) (.of_zones rfl), staleSource_eq]
      rfl
    · refine ⟨_, exec_tick s, ?_, fun fresh past => ?_⟩
      · have filters := after_tick_part goesOn State.filters (fun _ => rfl) (by simp)
        rw [filters, tickBlocks_filters, limitOf (s.takeUp .tick) (.of_zones rfl)]
        rfl
      · rw [after_tick_handed goesOn, ← staleSource_eq]
        refine tickBlocks_stale (s := s.takeUp .tick) fresh ?_
        rw [limitOf (s.takeUp .tick) (.of_zones rfl)]
        exact past

/-! ### A sample -/

/-- The zone channel that an overpressure judgement leaves. -/
theorem overpressureUpdate_eq (c : ZoneCh) (fb : Nat) (s : State) :
    overpressureUpdate c fb s =
      let e := s.zoneConfig c
      let z := s.zones.get c
      let n := min (z.opCount + 1) (debounceLength e.opDebounce)
      if fb ≤ e.opLimit then
        { s with zones := s.zones.upd c { z with opCount := 0, opMark := false } }
      else if z.opMark = false ∧ n = debounceLength e.opDebounce then
        { s with
          zones := s.zones.upd c { z with opCount := n, opMark := true }
          handed :=
            s.handed ++
              [.eventRaise .overpressure (.zone c) (w16 fb) (w16 e.opLimit),
                .overpressureNotice (headOfZone c)] }
      else { s with zones := s.zones.upd c { z with opCount := n } } := by
  unfold overpressureUpdate judgeOverpressure
  dsimp only
  by_cases low : fb ≤ (s.zoneConfig c).opLimit
  · simp [low, State.setZone]
  · simp only [low, if_false]
    cases mark : (s.zones.get c).opMark with
    | true => simp [State.setZone]
    | false =>
      by_cases due : min ((s.zones.get c).opCount + 1)
          (debounceLength (s.zoneConfig c).opDebounce) =
            debounceLength (s.zoneConfig c).opDebounce
      · simp [due, State.setZone, State.raise, State.hand, State.setHanded]
      · simp [due, State.setZone]

/-- A sample that does not complete its window is summed. -/
theorem takeSample_waits {c : Chan} {sample : Nat} {s : State}
    (early : (s.filters.get c).count + 1 < s.averagingOf c) :
    takeSample c sample s =
      { s with
        filters :=
          s.filters.upd c
            { s.filters.get c with
              sum := (s.filters.get c).sum + sample, count := (s.filters.get c).count + 1 } } :=
  if_neg (Nat.not_le.mpr early)

theorem takeSample_updates {c : Chan} {sample : Nat} {s : State}
    (full : s.averagingOf c ≤ (s.filters.get c).count + 1) :
    takeSample c sample s =
      let fb := ((s.filters.get c).sum + sample) / s.averagingOf c
      handUpdate c fb { s with filters := s.filters.upd c ⟨0, 0, fb, 0, false⟩ } :=
  if_pos full

theorem handUpdate_zone (c : ZoneCh) (fb : Nat) (s : State) :
    handUpdate (chanOfZone c) fb s = overpressureUpdate c fb s := dif_pos c.isLt

theorem handUpdate_cond {c : Chan} (high : 28 ≤ c.val) (fb : Nat) (s : State) :
    handUpdate c fb s =
      { s with
        handed :=
          s.handed ++
            (if c.val < 31 then [.positionUpdate ⟨(c.val - 28) % 3, by omega⟩ fb] else []) } := by
  rw [handUpdate, dif_neg (Nat.not_lt.mpr high)]
  by_cases position : c.val < 31
  · have same : (⟨c.val - 28, by omega⟩ : Platen) = ⟨(c.val - 28) % 3, by omega⟩ :=
      Fin.ext (by simp only; omega)
    rw [dif_pos position, if_pos position, same]
    rfl
  · rw [dif_neg position, if_neg position, List.append_nil]

/-- Settles O34: a complete window makes the mean the feedback and hands it on. -/
theorem gaugeWordOfAZone : Obligations.GaugeWordOfAZone := by
  refine ⟨?_, ?_⟩
  · intro w c reading parity s small stop bits odd t e f z sample fb updated n
    refine congrArg Host.Outcome.next ?_
    have good := checkWord_good (c := chanOfZone c) small stop bits odd
    have zone : (chanOfZone c).val < 28 := c.isLt
    have sampleIs : t.sampleOf (chanOfZone c) reading = sample := dif_pos zone
    have averaging : t.averagingOf (chanOfZone c) = e.averaging := dif_pos zone
    rw [arriveWord, good]
    change takeSample (chanOfZone c) (t.sampleOf (chanOfZone c) reading) t = _
    rw [sampleIs]
    split
    · next early => exact takeSample_waits (by rwa [averaging])
    · next late =>
      rw [takeSample_updates (by rw [averaging]; exact Nat.le_of_not_lt late), averaging,
        handUpdate_zone, overpressureUpdate_eq]
      rfl
  · intro w c reading parity s high small stop bits odd t fb
    refine congrArg Host.Outcome.next ?_
    have good := checkWord_good small stop bits odd
    have zone : ¬c.val < 28 := Nat.not_lt.mpr high
    have sampleIs : t.sampleOf c reading = min reading (if c.val < 31 then 4000 else 1000) := by
      rw [State.sampleOf, dif_neg zone]
      split <;> rfl
    have averaging : t.averagingOf c = 1 := dif_neg zone
    rw [arriveWord, good]
    change takeSample c (t.sampleOf c reading) t = _
    rw [takeSample_updates (by rw [averaging]; omega), averaging, Nat.div_one, sampleIs]
    exact handUpdate_cond high fb _

end Sys2Proof.Machine
end

section
/-! PROOFS. What a tick does to time, and what it leaves as it was. -/

namespace Sys2Proof.Machine

open Sys2Proof

/-! ### Line entries -/

/-- No line's entry has changed. -/
def SameLines (s t : State) : Prop := ∀ i, (t.lines.get i).config = (s.lines.get i).config

namespace SameLines

variable {s t u : State}

theorem of_lines (same : t.lines = s.lines) : SameLines s t := fun i => by rw [same]

theorem trans (first : SameLines s t) (second : SameLines t u) : SameLines s u :=
  fun i => (second i).trans (first i)

theorem set {p : Platen} {l : Line} {x : LineState} (same : x.config = (t.lineOf p l).config)
    (before : SameLines s t) : SameLines s (t.setLineOf p l x) := fun i => by
  rw [← before i]
  by_cases is : lineIx p l = i
  · subst is
    simp only [State.setLineOf, State.setLine_lines, Tab.get_upd_same]
    exact same
  · simp [State.setLineOf, Tab.get_upd_ne _ _ is]

theorem raise (k : EventKind) (src : Source) (a b : Word16) (before : SameLines s t) :
    SameLines s (t.raise k src a b) := before

theorem hand (c : Instr) (before : SameLines s t) : SameLines s (t.hand c) := before

theorem setOrders (p : Platen) (os : List Order) (before : SameLines s t) :
    SameLines s (t.setOrders p os) := before

theorem next (second : SameLines t u) (first : SameLines s t) : SameLines s u := first.trans second

theorem refl (s : State) : SameLines s s := fun _ => rfl

theorem foldl {α : Type} {f : State → α → State} (each : ∀ s a, SameLines s (f s a)) (l : List α)
    (s : State) : SameLines s (l.foldl f s) :=
  foldl_keeps (fun _ _ before => before.trans (each _ _)) l (.of_lines rfl)

end SameLines

section
variable (p : Platen) (l : Line) (s : State)

theorem reportEnd_sameLines (st : EndStatus) (o : Order) : SameLines s (reportEnd p st s o) := by
  unfold reportEnd
  dsimp only
  split
  · exact .raise _ _ _ _ (.set rfl (.refl s))
  · exact .raise _ _ _ _ (.refl s)

theorem endFirst_sameLines (which : Order → Bool) (st : EndStatus) :
    SameLines s (endFirst p which st s) := by
  unfold endFirst
  dsimp only
  split
  · exact .refl s
  · exact (reportEnd_sameLines p _ st _).next (.setOrders p _ (.refl s))

theorem flowFault_sameLines : SameLines s (flowFault p l s) := by
  have ended := endFirst_sameLines p s (activeOn l) .flowFault
  unfold flowFault
  dsimp only
  split
  · exact .set rfl (.hand _ (.raise _ _ _ _ ended))
  · exact .set rfl (.raise _ _ _ _ ended)

theorem closeWindow_sameLines : SameLines s (closeWindow p l s) := by
  unfold closeWindow
  dsimp only
  (repeat' split)
  · exact .refl s
  · exact .set rfl (.refl s)
  · exact (flowFault_sameLines p l _).next (.set rfl (.refl s))
  · exact .set rfl (.refl s)

theorem openWindow_sameLines : SameLines s (openWindow p l s) := .set rfl (.refl s)

theorem countStroke_sameLines (o : Order) : SameLines s (countStroke p l o s) := by
  unfold countStroke
  dsimp only
  split
  · exact .set rfl (.setOrders p _ (.refl s))
  · exact .hand _ (.set rfl (.setOrders p _ (.refl s)))

theorem issueStroke_sameLines : SameLines s (issueStroke p l s) := by
  have pumped : SameLines s { s with pumpOut := s.pumpOut ++ [lineIx p l] } := .refl s
  have struck : SameLines s (State.setLineOf { s with pumpOut := s.pumpOut ++ [lineIx p l] } p l
      { s.lineOf p l with elapsed := 0 }) := .set rfl pumped
  unfold issueStroke
  dsimp only
  (repeat' split)
  · exact .refl s
  · exact .refl s
  · exact ((struck.trans (countStroke_sameLines p l _ _)).trans (closeWindow_sameLines p l _)).trans
      (openWindow_sameLines p l _)
  · exact (((struck.trans (closeWindow_sameLines p l _)).trans (openWindow_sameLines p l _)).trans
      (countStroke_sameLines p l _ _)).trans (endFirst_sameLines p _ _ _)
  · exact ((struck.trans (closeWindow_sameLines p l _)).trans (openWindow_sameLines p l _)).trans
      (countStroke_sameLines p l _ _)

theorem judgeLine_sameLines (fuel : Nat) : SameLines s (judgeLine p l fuel s) := by
  induction fuel generalizing s with
  | zero => exact .of_lines rfl
  | succ fuel ih =>
    have ends (st : EndStatus) :
        SameLines s (judgeLine p l fuel (endFirst p (queuedOn l) st s)) :=
      (endFirst_sameLines p s _ _).trans (ih _)
    unfold judgeLine
    dsimp only
    (repeat' split)
    · exact .of_lines rfl
    · exact .of_lines rfl
    · exact ends _
    · exact ends _
    · exact ends _
    · exact (ih _).next ((issueStroke_sameLines p l _).next (.setOrders p _ (.refl s)))
    · exact .of_lines rfl

theorem judgeIfEnded_sameLines (n : Nat) : SameLines s (judgeIfEnded p n s) := by
  unfold judgeIfEnded judgeOrders
  split
  · exact .foldl (fun u l => judgeLine_sameLines p l u _) _ s
  · exact .of_lines rfl

theorem tickLine_sameLines : SameLines s (tickLine p s l) := by
  have windowed (u : State) : SameLines u (tickWindow p l u) := by
    unfold tickWindow
    dsimp only
    (repeat' split)
    · exact .of_lines rfl
    · exact closeWindow_sameLines p l u
    · exact .set rfl (.refl u)
  have bursts (u : State) : SameLines u (burstStroke p l u) := by
    unfold burstStroke
    (repeat' split)
    · exact .of_lines rfl
    · exact issueStroke_sameLines p l u
    · exact .of_lines rfl
  have owes (u : State) : SameLines u (owedStroke p l u) := by
    unfold owedStroke
    dsimp only
    split
    · exact (issueStroke_sameLines p l _).next (.set rfl (.refl u))
    · exact .of_lines rfl
  exact (owes _).next ((bursts _).next ((windowed _).next (.set rfl (.refl s))))

theorem tickDispense_sameLines : SameLines s (tickDispense s p) :=
  (SameLines.foldl (fun u l => tickLine_sameLines p l u) _ s).trans (judgeIfEnded_sameLines p _ _)

end

/-! ### Park settings -/

/-- The park settings of a conditioner (R116). -/
def Conditioner.parks (c : Conditioner) : Nat × Nat × Nat := (c.parkPosition, c.parkBand, c.parkTimeout)

/-- No conditioner's park settings have changed. -/
def SameParks (s t : State) : Prop := ∀ p, (t.conds.get p).parks = (s.conds.get p).parks

namespace SameParks

variable {s t u : State}

theorem refl (s : State) : SameParks s s := fun _ => rfl

theorem of_conds (same : t.conds = s.conds) : SameParks s t := fun p => by rw [same]

theorem next (second : SameParks t u) (first : SameParks s t) : SameParks s u :=
  fun p => (second p).trans (first p)

theorem set {p : Platen} {c : Conditioner} (same : c.parks = (t.conds.get p).parks)
    (before : SameParks s t) : SameParks s (t.setCond p c) := fun q => by
  rw [← before q]
  by_cases is : p = q
  · subst is
    simpa using same
  · simp [Tab.get_upd_ne _ _ is]

theorem drive {p : Platen} {c : Conditioner} (same : c.parks = (t.conds.get p).parks)
    (before : SameParks s t) : SameParks s (t.driveCond p c) := fun q => by
  rw [← set same before q]
  simp [State.driveCond]

theorem raise (k : EventKind) (src : Source) (a b : Word16) (before : SameParks s t) :
    SameParks s (t.raise k src a b) := before

theorem hand (c : Instr) (before : SameParks s t) : SameParks s (t.hand c) := before

end SameParks

theorem startSegment_sameParks (p : Platen) (k : Fin 8) (seg : Nat) (s : State) :
    SameParks s (startSegment p k seg s) := .hand _ (.drive rfl (.refl s))

theorem enterParking_sameParks (p : Platen) (override : Bool) (s : State) :
    SameParks s (enterParking p override s) := .drive rfl (.refl s)

theorem enterFaulted_sameParks (p : Platen) (cause : CondFaultCause) (d : Nat) (s : State) :
    SameParks s (enterFaulted p cause d s) := .raise _ _ _ _ (.drive rfl (.refl s))

theorem endSegment_sameParks (p : Platen) (s : State) : SameParks s (endSegment p s) := by
  unfold endSegment
  dsimp only
  (repeat' split)
  · exact (startSegment_sameParks _ _ _ _).next (.set rfl (.refl s))
  · exact enterParking_sameParks _ _ _
  · exact startSegment_sameParks _ _ _ _
  · exact (startSegment_sameParks _ _ _ _).next (.set rfl (.refl s))
  · exact (enterParking_sameParks _ _ _).next (.set rfl (.refl s))

theorem tickCond_sameParks (s : State) (p : Platen) : SameParks s (tickCond s p) := by
  unfold tickCond dwellEndAt reachTimeoutAt parkTimeoutAt
  dsimp only
  (repeat' split)
  · exact .set rfl (.refl s)
  · exact endSegment_sameParks _ _
  · exact .refl s
  · exact (enterFaulted_sameParks _ _ _ _).next (.set rfl (.refl s))
  · exact .refl s
  · exact .set rfl (.refl s)
  · exact (enterFaulted_sameParks _ _ _ _).next (.set rfl (.refl s))
  all_goals exact .refl s

/-! ### Idle settings -/

/-- The settings of an idle timer (R88). -/
def IdleTimer.settings (t : IdleTimer) : Nat × Line × Nat := (t.interval, t.line, t.count)

/-- No idle timer's settings have changed. -/
def SameIdle (s t : State) : Prop := ∀ p, (t.idle.get p).settings = (s.idle.get p).settings

namespace SameIdle

variable {s t u : State}

theorem refl (s : State) : SameIdle s s := fun _ => rfl

theorem of_idle (same : t.idle = s.idle) : SameIdle s t := fun p => by rw [same]

theorem next (second : SameIdle t u) (first : SameIdle s t) : SameIdle s u :=
  fun p => (second p).trans (first p)

theorem set {p : Platen} {x : IdleTimer} (same : x.settings = (t.idle.get p).settings)
    (before : SameIdle s t) : SameIdle s (t.setIdle p x) := fun q => by
  rw [← before q]
  by_cases is : p = q
  · subst is
    simpa using same
  · simp [Tab.get_upd_ne _ _ is]

end SameIdle

theorem reloadIdle_sameIdle (p : Platen) (s : State) : SameIdle s (reloadIdle p s) :=
  .set rfl (.refl s)

theorem expireIdle_sameIdle (p : Platen) (s : State) : SameIdle s (expireIdle p s) := by
  unfold expireIdle
  dsimp only
  exact (reloadIdle_sameIdle p _).next (.of_idle (by split <;> rfl))

theorem tickIdle_sameIdle (s : State) (p : Platen) : SameIdle s (tickIdle s p) := by
  unfold tickIdle
  dsimp only
  (repeat' split)
  · exact .refl s
  · exact .set rfl (.refl s)
  · exact (expireIdle_sameIdle p _).next (.set rfl (.refl s))
  · exact .set rfl (.refl s)

/-! ### The settings of the Cadence Monitor and the Table Verifier -/

/-- The cadence settings (R160). -/
def Cadence.settings (c : Cadence) : Nat × Nat × Nat × Nat := (c.period, c.early, c.late, c.limit)

theorem cadenceViolation_settings (v : Violation) (s : State) :
    (cadenceViolation v s).cadence.settings = s.cadence.settings := by
  unfold cadenceViolation
  dsimp only
  (repeat' split) <;> rfl

/-- Late expiries on the way change no setting, and the count comes to the end of the span. -/
theorem passExpiries_time (fuel span : Nat) (s : State) :
    (passExpiries fuel span s).cadence.settings = s.cadence.settings ∧
      (passExpiries fuel span s).us = s.us + BitVec.ofNat 32 span := by
  induction fuel generalizing span s with
  | zero => exact ⟨rfl, rfl⟩
  | succ fuel ih =>
    rw [passExpiries]
    dsimp only
    split
    · exact ⟨rfl, rfl⟩
    next e _ =>
    split
    · next within =>
      obtain ⟨settings, us⟩ := ih (span - s.untilCount e) (lateExpiry e { s with us := e })
      have count : (lateExpiry e { s with us := e }).us = e := by simp
      refine ⟨settings.trans (cadenceViolation_settings _ _), ?_⟩
      rw [us, count]
      have apart : BitVec.ofNat 32 (s.untilCount e) = e - s.us := by
        rw [State.untilCount, BitVec.ofNat_toNat, BitVec.setWidth_eq]
      have sum : BitVec.ofNat 32 span = (e - s.us) + BitVec.ofNat 32 (span - s.untilCount e) := by
        rw [← apart, ← BitVec.ofNat_add, Nat.add_sub_cancel' within.le]
      rw [sum]
      ring
    · exact ⟨rfl, rfl⟩

theorem setGroup_vbr (g : Group) (r : GroupRecord) (s : State) :
    (s.setGroup g r).verifier.vbr = s.verifier.vbr := by cases g <;> rfl

theorem tickGroup_vbr (s : State) (g : Group) : (tickGroup s g).verifier.vbr = s.verifier.vbr := by
  have fails (crc : BitVec 16) : (failGroup g crc s).verifier.vbr = s.verifier.vbr :=
    setGroup_vbr g _ s
  have completes : (completeAt g s).verifier.vbr = s.verifier.vbr := by
    unfold completeAt completeScan completeRescan
    dsimp only
    (repeat' split)
    · exact setGroup_vbr g _ s
    · exact fails _
    · exact setGroup_vbr g _ s
    · exact fails _
    all_goals rfl
  unfold tickGroup
  dsimp only
  (repeat' split)
  · rfl
  · exact setGroup_vbr g _ s
  · exact completes

/-! ### Settling O30 -/

/-- What no block changes as it takes the tick. -/
structure TickKeeps (s t : State) : Prop where
  lines : SameLines s t
  parks : SameParks s t
  idle : SameIdle s t
  vbr : t.verifier.vbr = s.verifier.vbr

theorem tickBlocks_keeps (s : State) : TickKeeps s (tickBlocks s) where
  lines := tickBlocks_induction (L := SameLines s) (.of_lines (by simp))
    (fun _ _ before => before.trans (.of_lines (by simp)))
    (fun _ _ before => before.trans (.of_lines (by simp)))
    (fun u p before => before.trans (tickDispense_sameLines p u))
    (fun _ _ before => before.trans (.of_lines (by simp)))
    (fun _ _ before => before.trans (.of_lines (by simp)))
    (fun _ before => before.trans (.of_lines (by simp)))
    (fun _ _ before => before.trans (.of_lines (by simp)))
    (fun _ _ before => before.trans (.of_lines (by simp)))
  parks := tickBlocks_induction (L := SameParks s) (.of_conds (by simp))
    (fun _ _ => .next (.of_conds (by simp))) (fun _ _ => .next (.of_conds (by simp)))
    (fun _ _ => .next (.of_conds (by simp))) (fun u p => .next (tickCond_sameParks u p))
    (fun _ _ => .next (.of_conds (by simp))) (fun _ => .next (.of_conds (by simp)))
    (fun _ _ => .next (.of_conds (by simp))) (fun _ _ => .next (.of_conds (by simp)))
  idle := tickBlocks_induction (L := SameIdle s) (.of_idle (by simp))
    (fun _ _ => .next (.of_idle (by simp))) (fun _ _ => .next (.of_idle (by simp)))
    (fun _ _ => .next (.of_idle (by simp))) (fun _ _ => .next (.of_idle (by simp)))
    (fun u p => .next (tickIdle_sameIdle u p)) (fun _ => .next (.of_idle (by simp)))
    (fun _ _ => .next (.of_idle (by simp))) (fun _ _ => .next (.of_idle (by simp)))
  vbr := tickBlocks_induction (L := fun t => t.verifier.vbr = s.verifier.vbr) (by simp)
    (fun _ _ before => by simpa using before) (fun _ _ before => by simpa using before)
    (fun _ _ before => by simpa using before) (fun _ _ before => by simpa using before)
    (fun _ _ before => by simpa using before) (fun _ before => by simpa using before)
    (fun _ _ before => by simpa using before)
    (fun u g before => (tickGroup_vbr u g).trans before)

theorem tickBlocks_us (s : State) :
    (tickBlocks s).us = s.us + BitVec.ofNat 32 (1000 - s.phase) := by
  rw [← (passExpiries_time (1000 - s.phase + 1) (1000 - s.phase) s).2]
  simp [tickBlocks, tickField, foldl_leaves State.us, advanceTime]

theorem tickBlocks_cadence_settings (s : State) :
    (tickBlocks s).cadence.settings = s.cadence.settings := by
  rw [tickBlocks_cadence]
  exact (passExpiries_time _ _ s).1

/-- A tick goes on just where the count and the waiting hand-overs let no period end. -/
theorem tickGoesOn_iff {s : State} (mark : s.ring.transparent = true) :
    tickGoesOn s ↔ ¬(5 ≤ (tickBlocks (s.takeUp .tick)).countReset.ring.resetTicks ∧
      (tickBlocks (s.takeUp .tick)).countReset.resetAwaits = false) := by
  rw [tickGoesOn, Bool.eq_false_iff, ne_eq, State.resetAwaits_iff]
  simp only [mark, true_implies, State.countReset, State.setRing_ring, State.setRing_awaiting,
    tickBlocks_ring, tickBlocks_awaiting, State.takeUp_ring, not_and_not_right]
  rw [imp_iff_not_or]
  refine or_congr_left ?_
  omega

theorem tickTransparent_counts {s : State} (mark : s.ring.transparent = true)
    (goes : ¬(5 ≤ s.countReset.ring.resetTicks ∧ s.countReset.resetAwaits = false)) :
    tickTransparent s = s.countReset :=
  (if_neg (by simp [mark])).trans (if_neg goes)

/-- The count of a transparent period's ticks at a tick that does not end it. -/
theorem after_tick_ring {s : State} (goesOn : tickGoesOn s) :
    (s.after .tick).ring =
      if s.ring.transparent = true then
        { s.ring with resetTicks := min (s.ring.resetTicks + 1) 5 }
      else s.ring := by
  rw [after_tick, takeTick_eq]
  by_cases mark : s.ring.transparent = true
  · rw [tickTransparent_counts (by simpa using mark) ((tickGoesOn_iff mark).mp goesOn), if_pos mark]
    simp [State.countReset]
  · have clear : (tickBlocks (s.takeUp .tick)).ring.transparent = false := by simpa using mark
    rw [show tickTransparent _ = _ from if_pos clear, if_neg mark]
    simp

/-- A tick on which the transparent period ends. -/
theorem after_tick_ends {s : State} (ends : ¬tickGoesOn s) :
    s.after .tick = (endTransparent (tickBlocks (s.takeUp .tick)).countReset).kickPort := by
  have mark : s.ring.transparent = true := by
    by_contra clear
    exact ends fun is => absurd is clear
  have due := not_not.mp (mt (tickGoesOn_iff mark).mpr ends)
  rw [after_tick, takeTick_eq]
  exact congrArg State.kickPort ((if_neg (by simp [mark])).trans (if_pos due))

theorem tickBlocks_phase (s : State) : (tickBlocks s).phase = 0 := by
  simp [tickBlocks, tickField, foldl_leaves State.phase]

theorem safeTicked_of_ne {p : HeadRecord × (Zone → ZoneChannel)} (running : p.1.state ≠ .safeHold) :
    safeTicked p = p :=
  if_neg running

/-- A move toward the safe value leaves the zone's entry. -/
theorem safeTicked_config (p : HeadRecord × (Zone → ZoneChannel)) (z : Zone) :
    ((safeTicked p).2 z).config = (p.2 z).config := by
  unfold safeTicked
  split <;> rfl

theorem ticked_pin (u : InputUnit) : u.ticked.config = u.config ∧ u.ticked.raw = u.raw := by
  unfold InputUnit.ticked
  dsimp only
  (repeat' split) <;> exact ⟨rfl, rfl⟩

/-- Settles O30: by whether the tick ends a transparent period. -/
theorem tickMovesTime : Obligations.TickMovesTime := by
  refine fun s => ⟨fun goesOn => ⟨_, exec_tick s, ?_⟩, fun ends => ⟨_, exec_tick s, ?_⟩⟩
  · obtain ⟨lines, parks, idle, vbr⟩ := tickBlocks_keeps (s.takeUp .tick)
    have settings := tickBlocks_cadence_settings (s.takeUp .tick)
    obtain ⟨period, early, late, limit⟩ : _ ∧ _ ∧ _ ∧ _ := by
      simpa [Cadence.settings] using settings
    have part {β : Type} (f : State → β) (count : ∀ u, f (State.countReset u) = f u)
        (port : ∀ u, f (State.kickPort u) = f u) := after_tick_part goesOn f count port
    have same {β : Type} (f : State → β) (count : ∀ u, f (State.countReset u) = f u)
        (port : ∀ u, f (State.kickPort u) = f u)
        (blocks : f (tickBlocks (s.takeUp .tick)) = f s) : f (s.after .tick) = f s :=
      (part f count port).trans blocks
    rw [part State.lines (fun _ => rfl) (by simp), part State.conds (fun _ => rfl) (by simp),
      part State.idle (fun _ => rfl) (by simp), part State.cadence (fun _ => rfl) (by simp),
      part State.verifier (fun _ => rfl) (by simp)]
    refine ⟨?_, ?_, same State.pending (fun _ => rfl) (by simp) (by simp),
      same State.map (fun _ => rfl) (by simp) (by simp),
      same State.store (fun _ => rfl) (by simp) (by simp),
      same State.docks (fun _ => rfl) (by simp) (by simp),
      same State.profiles (fun _ => rfl) (by simp) (by simp),
      same State.segments (fun _ => rfl) (by simp) (by simp),
      same State.events (fun _ => rfl) (by simp) (by simp),
      same State.portB (fun _ => rfl) (by simp) (by simp), after_tick_ring goesOn, fun i => ?_,
      lines, fun i => ?_, fun p => ?_, period, early, late, limit, vbr, fun h running => ?_⟩
    · rw [part State.us (fun _ => rfl) (by simp), tickBlocks_us]
      rfl
    · rw [part State.phase (fun _ => rfl) (by simp), tickBlocks_phase]
    · obtain ⟨z, is⟩ := zoneCh_of_head (c := i) rfl
      have ticked := takeTick_headPart goesOn (headOfZone i)
      have entry := congrArg (fun p => (p.2 z).config) ticked
      rw [safeTicked_config] at entry
      refine ⟨is ▸ entry, fun running => ?_⟩
      rw [safeTicked_of_ne running] at ticked
      exact is ▸ congrArg (fun p => p.2 z) ticked
    · rw [after_tick_inputs goesOn]
      exact ticked_pin _
    · obtain ⟨interval, line, count⟩ : _ ∧ _ ∧ _ := by simpa [IdleTimer.settings] using idle p
      obtain ⟨position, band, timeout⟩ : _ ∧ _ ∧ _ := by simpa [Conditioner.parks] using parks p
      exact ⟨interval, line, count, position, band, timeout⟩
    · exact (Prod.mk.inj ((takeTick_headPart goesOn h).trans (safeTicked_of_ne running))).1
  · rw [after_tick_ends ends]
    refine ⟨?_, ?_, ?_, ?_, ?_⟩
    · simp [endTransparent, tickBlocks_us, State.countReset]
    · simp [endTransparent, State.countReset]
    · simp [endTransparent_ring, Ring.afterManagementReset, Ring.emptied, State.countReset]
    · simp [endTransparent_heads]
    · simp [endTransparent_awaiting]

end Sys2Proof.Machine
end

section
/-! PROOFS. Dock commands and the idle timers. -/

namespace Sys2Proof.Machine

open Sys2Proof

/-! ### Dock commands -/

/-- Emptying the entries that hold a head changes the docks alone. -/
theorem undock_eq (h : Head) (s : State) :
    undock h s = { s with docks := Tab.ofFn fun q => (s.docks.get q).without h } := by
  have step (t : State) (p : Platen) (before : ∃ d : Tab 3 DockEntry, t = { s with docks := d }) :
      ∃ d : Tab 3 DockEntry, undockAt h t p = { s with docks := d } := by
    obtain ⟨d, is⟩ := before
    unfold undockAt
    split
    · exact ⟨_, by rw [is]; rfl⟩
    · exact ⟨d, is⟩
  have alone : ∃ d : Tab 3 DockEntry, undock h s = { s with docks := d } := by
    unfold undock
    exact foldl_keeps (L := fun t => ∃ d : Tab 3 DockEntry, t = { s with docks := d }) step _
      ⟨s.docks, rfl⟩
  obtain ⟨d, is⟩ := alone
  rw [is]
  congr 1
  refine Tab.ext_get fun q => ?_
  rw [Tab.get_ofFn, ← undock_docks, is]

section
variable {p : Platen} {x : Octet} {seq : Word16} {s : State} {o : DockOutcome} {d : Tab 3 DockEntry}

/-- The dock sequence of platen `p` learned. -/
def State.learnDock (s : State) (p : Platen) (seq : Word16) : State :=
  s.setMap { s.map with learnedDock := s.map.learnedDock.upd p (some seq) }

theorem newDock_answered (applied : applyDock p x (s.learnDock p seq) =
      ({ s.learnDock p seq with docks := d }, o)) :
    newDock p x seq s = dockAnswered p x seq o d s := by
  unfold newDock
  dsimp only
  rw [show s.setMap { s.map with learnedDock := s.map.learnedDock.upd p (some seq) } =
    s.learnDock p seq from rfl, applied]
  unfold dockAnswered
  simp only [DockOutcome.isRefusal, decide_eq_true_eq]
  rfl

theorem newDock_unknown (named : x ≠ 0xFF#8) (past : 4 ≤ x.toNat) :
    newDock p x seq s = dockAnswered p x seq .badCommand s.docks s :=
  newDock_answered (by
    unfold applyDock
    rw [dockNoneCode, if_neg named, dif_neg (by omega)]
    rfl)

/-- The docks with head `h` at platen `p` alone. -/
def dockedAt (p : Platen) (h : Head) (d : Tab 3 DockEntry) : Tab 3 DockEntry :=
  Tab.ofFn fun q =>
    if q = p then { d.get q with docked := some h }
    else if (d.get q).docked = some h then { d.get q with docked := none }
    else d.get q

theorem dockHead_eq (p : Platen) (h : Head) (s : State) :
    dockHead p h s =
      if (s.docks.get p).docked = some h then (s, .same)
      else if (s.docks.get p).docked ≠ none then (s, .platenTaken)
      else if (s.heads.get h).state = .running ∨ (s.heads.get h).state = .paused then (s, .headBusy)
      else ({ s with docks := dockedAt p h s.docks }, .accepted) := by
  unfold dockHead
  simp only [isActive_iff]
  refine if_congr Iff.rfl rfl (if_ctx_congr Iff.rfl (fun _ => rfl) fun free => if_congr Iff.rfl rfl ?_)
  rw [undock_eq]
  refine congrArg (fun d => ({ s with docks := d }, DockOutcome.accepted)) (Tab.ext_get fun q => ?_)
  by_cases is : p = q
  · subst is
    simp [dockedAt, DockEntry.without, not_not.mp free]
  · simp [dockedAt, Tab.get_upd_ne _ _ is, Ne.symm is, DockEntry.without]

theorem newDock_head (named : x ≠ 0xFF#8) {h : Head} (code : x.toNat = h.val) :
    newDock p x seq s =
      if (s.docks.get p).docked = some h then dockAnswered p x seq .same s.docks s
      else if (s.docks.get p).docked ≠ none then dockAnswered p x seq .platenTaken s.docks s
      else if (s.heads.get h).state = .running ∨ (s.heads.get h).state = .paused then
        dockAnswered p x seq .headBusy s.docks s
      else dockAnswered p x seq .accepted (dockedAt p h s.docks) s := by
  have applies : applyDock p x (s.learnDock p seq) = dockHead p h (s.learnDock p seq) := by
    unfold applyDock
    rw [dockNoneCode, if_neg named, dif_pos (by omega)]
    congr 1
    exact Fin.ext code
  rw [dockHead_eq] at applies
  split_ifs with same taken busy
  · exact newDock_answered (applies.trans (if_pos same))
  · exact newDock_answered (applies.trans ((if_neg same).trans (if_pos taken)))
  · exact newDock_answered (applies.trans ((if_neg same).trans ((if_neg taken).trans (if_pos busy))))
  · exact newDock_answered (applies.trans ((if_neg same).trans ((if_neg taken).trans (if_neg busy))))

theorem newDock_none (p : Platen) (seq : Word16) (s : State) :
    newDock p 0xFF#8 seq s =
      match (s.docks.get p).docked with
      | none => dockAnswered p 0xFF#8 seq .same s.docks s
      | some h =>
        if (s.heads.get h).state = .running ∨ (s.heads.get h).state = .paused then
          dockAnswered p 0xFF#8 seq .headBusy s.docks s
        else
          dockAnswered p 0xFF#8 seq .accepted
            (s.docks.upd p { s.docks.get p with docked := none }) s := by
  have applies : applyDock p 0xFF#8 (s.learnDock p seq) = dockNone p (s.learnDock p seq) := if_pos rfl
  have learned : ((s.learnDock p seq).docks.get p).docked = (s.docks.get p).docked := rfl
  unfold dockNone at applies
  cases docked : (s.docks.get p).docked with
  | none => exact newDock_answered (by rw [applies, learned, docked]; rfl)
  | some h =>
    rw [learned, docked] at applies
    simp only [isActive_iff] at applies
    dsimp only
    split_ifs with busy
    · exact newDock_answered (applies.trans (if_pos busy))
    · exact newDock_answered (applies.trans (if_neg busy))

end

/-- Settles O35: a command's checks in their order, then what a delivery makes of its sequence. -/
theorem dockCommandsAreJudged : Obligations.DockCommandsAreJudged := by
  refine ⟨?_, ?_, ?_⟩
  · intro p x seq s named t
    exact ⟨fun past => congrArg Host.Outcome.next (newDock_unknown (s := t) named past),
      fun h code => congrArg Host.Outcome.next (newDock_head (s := t) named code)⟩
  · exact fun p seq s => congrArg Host.Outcome.next (newDock_none p seq (s.takeUp _))
  · intro p v s t
    have runs : exec (.dockDelivery p v) s = .next (deliverDock p v t) := rfl
    have learned : t.map.learnedDock.get p = s.map.learnedDock.get p := rfl
    refine ⟨fun first => ?_, fun seen => ?_, fun q is differs _ _ => ?_⟩
    · rw [runs, deliverDock, learned, first]
      rfl
    · rw [runs, deliverDock, learned, seen]
      exact congrArg Host.Outcome.next (if_pos rfl)
    · have new : deliverDock p v t = newDock p v.code v.seq t := by
        rw [deliverDock, learned, is]
        exact if_neg (Ne.symm differs)
      rw [runs, new]
      split_ifs with none
      · rw [none]
        exact congrArg (fun u => Host.Outcome.next (newDock p 0xFF#8 v.seq u))
          (takeUp_of_not_mem (by assumption)).symm
      · exact congrArg (fun u => Host.Outcome.next (newDock p v.code v.seq u))
          (takeUp_of_not_mem (by assumption)).symm

/-! ### The blocks that take a tick, in their order -/

/-- The state after the heads and the filters have taken a tick. -/
def State.filtersTicked (s : State) : State :=
  (List.finRange 34).foldl tickFilter ((List.finRange 4).foldl tickHead
    { advanceTime (1000 - s.phase) s with phase := 0 })

theorem tickBlocks_eq (s : State) :
    tickBlocks s =
      tickVerifier ((List.finRange 16).foldl tickInput (tickPort
        ((List.finRange 3).foldl tickIdle ((List.finRange 3).foldl tickCond
          ((List.finRange 3).foldl tickDispense s.filtersTicked))))) := rfl

/-! ### Idle timers -/

/-- The timer with its whole interval to run. -/
def IdleTimer.reloaded (x : IdleTimer) : IdleTimer := { x with seconds := x.interval, millis := 0 }

/-- What an idle timer is after a tick (R87). -/
def IdleTimer.ticked (x : IdleTimer) : IdleTimer :=
  if x.interval = 0 then x
  else if x.millis + 1 < 1000 then { x with millis := x.millis + 1 }
  else if x.seconds ≤ 1 then x.reloaded
  else { x with seconds := x.seconds - 1, millis := 0 }

theorem platenUnused_iff (p : Platen) (s : State) :
    platenUnused p s = true ↔
      ∀ h, (s.docks.get p).docked = some h → (s.heads.get h).state ≠ .running := by
  unfold platenUnused
  cases (s.docks.get p).docked <;> simp

/-- What an expiry of a timer hands. -/
def idleExpiryHands (p : Platen) (s : State) : List Instr :=
  [.eventRaise .idleWet (.platen p) (w16 (s.idle.get p).line.val) (w16 (s.idle.get p).count),
    .orderOffer p ⟨.idleWet, (s.idle.get p).line, (s.idle.get p).count, .burst⟩] ++
  (if (s.conds.get p).state = .sweeping ∧
      ∀ h, (s.docks.get p).docked = some h → (s.heads.get h).state ≠ .running then
    [.parkRequest p] else [])

theorem expireIdle_eq (p : Platen) (s : State) :
    expireIdle p s =
      { s with
        idle := s.idle.upd p (s.idle.get p).reloaded
        handed := s.handed ++ idleExpiryHands p s } := by
  unfold expireIdle idleExpiryHands
  by_cases asks : (s.conds.get p).state = .sweeping ∧
      ∀ h, (s.docks.get p).docked = some h → (s.heads.get h).state ≠ .running
  · rw [if_pos asks]
    rw [← platenUnused_iff] at asks
    refine (congrArg (reloadIdle p) (if_pos asks)).trans ?_
    simp [reloadIdle, IdleTimer.reloaded, State.setIdle, State.hand, State.raise, State.setHanded]
  · rw [if_neg asks]
    rw [← platenUnused_iff] at asks
    refine (congrArg (reloadIdle p) (if_neg asks)).trans ?_
    simp [reloadIdle, IdleTimer.reloaded, State.setIdle, State.hand, State.raise, State.setHanded]

theorem tickIdle_expires {p : Platen} {s : State} (set : (s.idle.get p).interval ≠ 0)
    (second : 1000 ≤ (s.idle.get p).millis + 1) (last : (s.idle.get p).seconds ≤ 1) :
    .eventRaise .idleWet (.platen p) (w16 (s.idle.get p).line.val) (w16 (s.idle.get p).count) ∈
        (tickIdle s p).handed ∧
      .orderOffer p ⟨.idleWet, (s.idle.get p).line, (s.idle.get p).count, .burst⟩ ∈
        (tickIdle s p).handed := by
  unfold tickIdle
  simp only [if_neg set, if_neg (not_lt.mpr second), if_pos last, expireIdle_eq, idleExpiryHands]
  simp

theorem tickIdle_idle_same (s : State) (p : Platen) :
    (tickIdle s p).idle.get p = (s.idle.get p).ticked := by
  unfold tickIdle IdleTimer.ticked
  dsimp only
  (repeat' split)
  · rfl
  · simp
  · simp [expireIdle_eq, IdleTimer.reloaded]
  · simp

theorem tickIdle_idle_ne {p q : Platen} (ne : q ≠ p) (s : State) :
    (tickIdle s q).idle.get p = s.idle.get p := by
  unfold tickIdle
  dsimp only
  (repeat' split)
  · rfl
  · simp [Tab.get_upd_ne _ _ ne]
  · simp [expireIdle_eq, Tab.get_upd_ne _ _ ne]
  · simp [Tab.get_upd_ne _ _ ne]

theorem tickBlocks_idle (s : State) (p : Platen) :
    (tickBlocks s).idle.get p = (s.idle.get p).ticked := by
  have run := foldl_acts_once (fun u : State => u.idle.get p) IdleTimer.ticked tickIdle p
    (fun u => tickIdle_idle_same u p) (fun u q ne => tickIdle_idle_ne ne u)
    (List.nodup_finRange 3) (List.mem_finRange p)
    ((List.finRange 3).foldl tickCond ((List.finRange 3).foldl tickDispense s.filtersTicked))
  rw [tickBlocks_eq]
  simpa [State.filtersTicked, foldl_leaves State.idle] using run

/-- What an expiry at a tick hands stays handed. -/
theorem tickBlocks_expires {p : Platen} {s : State} (set : (s.idle.get p).interval ≠ 0)
    (second : 1000 ≤ (s.idle.get p).millis + 1) (last : (s.idle.get p).seconds ≤ 1) :
    .eventRaise .idleWet (.platen p) (w16 (s.idle.get p).line.val) (w16 (s.idle.get p).count) ∈
        (tickBlocks s).handed ∧
      .orderOffer p ⟨.idleWet, (s.idle.get p).line, (s.idle.get p).count, .burst⟩ ∈
        (tickBlocks s).handed := by
  have before : ((List.finRange 3).foldl tickCond ((List.finRange 3).foldl tickDispense
      s.filtersTicked)).idle = s.idle := by
    simp [State.filtersTicked, foldl_leaves State.idle]
  rw [tickBlocks_eq]
  generalize (List.finRange 3).foldl tickCond ((List.finRange 3).foldl tickDispense
      s.filtersTicked) = u at before
  have hands {c : Instr} (made : ∀ v : State, v.idle.get p = u.idle.get p → c ∈ (tickIdle v p).handed) :=
    (tickInputs_hands _).mem (foldl_hands_once (fun v : State => v.idle.get p)
      (fun v q ne => tickIdle_idle_ne ne v) tickIdle_hands (List.nodup_finRange 3)
      (List.mem_finRange p) made)
  rw [before] at hands
  have fires (v : State) (same : v.idle.get p = s.idle.get p) := by
    rw [← same] at set second last
    have expires := tickIdle_expires set second last
    rw [same] at expires
    exact expires
  exact ⟨hands fun v same => (fires v same).1, hands fun v same => (fires v same).2⟩

/-- Settles O36: each row in turn; on a tick the fold over the timers acts once on each. -/
theorem idleTimers : Obligations.IdleTimers := by
  intro p s x
  refine ⟨rfl, fun v => ⟨?_, rfl⟩, fun l => rfl, ?_, fun goesOn => ⟨_, exec_tick s, ?_, ?_⟩⟩
  · refine congrArg Host.Outcome.next ?_
    simp [reloadIdle, State.setIdle, x]
  · refine congrArg Host.Outcome.next ?_
    extract_lets t unused
    by_cases off : (s.idle.get p).interval = 0
    · exact (if_pos off).trans (if_pos off).symm
    · refine (if_neg off).trans ((expireIdle_eq p t).trans (Eq.trans ?_ (if_neg off).symm))
      simp only [idleExpiryHands, IdleTimer.reloaded, List.append_assoc]
      rfl
  · exact (congrArg (Tab.get · p) (after_tick_part goesOn State.idle (fun _ => rfl) (by simp))).trans
      (tickBlocks_idle (s.takeUp .tick) p)
  · intro set second last
    rw [after_tick_handed goesOn]
    exact tickBlocks_expires set second last

end Sys2Proof.Machine
end

section
/-! PROOFS. What the operations of one dispense line do to it, to its orders and to what is handed. -/

namespace Sys2Proof.Machine

open Sys2Proof

/-! ### A line, its queue and what is handed -/

/-- The state with line `l` of platen `p` at `y`, the queue's orders `os`, and `hs` handed. -/
def State.onLine (s : State) (p : Platen) (l : Line) (y : LineState) (os : List Order)
    (hs : List Instr) : State :=
  { s with
    lines := s.lines.upd (lineIx p l) y
    queues := s.queues.upd p { s.queues.get p with orders := os }
    handed := s.handed ++ hs }

section
variable (s : State) (p : Platen) (l : Line) (y z : LineState) (os os' : List Order)
  (hs hs' : List Instr)

@[simp] theorem onLine_onLine :
    (s.onLine p l y os hs).onLine p l z os' hs' = s.onLine p l z os' (hs ++ hs') := by
  simp [State.onLine]

@[simp] theorem onLine_lineOf : (s.onLine p l y os hs).lineOf p l = y := by
  simp [State.onLine, State.lineOf]

@[simp] theorem onLine_orders : ((s.onLine p l y os hs).queues.get p).orders = os := by
  simp [State.onLine]

@[simp] theorem onLine_docks : (s.onLine p l y os hs).docks = s.docks := rfl

/-- A queue with the orders it has. -/
theorem queues_upd_same :
    s.queues.upd p { s.queues.get p with orders := (s.queues.get p).orders } = s.queues :=
  Tab.upd_get_same _ _

@[simp] theorem onLine_hand (c : Instr) :
    (s.onLine p l y os hs).hand c = s.onLine p l y os (hs ++ [c]) := by
  simp [State.onLine, State.hand, State.setHanded]

@[simp] theorem onLine_raise (k : EventKind) (src : Source) (a b : Word16) :
    (s.onLine p l y os hs).raise k src a b = s.onLine p l y os (hs ++ [.eventRaise k src a b]) :=
  onLine_hand s p l y os hs _

theorem onLine_same : s.onLine p l (s.lineOf p l) (s.queues.get p).orders [] = s := by
  simp [State.onLine, State.lineOf, queues_upd_same]

theorem setLineOf_eq :
    s.setLineOf p l y = s.onLine p l y (s.queues.get p).orders [] := by
  simp [State.onLine, State.setLineOf, State.setLine, queues_upd_same]

theorem setOrders_eq : s.setOrders p os = s.onLine p l (s.lineOf p l) os [] := by
  simp [State.onLine, State.lineOf, State.setOrders, State.setQueue]

theorem handAll_eq :
    s.handAll hs = s.onLine p l (s.lineOf p l) (s.queues.get p).orders hs := by
  simp [State.onLine, State.lineOf, State.handAll, State.setHanded, queues_upd_same]

end

/-- The ORDER_ENDED of an order (R96). -/
def orderEnded (p : Platen) (st : EndStatus) (o : Order) : Instr :=
  .eventRaise .orderEnded (.line (lineIx p o.line)) (detail o.ordinal.toNat (endStatusCode st))
    (w16 o.strokes)

/-! ### The orders of a line -/

/-- `o` is the first order of the queue that satisfies `which`, between `older` and `younger`. -/
structure FirstOf (which : Order → Bool) (os older : List Order) (o : Order) (younger : List Order) :
    Prop where
  is : which o = true
  split : os = older ++ o :: younger
  before : ∀ y ∈ older, which y = false

section
variable {which : Order → Bool} {os older younger : List Order} {o : Order}

theorem FirstOf.find (first : FirstOf which os older o younger) : os.find? which = some o := by
  rw [first.split]
  exact find_split which older younger o first.before first.is

theorem FirstOf.upd (first : FirstOf which os older o younger) (f : Order → Order) :
    updOrder which f os = older ++ f o :: younger := by
  rw [first.split]
  exact updOrder_split which f older younger o first.before first.is

theorem FirstOf.erase (first : FirstOf which os older o younger) :
    os.eraseP which = older ++ younger := by
  rw [first.split, List.eraseP_append_right _ (by simpa using first.before),
    List.eraseP_cons_of_pos first.is]

theorem FirstOf.exists_of_find (found : os.find? which = some o) :
    ∃ older younger, FirstOf which os older o younger := by
  obtain ⟨is, older, younger, split, before⟩ := List.find?_eq_some_iff_append.mp found
  exact ⟨older, younger, is, split, by simpa using before⟩

end

/-! ### The end of an order -/

section
variable {p : Platen} {l : Line} {s : State} {older younger : List Order} {o : Order}

/-- The end of the order that a line is running: nothing is owed any more (R96). -/
theorem endFirst_active (first : FirstOf (activeOn l) (s.queues.get p).orders older o younger)
    (st : EndStatus) :
    endFirst p (activeOn l) st s =
      s.onLine p l { s.lineOf p l with owed := false } (older ++ younger) [orderEnded p st o] := by
  obtain ⟨active, rfl⟩ := activeOn_eq_true.mp first.is
  unfold endFirst reportEnd
  simp only [first.find, first.erase, active, if_true]
  simp [State.onLine, State.lineOf, State.setLineOf, State.setLine, State.setOrders, State.setQueue,
    State.raise, State.hand, State.setHanded, orderEnded]

/-- The end of an order that waits: its line stays. -/
theorem endFirst_queued (first : FirstOf (queuedOn l) (s.queues.get p).orders older o younger)
    (st : EndStatus) :
    endFirst p (queuedOn l) st s =
      s.onLine p l (s.lineOf p l) (older ++ younger) [orderEnded p st o] := by
  obtain ⟨waits, rfl⟩ := queuedOn_eq_true.mp first.is
  unfold endFirst reportEnd
  simp only [first.find, first.erase, waits, Bool.false_eq_true, if_false]
  simp [State.onLine, State.lineOf, State.setOrders, State.setQueue,
    State.raise, State.hand, State.setHanded, orderEnded]

theorem endFirst_none {which : Order → Bool}
    (none : ∀ y ∈ (s.queues.get p).orders, which y = false) (st : EndStatus) :
    endFirst p which st s = s := by
  have found : (s.queues.get p).orders.find? which = .none :=
    List.find?_eq_none.mpr fun y mem => by simp [none y mem]
  simp only [endFirst, found]

/-! ### The flow window -/

/-- What a miss count at its limit raises and hands (R104). -/
def faultHands (p : Platen) (l : Line) (ordinal : Word16) (action : FlowAction)
    (docked : Option Head) : List Instr :=
  .eventRaise .flowFault (.line (lineIx p l)) ordinal (w16 (flowActionCode action)) ::
    (match action, docked with
      | .safeHead, some h => [.flowFaultNotice h]
      | _, _ => [])

/-- An uncredited window is open. -/
def LineState.missed (x : LineState) : Bool :=
  match x.window with
  | some w => !w.credited
  | none => false

/-- The line with its window closed, a miss counted where it was uncredited. -/
def LineState.closed (x : LineState) : LineState :=
  { x with window := none, miss := if x.missed then x.miss + 1 else x.miss }

/-- The elapsed time has no part in the close of a window. -/
theorem closed_elapsed (x : LineState) (n : Nat) :
    { x with elapsed := n }.closed = { x.closed with elapsed := n } := rfl

@[simp] theorem closed_keeps (x : LineState) :
    x.closed.config = x.config ∧ x.closed.owed = x.owed ∧ x.closed.delivered = x.delivered :=
  ⟨rfl, rfl, rfl⟩

theorem missReaches_iff (x : LineState) :
    x.missReaches = true ↔ x.missed = true ∧ x.config.missLimit ≤ x.miss + 1 := by
  unfold LineState.missReaches LineState.missed
  cases x.window <;> simp

/-- A miss at the limit with no order running. -/
theorem flowFault_idle (none : ∀ y ∈ (s.queues.get p).orders, activeOn l y = false) :
    flowFault p l s =
      s.onLine p l { s.lineOf p l with miss := 0 } (s.queues.get p).orders
        (faultHands p l 0xFFFF#16 (s.lineOf p l).config.flowAction (s.docks.get p).docked) := by
  have found : s.activeOrder p l = .none :=
    List.find?_eq_none.mpr fun y mem => by simp [none y mem]
  unfold flowFault faultHands
  simp only [found, endFirst_none none]
  rw [setLineOf_eq]
  cases (s.lineOf p l).config.flowAction <;> cases docked : (s.docks.get p).docked <;>
    simp [State.raise, State.hand, State.setHanded, State.onLine, State.lineOf, docked]

/-- A miss at the limit ends the order that the line is running. -/
theorem flowFault_running (first : FirstOf (activeOn l) (s.queues.get p).orders older o younger) :
    flowFault p l s =
      s.onLine p l { s.lineOf p l with owed := false, miss := 0 } (older ++ younger)
        (orderEnded p .flowFault o ::
          faultHands p l (w16 o.ordinal.toNat) (s.lineOf p l).config.flowAction
            (s.docks.get p).docked) := by
  have found : s.activeOrder p l = some o := first.find
  unfold flowFault faultHands
  simp only [found, endFirst_active first, onLine_lineOf]
  rw [setLineOf_eq]
  cases (s.lineOf p l).config.flowAction <;> cases docked : (s.docks.get p).docked <;>
    simp [State.raise, State.hand, State.setHanded, State.onLine, State.lineOf, docked]

/-- A window that closes below the miss limit. -/
theorem closeWindow_below (below : (s.lineOf p l).missReaches = false) :
    closeWindow p l s = s.setLineOf p l (s.lineOf p l).closed := by
  unfold closeWindow LineState.closed LineState.missed
  unfold LineState.missReaches at below
  dsimp only
  cases open_ : (s.lineOf p l).window with
  | none =>
    refine (onLine_same s p l).symm.trans ((setLineOf_eq ..).trans ?_).symm
    simp [← open_]
  | some w =>
    obtain ⟨n, _ | _⟩ := w
    · simp only [open_, Bool.not_false, Bool.true_and, decide_eq_false_iff_not] at below
      simp [below]
    · simp

/-- A window whose close is the miss that reaches the limit. -/
theorem closeWindow_reaches (reaches : (s.lineOf p l).missReaches = true) :
    closeWindow p l s = flowFault p l (s.setLineOf p l (s.lineOf p l).closed) := by
  obtain ⟨missed, limit⟩ := (missReaches_iff _).mp reaches
  unfold closeWindow LineState.closed
  rw [if_pos missed]
  unfold LineState.missed at missed
  dsimp only
  cases open_ : (s.lineOf p l).window with
  | none => simp [open_] at missed
  | some w =>
    simp only [open_, Bool.not_eq_true'] at missed
    simp [missed, limit]

/-- The line after a stroke. -/
def LineState.struck (x : LineState) (miss : Nat) (owed : Bool) : LineState :=
  { x with
    elapsed := 0, owed := owed, window := some ⟨x.config.flowWindow, false⟩, miss := miss
    delivered := x.delivered + 1 }

/-- What a stroke hands the idle timer (R100, step 5). -/
def reloadHands (p : Platen) (o : Order) : List Instr :=
  if o.source = .idleWet then [] else [.idleTimerReload p]

/-- One more stroke of an order. -/
def Order.struck (o : Order) : Order := { o with strokes := o.strokes + 1 }

theorem countStroke_running (first : FirstOf (activeOn l) (s.queues.get p).orders older o younger) :
    countStroke p l o s =
      s.onLine p l { s.lineOf p l with delivered := (s.lineOf p l).delivered + 1 }
        (older ++ o.struck :: younger) (reloadHands p o) := by
  unfold countStroke reloadHands
  simp only [first.upd]
  rw [setOrders_eq _ _ l]
  split <;> simp [setLineOf_eq, Order.struck]

theorem openWindow_eq (p : Platen) (l : Line) (s : State) :
    openWindow p l s =
      s.onLine p l { s.lineOf p l with window := some ⟨(s.lineOf p l).config.flowWindow, false⟩ }
        (s.queues.get p).orders [] := by
  rw [← setLineOf_eq]
  rfl

theorem FirstOf.struck (first : FirstOf (activeOn l) (s.queues.get p).orders older o younger) :
    FirstOf (activeOn l) (older ++ o.struck :: younger) older o.struck younger :=
  ⟨first.is, rfl, first.before⟩

/-- A state after one pump actuation of a line. -/
def State.pumped (s : State) (p : Platen) (l : Line) : State :=
  { s with pumpOut := s.pumpOut ++ [lineIx p l] }

theorem actuate_eq (s : State) (p : Platen) (l : Line) :
    s.actuate p l =
      (s.pumped p l).onLine p l { s.lineOf p l with elapsed := 0 } (s.queues.get p).orders [] := by
  rw [State.actuate, setLineOf_eq]
  rfl

/-- A stroke (R100): with the miss that reaches the limit the order ends FLOW_FAULT, with its last it
ends DONE. -/
theorem issueStroke_runs (first : FirstOf (activeOn l) (s.queues.get p).orders older o younger)
    (left : o.strokes < o.count) :
    issueStroke p l s =
      if (s.lineOf p l).missReaches = true then
        (s.pumped p l).onLine p l ((s.lineOf p l).struck 0 false) (older ++ younger)
          (reloadHands p o ++ orderEnded p .flowFault o.struck ::
            faultHands p l (w16 o.ordinal.toNat) (s.lineOf p l).config.flowAction
              (s.docks.get p).docked)
      else if o.strokes + 1 = o.count then
        (s.pumped p l).onLine p l ((s.lineOf p l).struck (s.lineOf p l).closed.miss false)
          (older ++ younger) (reloadHands p o ++ [orderEnded p .done o.struck])
      else
        (s.pumped p l).onLine p l
          ((s.lineOf p l).struck (s.lineOf p l).closed.miss (s.lineOf p l).owed)
          (older ++ o.struck :: younger) (reloadHands p o) := by
  rw [issueStroke_eq first.find, if_neg (Nat.not_le.mpr left)]
  have run (u : State) (orders : (u.queues.get p).orders = (s.queues.get p).orders) :=
    countStroke_running (s := u) (orders ▸ first)
  have actuated : ((s.actuate p l).queues.get p).orders = (s.queues.get p).orders := rfl
  split
  · next reaches =>
    have still : (((s.actuate p l).onLine p l
        { (s.actuate p l).lineOf p l with delivered := ((s.actuate p l).lineOf p l).delivered + 1 }
        (older ++ o.struck :: younger) (reloadHands p o)).lineOf p l).missReaches = true := by
      simpa [actuate_eq, LineState.missReaches] using reaches
    rw [run _ actuated, closeWindow_reaches still, openWindow_eq, setLineOf_eq, onLine_onLine,
      flowFault_running (by simpa using first.struck)]
    simp [actuate_eq, LineState.struck, LineState.closed, Order.struck, State.pumped]
  · next below =>
    have still : ((s.actuate p l).lineOf p l).missReaches = false := by
      simpa [lineOf_actuate, LineState.missReaches] using below
    rw [closeWindow_below still, setLineOf_eq, openWindow_eq, onLine_onLine, run _ (by simp)]
    split
    · rw [endFirst_active (by simpa using first.struck)]
      simp only [actuate_eq, onLine_lineOf, onLine_onLine, closed_elapsed]
      simp [LineState.struck]
    · simp only [actuate_eq, onLine_lineOf, onLine_onLine, closed_elapsed]
      simp [LineState.struck]

end

end Sys2Proof.Machine
end

section
/-! PROOFS. What one line's operations leave of the other lines, and how the queue's orders are
accounted for. -/

namespace Sys2Proof.Machine

open Sys2Proof

/-! ### Orders and the lines they are of -/

/-- The orders of line `l` in platen `p`'s queue, oldest first. -/
def State.lineOrders (s : State) (p : Platen) (l : Line) : List Order :=
  (s.queues.get p).orders.filter fun o => o.line == l

/-- The same order, whatever strokes it has made. -/
structure Order.Same (o o' : Order) : Prop where
  ordinal : o'.ordinal = o.ordinal
  source : o'.source = o.source
  line : o'.line = o.line
  count : o'.count = o.count
  mode : o'.mode = o.mode

theorem Order.Same.refl (o : Order) : o.Same o := ⟨rfl, rfl, rfl, rfl, rfl⟩

theorem Order.Same.trans {a b c : Order} (first : a.Same b) (second : b.Same c) : a.Same c :=
  ⟨second.ordinal.trans first.ordinal, second.source.trans first.source,
    second.line.trans first.line, second.count.trans first.count, second.mode.trans first.mode⟩

/-- An ORDER_ENDED of order `o` is among the events handed. -/
def State.reports (s : State) (p : Platen) (o : Order) : Prop :=
  ∃ st strokes, .eventRaise .orderEnded (.line (lineIx p o.line)) (detail o.ordinal.toNat st) strokes ∈
    s.handed

/-- What every operation of platen `p`'s engine keeps: nothing is handed back, no pump actuation is
lost, and every order is in the queue or has been reported. -/
structure EngineRuns (p : Platen) (s t : State) : Prop where
  queues : ∀ r, r ≠ p → t.queues.get r = s.queues.get r
  elsewhere : ∀ r, r ≠ p → ∀ l, t.lineOf r l = s.lineOf r l
  pumped : ∃ b, t.pumpOut = s.pumpOut ++ b
  hands : ∃ b, t.handed = s.handed ++ b
  accounts : ∀ o ∈ (s.queues.get p).orders,
    (∃ o' ∈ (t.queues.get p).orders, o.Same o') ∨ t.reports p o
  origin : ∀ o' ∈ (t.queues.get p).orders, ∃ o ∈ (s.queues.get p).orders, o.Same o'
  inputs : t.inputs = s.inputs
  verifier : t.verifier = s.verifier
  written : t.written = s.written

namespace EngineRuns

variable {p : Platen} {s t u : State}

theorem mem (run : EngineRuns p s t) {c : Instr} (there : c ∈ s.handed) : c ∈ t.handed := by
  obtain ⟨b, is⟩ := run.hands
  rw [is]
  exact List.mem_append_left b there

theorem reports (run : EngineRuns p s t) {o : Order} (there : s.reports p o) : t.reports p o := by
  obtain ⟨st, strokes, is⟩ := there
  exact ⟨st, strokes, run.mem is⟩

theorem refl (s : State) : EngineRuns p s s :=
  ⟨fun _ _ => rfl, fun _ _ _ => rfl, ⟨[], by simp⟩, ⟨[], by simp⟩, fun o is => .inl ⟨o, is, .refl o⟩,
    fun o is => ⟨o, is, .refl o⟩, rfl, rfl, rfl⟩

theorem trans (first : EngineRuns p s t) (second : EngineRuns p t u) : EngineRuns p s u where
  queues r ne := (second.queues r ne).trans (first.queues r ne)
  elsewhere r ne l := (second.elsewhere r ne l).trans (first.elsewhere r ne l)
  pumped := by
    obtain ⟨⟨a, isA⟩, ⟨b, isB⟩⟩ := And.intro first.pumped second.pumped
    exact ⟨a ++ b, by rw [isB, isA, List.append_assoc]⟩
  hands := by
    obtain ⟨⟨a, isA⟩, ⟨b, isB⟩⟩ := And.intro first.hands second.hands
    exact ⟨a ++ b, by rw [isB, isA, List.append_assoc]⟩
  accounts o is := by
    obtain ⟨o', is', same⟩ | reported := first.accounts o is
    · obtain ⟨o'', is'', same'⟩ | ⟨st, strokes, mem⟩ := second.accounts o' is'
      · exact .inl ⟨o'', is'', same.trans same'⟩
      · rw [same.line, same.ordinal] at mem
        exact .inr ⟨st, strokes, mem⟩
    · exact .inr (second.reports reported)
  origin o'' is := by
    obtain ⟨o', is', same'⟩ := second.origin o'' is
    obtain ⟨o, is, same⟩ := first.origin o' is'
    exact ⟨o, is, same.trans same'⟩
  inputs := second.inputs.trans first.inputs
  verifier := second.verifier.trans first.verifier
  written := second.written.trans first.written

end EngineRuns

/-- Line `l` and its orders are as they were. -/
structure LineStays (p : Platen) (l : Line) (s t : State) : Prop where
  line : t.lineOf p l = s.lineOf p l
  orders : t.lineOrders p l = s.lineOrders p l

namespace LineStays

variable {p : Platen} {l : Line} {s t u : State}

theorem refl (s : State) : LineStays p l s s := ⟨rfl, rfl⟩

theorem trans (first : LineStays p l s t) (second : LineStays p l t u) : LineStays p l s u :=
  ⟨second.line.trans first.line, second.orders.trans first.orders⟩

end LineStays

/-- An operation of line `l` alone: every other line stays. -/
structure OwnLine (p : Platen) (l : Line) (s t : State) : Prop where
  runs : EngineRuns p s t
  others : ∀ l', l' ≠ l → LineStays p l' s t

theorem lineIx_ne {p : Platen} {l l' : Line} (ne : l' ≠ l) : lineIx p l ≠ lineIx p l' := by
  intro same
  have val := congrArg Fin.val same
  simp only [lineIx] at val
  exact ne (Fin.ext (by omega))

theorem lineIx_platen_ne {p r : Platen} {l l' : Line} (ne : p ≠ r) : lineIx p l ≠ lineIx r l' := by
  intro same
  have val := congrArg Fin.val same
  simp only [lineIx] at val
  exact ne (Fin.ext (by omega))

namespace OwnLine

variable {p : Platen} {l : Line} {s t u : State} {older younger : List Order} {o : Order}

theorem refl (s : State) : OwnLine p l s s := ⟨.refl s, fun _ _ => .refl s⟩

theorem trans (first : OwnLine p l s t) (second : OwnLine p l t u) : OwnLine p l s u :=
  ⟨first.runs.trans second.runs, fun l' ne => (first.others l' ne).trans (second.others l' ne)⟩

theorem pump (s : State) : OwnLine p l s (s.pumped p l) :=
  ⟨{ EngineRuns.refl s with pumped := ⟨[lineIx p l], rfl⟩ }, fun _ _ => ⟨rfl, rfl⟩⟩

/-- A change of the line, its orders and what is handed. -/
theorem onLine {y : LineState} {os : List Order} {hs : List Instr}
    (left : ∀ l', l' ≠ l → os.filter (fun o => o.line == l') = s.lineOrders p l')
    (accounts : ∀ o ∈ (s.queues.get p).orders,
      (∃ o' ∈ os, o.Same o') ∨ ∃ st strokes,
        .eventRaise .orderEnded (.line (lineIx p o.line)) (detail o.ordinal.toNat st) strokes ∈ hs)
    (origin : ∀ o' ∈ os, ∃ o ∈ (s.queues.get p).orders, o.Same o') :
    OwnLine p l s (s.onLine p l y os hs) where
  runs :=
    { EngineRuns.refl (p := p) s with
      queues r ne := Tab.get_upd_ne _ _ (Ne.symm ne)
      elsewhere r ne l' := Tab.get_upd_ne _ _ (lineIx_platen_ne (Ne.symm ne))
      hands := ⟨hs, rfl⟩
      accounts o is := by
        obtain ⟨o', is', same⟩ | ⟨st, strokes, mem⟩ := accounts o is
        · exact .inl ⟨o', by simpa using is', same⟩
        · exact .inr ⟨st, strokes, List.mem_append_right _ mem⟩
      origin o' is := origin o' (by simpa using is) }
  others l' ne :=
    ⟨Tab.get_upd_ne _ _ (lineIx_ne ne), by simpa [State.lineOrders] using left l' ne⟩

theorem keep (y : LineState) (hs : List Instr) :
    OwnLine p l s (s.onLine p l y (s.queues.get p).orders hs) :=
  .onLine (fun _ _ => rfl) (fun o is => .inl ⟨o, is, .refl o⟩) (fun o is => ⟨o, is, .refl o⟩)

theorem set (y : LineState) : OwnLine p l s (s.setLineOf p l y) := by
  rw [setLineOf_eq]
  exact keep y []

/-- An order of the line leaves the queue and is reported. -/
theorem remove {which : Order → Bool} (first : FirstOf which (s.queues.get p).orders older o younger)
    (line : o.line = l) {y : LineState} {hs : List Instr}
    (reported : ∃ st strokes,
      .eventRaise .orderEnded (.line (lineIx p o.line)) (detail o.ordinal.toNat st) strokes ∈ hs) :
    OwnLine p l s (s.onLine p l y (older ++ younger) hs) := by
  refine .onLine (fun l' ne => ?_) (fun x is => ?_) (fun x is => ⟨x, ?_, .refl x⟩)
  · simp [State.lineOrders, first.split, line, Ne.symm ne]
  · rw [first.split, List.mem_append, List.mem_cons] at is
    obtain is | rfl | is := is
    · exact .inl ⟨x, List.mem_append_left _ is, .refl x⟩
    · exact .inr reported
    · exact .inl ⟨x, List.mem_append_right _ is, .refl x⟩
  · rw [first.split]
    grind

/-- An order of the line moves on in its place. -/
theorem replace {which : Order → Bool}
    (first : FirstOf which (s.queues.get p).orders older o younger) (line : o.line = l) {o' : Order}
    (same : o.Same o') {y : LineState} {hs : List Instr} :
    OwnLine p l s (s.onLine p l y (older ++ o' :: younger) hs) := by
  refine .onLine (fun l' ne => ?_) (fun x is => .inl ?_) (fun x is => ?_)
  · simp [State.lineOrders, first.split, same.line, line, Ne.symm ne]
  · rw [first.split, List.mem_append, List.mem_cons] at is
    obtain is | rfl | is := is
    · exact ⟨x, List.mem_append_left _ is, .refl x⟩
    · exact ⟨o', by simp, same⟩
    · exact ⟨x, by simp [is], .refl x⟩
  · rw [List.mem_append, List.mem_cons] at is
    rw [first.split]
    obtain is | rfl | is := is
    · exact ⟨x, List.mem_append_left _ is, .refl x⟩
    · exact ⟨o, by simp, same⟩
    · exact ⟨x, by simp [is], .refl x⟩

end OwnLine

/-! ### The operations of a line -/

section
variable {p : Platen} {l : Line}

theorem not_any_activeOn {os : List Order} :
    os.find? (activeOn l) = none ↔ ∀ y ∈ os, activeOn l y = false := by
  simp [List.find?_eq_none]

theorem endFirst_active_own (st : EndStatus) (s : State) :
    OwnLine p l s (endFirst p (activeOn l) st s) := by
  cases found : (s.queues.get p).orders.find? (activeOn l) with
  | none => rw [endFirst_none (not_any_activeOn.mp found)]; exact .refl s
  | some o =>
    obtain ⟨older, younger, first⟩ := FirstOf.exists_of_find found
    rw [endFirst_active first]
    exact .remove first (activeOn_eq_true.mp first.is).2 ⟨_, _, List.mem_singleton.mpr rfl⟩

theorem endFirst_queued_own (st : EndStatus) (s : State) :
    OwnLine p l s (endFirst p (queuedOn l) st s) := by
  cases found : (s.queues.get p).orders.find? (queuedOn l) with
  | none =>
    rw [endFirst_none (by simpa using List.find?_eq_none.mp found)]
    exact .refl s
  | some o =>
    obtain ⟨older, younger, first⟩ := FirstOf.exists_of_find found
    rw [endFirst_queued first]
    exact .remove first (queuedOn_eq_true.mp first.is).2 ⟨_, _, List.mem_singleton.mpr rfl⟩

theorem flowFault_own (s : State) : OwnLine p l s (flowFault p l s) := by
  cases found : (s.queues.get p).orders.find? (activeOn l) with
  | none =>
    rw [flowFault_idle (not_any_activeOn.mp found)]
    exact .keep _ _
  | some o =>
    obtain ⟨older, younger, first⟩ := FirstOf.exists_of_find found
    rw [flowFault_running first]
    exact .remove first (activeOn_eq_true.mp first.is).2 ⟨_, _, List.mem_cons_self⟩

theorem closeWindow_own (s : State) : OwnLine p l s (closeWindow p l s) := by
  cases reaches : (s.lineOf p l).missReaches with
  | false =>
    rw [closeWindow_below reaches]
    exact .set _
  | true =>
    rw [closeWindow_reaches reaches]
    exact (OwnLine.set _).trans (flowFault_own _)

theorem Order.same_struck (o : Order) : o.Same o.struck := ⟨rfl, rfl, rfl, rfl, rfl⟩

theorem issueStroke_own (s : State) : OwnLine p l s (issueStroke p l s) := by
  cases found : s.activeOrder p l with
  | none => rw [issueStroke_none found]; exact .refl s
  | some o =>
    obtain ⟨older, younger, first⟩ := FirstOf.exists_of_find found
    have line := (activeOn_eq_true.mp first.is).2
    by_cases left : o.strokes < o.count
    · have ended (st : EndStatus) (a b : List Instr) : ∃ st' strokes,
          .eventRaise .orderEnded (.line (lineIx p o.line)) (detail o.ordinal.toNat st') strokes ∈
            a ++ orderEnded p st o.struck :: b := ⟨_, _, List.mem_append_right a List.mem_cons_self⟩
      have pumped : FirstOf (activeOn l) ((s.pumped p l).queues.get p).orders older o younger := first
      refine (OwnLine.pump s).trans ?_
      rw [issueStroke_runs first left]
      split_ifs
      · exact .remove pumped line (ended _ _ _)
      · exact .remove pumped line (ended _ _ _)
      · exact .replace pumped line o.same_struck
    · rw [issueStroke_eq found, if_pos (Nat.le_of_not_lt left)]
      exact .refl s

end

end Sys2Proof.Machine
end

section
/-! PROOFS. The turns of the lines (R99): what judging a line, and every line, does. -/

namespace Sys2Proof.Machine

open Sys2Proof

/-! ### Whether a line may run an order -/

/-- The status that ends a line's waiting orders, or none where the line may run one (R99). -/
def State.stops (s : State) (p : Platen) (l : Line) : Option EndStatus :=
  if !LineConfig.isEnabled (s.lineOf p l).config then some .lineOff
  else if s.functionActive (.supplyLow p l) then some .supplyLow
  else if !s.lineGateOpen (lineIx p l) then some .lineOff
  else none

section
variable {p : Platen} {l : Line} {s t : State}

theorem functionActive_congr (same : t.inputs = s.inputs) (f : InputFunction) :
    t.functionActive f = s.functionActive f := by
  unfold State.functionActive
  rw [same]

theorem lineGateOpen_congr (verifier : t.verifier = s.verifier) (written : t.written = s.written)
    (i : LineIx) : t.lineGateOpen i = s.lineGateOpen i := by
  rw [Bool.eq_iff_iff, State.lineGateOpen_iff, State.lineGateOpen_iff, verifier, written]

theorem stops_congr (config : (t.lineOf p l).config = (s.lineOf p l).config)
    (run : EngineRuns p s t) : t.stops p l = s.stops p l := by
  unfold State.stops
  rw [config, functionActive_congr run.inputs, lineGateOpen_congr run.verifier run.written]

theorem isEnabled_iff (e : LineConfig) :
    LineConfig.isEnabled e = true ↔ e.valid = true ∧ e.enabled = true := by
  simp [LineConfig.isEnabled]

theorem stops_disabled
    (off : ¬((s.lineOf p l).config.valid = true ∧ (s.lineOf p l).config.enabled = true)) :
    s.stops p l = some .lineOff := by
  rw [← isEnabled_iff] at off
  exact if_pos (by simpa using off)

section
variable (on : (s.lineOf p l).config.valid = true ∧ (s.lineOf p l).config.enabled = true)
include on

theorem stops_low (low : s.functionActive (.supplyLow p l) = true) :
    s.stops p l = some .supplyLow := by
  rw [← isEnabled_iff] at on
  exact (if_neg (by simp [on])).trans (if_pos low)

variable (full : ¬s.functionActive (.supplyLow p l) = true)
include full

theorem stops_gated (shut : ¬(s.verifier.vbr = true →
      s.verifier.line.state = .verified ∧ .line (lineIx p l) ∉ s.written)) :
    s.stops p l = some .lineOff := by
  rw [← isEnabled_iff] at on
  rw [← State.lineGateOpen_iff] at shut
  exact (if_neg (by simp [on])).trans ((if_neg full).trans (if_pos (by simpa using shut)))

theorem stops_none (gate : s.verifier.vbr = true →
      s.verifier.line.state = .verified ∧ .line (lineIx p l) ∉ s.written) :
    s.stops p l = none := by
  rw [← isEnabled_iff] at on
  rw [← State.lineGateOpen_iff] at gate
  exact (if_neg (by simp [on])).trans ((if_neg full).trans (if_neg (by simp [gate])))

end

end

/-! ### One pass over a line -/

/-- An order that has become ACTIVE. -/
def Order.begun (o : Order) : Order := { o with active := true }

section
variable {p : Platen} {l : Line} {s : State} {older younger : List Order} {o : Order}

theorem judgeLine_running (n : Nat) (running : (s.queues.get p).orders.any (activeOn l) = true) :
    judgeLine p l n s = s :=
  judgeLine_of_none_waiting p l n s fun _ _ _ => List.any_eq_true.mp running

theorem judgeLine_empty (n : Nat) (none : ∀ y ∈ (s.queues.get p).orders, queuedOn l y = false) :
    judgeLine p l n s = s :=
  judgeLine_of_none_waiting p l n s fun y mem waits => by simp [none y mem] at waits

section
variable (n : Nat) (free : (s.queues.get p).orders.any (activeOn l) = false)
  (first : FirstOf (queuedOn l) (s.queues.get p).orders older o younger)
include free first

/-- A waiting order of a line that may not run it ends. -/
theorem judgeLine_stops {st : EndStatus} (stops : s.stops p l = some st) :
    judgeLine p l (n + 1) s =
      judgeLine p l n (s.onLine p l (s.lineOf p l) (older ++ younger) [orderEnded p st o]) := by
  rw [judgeLine]
  simp only [free, Bool.false_eq_true, if_false, first.find, ← endFirst_queued first]
  unfold State.stops at stops
  split_ifs at stops with off low shut
  · rw [if_pos off]
    rw [Option.some_injective _ stops]
  · rw [if_neg off, if_pos low, Option.some_injective _ stops]
  · rw [if_neg off, if_neg low, if_pos shut, Option.some_injective _ stops]

/-- The oldest waiting order of a free line becomes ACTIVE, and a BURST strokes at once. -/
theorem judgeLine_begins (stops : s.stops p l = none) :
    judgeLine p l (n + 1) s =
      if o.mode = .burst ∧ (s.lineOf p l).ready = true then
        judgeLine p l n
          (issueStroke p l (s.onLine p l (s.lineOf p l) (older ++ o.begun :: younger) []))
      else s.onLine p l (s.lineOf p l) (older ++ o.begun :: younger) [] := by
  rw [judgeLine]
  simp only [free, Bool.false_eq_true, if_false, first.find, first.upd]
  unfold State.stops at stops
  split_ifs at stops with off low shut
  rw [if_neg off, if_neg low, if_neg shut, setOrders_eq _ _ l, onLine_lineOf]
  rfl

end

/-- The queue as the oldest waiting order of a free line becomes ACTIVE. -/
theorem FirstOf.begun (free : (s.queues.get p).orders.any (activeOn l) = false)
    (first : FirstOf (queuedOn l) (s.queues.get p).orders older o younger) :
    FirstOf (activeOn l) (older ++ o.begun :: younger) older o.begun younger where
  is := activeOn_eq_true.mpr ⟨rfl, (queuedOn_eq_true.mp first.is).2⟩
  split := rfl
  before y mem := by
    rw [first.split] at free
    simpa using List.any_eq_false.mp free y (List.mem_append_left _ mem)

theorem Order.same_begun (o : Order) : o.Same o.begun := ⟨rfl, rfl, rfl, rfl, rfl⟩

theorem judgeLine_own (n : Nat) (s : State) : OwnLine p l s (judgeLine p l n s) := by
  induction n generalizing s with
  | zero => exact .refl s
  | succ n ih =>
    cases free : (s.queues.get p).orders.any (activeOn l) with
    | true => rw [judgeLine_running _ free]; exact .refl s
    | false =>
    cases found : (s.queues.get p).orders.find? (queuedOn l) with
    | none =>
      rw [judgeLine_empty _ (by simpa using List.find?_eq_none.mp found)]
      exact .refl s
    | some o =>
      obtain ⟨older, younger, first⟩ := FirstOf.exists_of_find found
      have line := (queuedOn_eq_true.mp first.is).2
      cases stops : s.stops p l with
      | some st =>
        rw [judgeLine_stops n free first stops]
        exact .trans (.remove first line ⟨_, _, List.mem_singleton.mpr rfl⟩) (ih _)
      | none =>
        rw [judgeLine_begins n free first stops]
        have begins := OwnLine.replace (p := p) (s := s) first line o.same_begun
          (y := s.lineOf p l) (hs := [])
        split_ifs
        · exact begins.trans ((issueStroke_own _).trans (ih _))
        · exact begins

end

/-! ### The orders of one line -/

section
variable {p : Platen} {l : Line} {s : State} {older younger : List Order} {o : Order}

theorem lineOrders_eq (s : State) :
    s.lineOrders p l = (s.queues.get p).orders.filter fun o => o.line == l := rfl

theorem any_activeOn (os : List Order) :
    os.any (activeOn l) = (os.filter fun o => o.line == l).any (·.active) := by
  rw [List.any_filter]
  congr 1
  funext o
  exact Bool.and_comm _ _

theorem filter_queuedOn {os : List Order} (free : os.any (activeOn l) = false) :
    os.filter (queuedOn l) = os.filter fun o => o.line == l := by
  refine List.filter_congr fun o mem => ?_
  have idle : ¬activeOn l o = true := by
    have none : ∀ x ∈ os, ¬activeOn l x = true := by simpa using free
    exact none o mem
  rw [Bool.eq_iff_iff, queuedOn_eq_true, beq_iff_eq]
  rw [activeOn_eq_true] at idle
  grind

/-- A free line's oldest order is the first that waits in the queue. -/
theorem exists_firstOf {rest : List Order} (free : (s.queues.get p).orders.any (activeOn l) = false)
    (orders : s.lineOrders p l = o :: rest) :
    ∃ older younger, FirstOf (queuedOn l) (s.queues.get p).orders older o younger ∧
      older.filter (fun o => o.line == l) = [] ∧ younger.filter (fun o => o.line == l) = rest := by
  rw [State.lineOrders] at orders
  obtain ⟨older, younger, split, before, line, after⟩ := List.filter_eq_cons_iff.mp orders
  have none : ∀ x ∈ (s.queues.get p).orders, ¬activeOn l x = true := by simpa using free
  have waits : queuedOn l o = true := by
    have idle := none o (by simp [split])
    rw [activeOn_eq_true] at idle
    rw [queuedOn_eq_true]
    rw [beq_iff_eq] at line
    grind
  refine ⟨older, younger, ⟨waits, split, fun y mem => ?_⟩, ?_, after⟩
  · have other := before y mem
    simp only [beq_iff_eq] at other
    simp [queuedOn, other]
  · exact List.filter_eq_nil_iff.mpr fun y mem => before y mem

theorem not_queuedOn (none : s.lineOrders p l = []) :
    ∀ y ∈ (s.queues.get p).orders, queuedOn l y = false := fun y mem => by
  have other := List.filter_eq_nil_iff.mp none y mem
  simp only [beq_iff_eq] at other
  simp [queuedOn, other]

/-- The waiting orders of a line that may not run one all end. -/
theorem judgeLine_stops_all {st : EndStatus} (n : Nat) (s : State) (fuel : (s.lineOrders p l).length ≤ n)
    (free : (s.queues.get p).orders.any (activeOn l) = false) (stops : s.stops p l = some st) :
    (judgeLine p l n s).lineOrders p l = [] ∧
      ∀ o ∈ s.lineOrders p l, orderEnded p st o ∈ (judgeLine p l n s).handed := by
  induction n generalizing s with
  | zero =>
    have none : s.lineOrders p l = [] := List.eq_nil_of_length_eq_zero (Nat.le_zero.mp fuel)
    exact ⟨none, by simp [none]⟩
  | succ n ih =>
    cases orders : s.lineOrders p l with
    | nil =>
      rw [judgeLine_empty _ (not_queuedOn orders)]
      exact ⟨orders, by simp⟩
    | cons o rest =>
      obtain ⟨older, younger, first, noOlder, isRest⟩ := exists_firstOf free orders
      have run : OwnLine p l s
          (s.onLine p l (s.lineOf p l) (older ++ younger) [orderEnded p st o]) :=
        .remove first (queuedOn_eq_true.mp first.is).2 ⟨_, _, List.mem_singleton.mpr rfl⟩
      rw [judgeLine_stops n free first stops]
      have left : (s.onLine p l (s.lineOf p l) (older ++ younger) [orderEnded p st o]).lineOrders p l =
          rest := by
        simp [State.lineOrders, noOlder, isRest]
      have shorter := ih (s.onLine p l (s.lineOf p l) (older ++ younger) [orderEnded p st o])
        (by rw [left]; rw [orders] at fuel; simpa using fuel)
        (by
          rw [any_activeOn, ← lineOrders_eq, left]
          rw [any_activeOn, ← lineOrders_eq, orders, List.any_cons, Bool.or_eq_false_iff] at free
          exact free.2)
        ((stops_congr (by simp) run.runs).trans stops)
      rw [left] at shorter
      refine ⟨shorter.1, fun x mem => ?_⟩
      rcases List.mem_cons.mp mem with rfl | mem
      · exact (judgeLine_own n _).runs.mem (by simp [State.onLine])
      · exact shorter.2 x mem

/-- A free line that may run its oldest order, its turn up to a BURST's first stroke. -/
theorem judgeLine_begins_first (n : Nat) {rest : List Order}
    (free : (s.queues.get p).orders.any (activeOn l) = false) (orders : s.lineOrders p l = o :: rest)
    (stops : s.stops p l = none) :
    ∃ older younger,
      FirstOf (queuedOn l) (s.queues.get p).orders older o younger ∧
      FirstOf (activeOn l) (older ++ o.begun :: younger) older o.begun younger ∧
      older.filter (fun o => o.line == l) = [] ∧ younger.filter (fun o => o.line == l) = rest ∧
      judgeLine p l (n + 1) s =
        if o.mode = .burst ∧ (s.lineOf p l).ready = true then
          judgeLine p l n
            (issueStroke p l (s.onLine p l (s.lineOf p l) (older ++ o.begun :: younger) []))
        else s.onLine p l (s.lineOf p l) (older ++ o.begun :: younger) [] := by
  obtain ⟨older, younger, first, noOlder, isRest⟩ := exists_firstOf free orders
  exact ⟨older, younger, first, first.begun free, noOlder, isRest, judgeLine_begins n free first stops⟩

/-- An order that makes no stroke as it becomes ACTIVE. -/
theorem judgeLine_begins_still (n : Nat) {rest : List Order}
    (free : (s.queues.get p).orders.any (activeOn l) = false) (orders : s.lineOrders p l = o :: rest)
    (stops : s.stops p l = none)
    (still : ¬(o.mode = .burst ∧ (s.lineOf p l).ready = true)) :
    (judgeLine p l (n + 1) s).lineOrders p l = o.begun :: rest := by
  obtain ⟨older, younger, first, begun, noOlder, isRest, e⟩ :=
    judgeLine_begins_first n free orders stops
  have line : o.begun.line = l := (activeOn_eq_true.mp begun.is).2
  rw [e, if_neg still]
  simp [State.lineOrders, noOlder, isRest, line]

/-- The waiting orders of a free line as the oldest becomes ACTIVE. -/
def nextBegun : List Order → List Order
  | [] => []
  | next :: later => next.begun :: later

section
variable {n : Nat} {rest : List Order} (free : (s.queues.get p).orders.any (activeOn l) = false)
  (orders : s.lineOrders p l = o :: rest) (stops : s.stops p l = none) (burst : o.mode = .burst)
  (ready : (s.lineOf p l).ready = true)
include free orders stops burst ready

theorem judgeLine_burst_pumps (left : o.strokes < o.count) :
    ∃ b, (judgeLine p l (n + 1) s).pumpOut = s.pumpOut ++ lineIx p l :: b := by
  obtain ⟨older, younger, first, begun, -, -, e⟩ := judgeLine_begins_first n free orders stops
  rw [e, if_pos ⟨burst, ready⟩]
  have struck : (issueStroke p l
      (s.onLine p l (s.lineOf p l) (older ++ o.begun :: younger) [])).pumpOut =
        s.pumpOut ++ [lineIx p l] := by
    rw [issueStroke_runs (o := o.begun) (by simpa using begun) left]
    split_ifs <;> rfl
  obtain ⟨b, is⟩ := (judgeLine_own (p := p) (l := l) n (issueStroke p l
    (s.onLine p l (s.lineOf p l) (older ++ o.begun :: younger) []))).runs.pumped
  exact ⟨b, by rw [is, struck]; simp⟩

variable (shut : (s.lineOf p l).window = none)
include shut

theorem judgeLine_burst_goesOn (left : o.strokes + 1 < o.count) :
    (judgeLine p l (n + 1) s).lineOrders p l = o.begun.struck :: rest := by
  obtain ⟨older, younger, first, begun, noOlder, isRest, e⟩ :=
    judgeLine_begins_first n free orders stops
  have line : o.begun.line = l := (activeOn_eq_true.mp begun.is).2
  have below : (s.lineOf p l).missReaches = false := by simp [LineState.missReaches, shut]
  have struck : issueStroke p l (s.onLine p l (s.lineOf p l) (older ++ o.begun :: younger) []) =
      ((s.onLine p l (s.lineOf p l) (older ++ o.begun :: younger) []).pumped p l).onLine p l
        ((s.lineOf p l).struck (s.lineOf p l).closed.miss (s.lineOf p l).owed)
        (older ++ o.begun.struck :: younger) (reloadHands p o.begun) := by
    rw [issueStroke_runs (by simpa using begun) (by simpa [Order.begun] using by omega), onLine_lineOf,
      if_neg (by simp [below]), if_neg (by simpa [Order.begun] using by omega)]
  rw [e, if_pos ⟨burst, ready⟩, struck, judgeLine_running _ (by
    rw [onLine_orders]
    exact List.any_eq_true.mpr ⟨o.begun.struck, by simp, begun.is⟩)]
  simp [State.lineOrders, noOlder, isRest, Order.struck, line]

/-- A BURST whose first stroke is its last ends DONE, and the next order of the line has its turn. -/
theorem judgeLine_burst_done (fuel : rest.length < n) (last : o.strokes + 1 = o.count)
    (slow : 0 < (s.lineOf p l).config.strokePeriod) :
    orderEnded p .done o.struck ∈ (judgeLine p l (n + 1) s).handed ∧
      (judgeLine p l (n + 1) s).lineOrders p l = nextBegun rest := by
  obtain ⟨older, younger, first, begun, noOlder, isRest, e⟩ :=
    judgeLine_begins_first n free orders stops
  have line : o.begun.line = l := (activeOn_eq_true.mp begun.is).2
  have below : (s.lineOf p l).missReaches = false := by simp [LineState.missReaches, shut]
  have struck : issueStroke p l (s.onLine p l (s.lineOf p l) (older ++ o.begun :: younger) []) =
      ((s.onLine p l (s.lineOf p l) (older ++ o.begun :: younger) []).pumped p l).onLine p l
        ((s.lineOf p l).struck (s.lineOf p l).closed.miss false)
        (older ++ younger) (reloadHands p o.begun ++ [orderEnded p .done o.begun.struck]) := by
    rw [issueStroke_runs (by simpa using begun) (by simpa [Order.begun] using by omega), onLine_lineOf,
      if_neg (by simp [below]), if_pos (by simpa [Order.begun] using last)]
  rw [e, if_pos ⟨burst, ready⟩, struck]
  generalize after : ((s.onLine p l (s.lineOf p l) (older ++ o.begun :: younger) []).pumped p l).onLine
    p l ((s.lineOf p l).struck (s.lineOf p l).closed.miss false)
        (older ++ younger) (reloadHands p o.begun ++ [orderEnded p .done o.begun.struck]) = u
  have handed : orderEnded p .done o.struck ∈ u.handed := by
    rw [← after]
    exact List.mem_append_right _ (List.mem_append_right _ (List.mem_singleton.mpr rfl))
  have isLeft : u.lineOrders p l = rest := by
    rw [← after]
    simp [State.lineOrders, noOlder, isRest]
  have isLine : u.lineOf p l = (s.lineOf p l).struck (s.lineOf p l).closed.miss false := by
    rw [← after, onLine_lineOf]
  refine ⟨(judgeLine_own n _).runs.mem handed, ?_⟩
  have freed : (u.queues.get p).orders.any (activeOn l) = false := by
    rw [any_activeOn, ← lineOrders_eq, isLeft]
    rw [any_activeOn, ← lineOrders_eq, orders, List.any_cons, Bool.or_eq_false_iff] at free
    exact free.2
  have goes : u.stops p l = none := by
    refine (stops_congr (s := s) (by rw [isLine]; rfl) ?_).trans stops
    rw [← after, ← struck]
    exact (OwnLine.replace first (queuedOn_eq_true.mp first.is).2 o.same_begun).runs.trans
      (issueStroke_own _).runs
  have unready : (u.lineOf p l).ready = false := by
    rw [isLine]
    exact decide_eq_false (Nat.not_le.mpr slow)
  cases rest with
  | nil =>
    rw [judgeLine_empty _ (not_queuedOn isLeft)]
    exact isLeft
  | cons next later =>
    obtain ⟨m, rfl⟩ : ∃ m, n = m + 1 := ⟨n - 1, by omega⟩
    exact judgeLine_begins_still m freed isLeft goes fun is => by simp [unready] at is

end

end

/-! ### Every line in turn -/

section
variable {p : Platen}

/-- In a fold over the lines each line meets its own operation once, as the others leave it. -/
theorem foldl_lines {g : State → Line → State} (own : ∀ s l, OwnLine p l s (g s l)) (l : Line)
    (s : State) :
    ∃ u, EngineRuns p s u ∧ LineStays p l s u ∧
      EngineRuns p (g u l) ((List.finRange 4).foldl g s) ∧
      LineStays p l (g u l) ((List.finRange 4).foldl g s) := by
  have others (ls : List Line) (no : l ∉ ls) (s : State) :
      EngineRuns p s (ls.foldl g s) ∧ LineStays p l s (ls.foldl g s) := by
    induction ls generalizing s with
    | nil => exact ⟨.refl s, .refl s⟩
    | cons k ls ih =>
      obtain ⟨ne, no⟩ := not_or.mp (List.mem_cons.not.mp no)
      obtain ⟨runs, stays⟩ := ih no (g s k)
      exact ⟨(own s k).runs.trans runs, ((own s k).others l ne).trans stays⟩
  obtain ⟨before, after, is⟩ := List.append_of_mem (List.mem_finRange l)
  have nodup := is ▸ List.nodup_finRange 4
  have notBefore : l ∉ before := fun there => by
    simpa [there] using (List.nodup_cons.mp (List.nodup_middle.mp nodup)).1
  have notAfter : l ∉ after := fun there => by
    simpa [there] using (List.nodup_cons.mp (List.nodup_middle.mp nodup)).1
  rw [is, List.foldl_append, List.foldl_cons]
  obtain ⟨runs, stays⟩ := others before notBefore s
  obtain ⟨runs', stays'⟩ := others after notAfter (g (before.foldl g s) l)
  exact ⟨_, runs, stays, runs', stays'⟩

theorem judgeOrders_runs (s : State) : EngineRuns p s (judgeOrders p s) := by
  unfold judgeOrders
  exact foldl_keeps (L := EngineRuns p s) (fun u l before => before.trans (judgeLine_own _ u).runs) _
    (.refl s)

/-- Every line's turn (R99). -/
theorem judgeOrders_turns (s : State) : turnsTaken p (s.queues.get p).orders s (judgeOrders p s) := by
  intro l x i waiting left raised ended enabled low gate
  obtain ⟨u, runs, stays, after, kept⟩ := foldl_lines (p := p)
    (fun s l => judgeLine_own (p := p) ((s.queues.get p).orders.length + 1) s) l s
  have isLeft : left = (judgeLine p l ((u.queues.get p).orders.length + 1) u).lineOrders p l :=
    kept.orders
  have isLine : u.lineOf p l = x := stays.line
  have same : u.lineOrders p l = s.lineOrders p l := stays.orders
  have fuel : (u.lineOrders p l).length ≤ (u.queues.get p).orders.length := List.length_filter_le _ _
  have stopsSame : u.stops p l = s.stops p l := stops_congr (by rw [stays.line]) runs
  have anySame : (u.queues.get p).orders.any (activeOn l) = (s.queues.get p).orders.any (activeOn l) := by
    rw [any_activeOn, any_activeOn, ← lineOrders_eq, ← lineOrders_eq, same]
  refine ⟨fun running => ?_, fun free => ?_⟩
  · rw [isLeft, judgeLine_running _ (anySame.trans running), same]
    rfl
  · have isWaiting : waiting = u.lineOrders p l := (filter_queuedOn free).trans same.symm
    have freeU := anySame.trans free
    have stopped {st : EndStatus} (stops : s.stops p l = some st) : ended st := by
      obtain ⟨none, all⟩ := judgeLine_stops_all _ u (fuel.trans (Nat.le_succ _)) freeU
        (stopsSame.trans stops)
      refine ⟨isLeft.trans none, fun o mem => ?_⟩
      rw [isWaiting] at mem
      have line : o.line = l := by simpa using (List.mem_filter.mp mem).2
      have reported := after.mem (all o mem)
      unfold orderEnded at reported
      rw [line] at reported
      exact reported
    refine ⟨fun none => ?_, fun off => stopped (stops_disabled off),
      fun on low => stopped (stops_low on low),
      fun on full shut => stopped (stops_gated on full shut), fun on full gate o rest is => ?_⟩
    · rw [isWaiting] at none
      rw [isLeft, judgeLine_empty _ (not_queuedOn none)]
      exact none
    · have orders : u.lineOrders p l = o :: rest := isWaiting.symm.trans is
      have goes := stopsSame.trans (stops_none on full gate)
      rw [isLeft]
      refine ⟨fun still => ?_, fun burst ready strokes => ?_⟩
      · refine judgeLine_begins_still _ freeU orders goes fun ⟨burst, ready⟩ => ?_
        rw [isLine, LineState.ready, decide_eq_true_iff] at ready
        rcases still with single | slow
        · simp [single] at burst
        · omega
      · have isReady : (u.lineOf p l).ready = true := by
          rw [isLine]
          simpa [LineState.ready] using ready
        refine ⟨?_, fun shut more => ?_, fun shut last slow => ?_⟩
        · obtain ⟨a, isA⟩ := runs.pumped
          obtain ⟨b, isB⟩ := judgeLine_burst_pumps (n := (u.queues.get p).orders.length) freeU orders
            goes burst isReady strokes
          obtain ⟨c, isC⟩ := after.pumped
          exact ⟨a, b ++ c, isC.trans (by rw [isB, isA]; simp [i])⟩
        · exact judgeLine_burst_goesOn freeU orders goes burst isReady (by rw [isLine]; exact shut) more
        · obtain ⟨done, next⟩ := judgeLine_burst_done (n := (u.queues.get p).orders.length) freeU
            orders goes burst isReady (by rw [isLine]; exact shut)
            (by rw [orders] at fuel; simpa using fuel) last (by rw [isLine]; exact slow)
          refine ⟨?_, next.trans (by cases rest <;> rfl)⟩
          have line : o.line = l := by
            have mem : o ∈ u.lineOrders p l := by simp [orders]
            simpa using (List.mem_filter.mp mem).2
          have reported := after.mem done
          unfold orderEnded Order.struck at reported
          simp only [line, last] at reported
          exact reported

end

end Sys2Proof.Machine
end

section
/-! PROOFS. The notices that end orders. -/

namespace Sys2Proof.Machine

open Sys2Proof

section
variable {p : Platen} {l : Line} {s t : State}

/-! ### What judging leaves -/

theorem issueStroke_unowed (un : (s.lineOf p l).owed = false) :
    ((issueStroke p l s).lineOf p l).owed = false := by
  cases found : s.activeOrder p l with
  | none => rwa [issueStroke_none found]
  | some o =>
    obtain ⟨older, younger, first⟩ := FirstOf.exists_of_find found
    by_cases left : o.strokes < o.count
    · rw [issueStroke_runs first left]
      split_ifs
      · rw [onLine_lineOf]; rfl
      · rw [onLine_lineOf]; rfl
      · rw [onLine_lineOf]; exact un
    · rw [issueStroke_eq found, if_pos (Nat.le_of_not_lt left)]
      exact un

theorem judgeLine_unowed (n : Nat) (s : State) (un : (s.lineOf p l).owed = false) :
    ((judgeLine p l n s).lineOf p l).owed = false := by
  induction n generalizing s with
  | zero => exact un
  | succ n ih =>
    cases free : (s.queues.get p).orders.any (activeOn l) with
    | true => rwa [judgeLine_running _ free]
    | false =>
    cases found : (s.queues.get p).orders.find? (queuedOn l) with
    | none => rwa [judgeLine_empty _ (by simpa using List.find?_eq_none.mp found)]
    | some o =>
      obtain ⟨older, younger, first⟩ := FirstOf.exists_of_find found
      cases stops : s.stops p l with
      | some st =>
        rw [judgeLine_stops n free first stops]
        exact ih _ (by rwa [onLine_lineOf])
      | none =>
        rw [judgeLine_begins n free first stops]
        split_ifs
        · exact ih _ (issueStroke_unowed (by rwa [onLine_lineOf]))
        · rwa [onLine_lineOf]

theorem judgeOrders_unowed (un : (s.lineOf p l).owed = false) :
    ((judgeOrders p s).lineOf p l).owed = false := by
  obtain ⟨u, -, stays, -, kept⟩ := foldl_lines (p := p)
    (fun s l => judgeLine_own (p := p) ((s.queues.get p).orders.length + 1) s) l s
  exact (congrArg LineState.owed kept.line).trans (judgeLine_unowed _ u (by rwa [stays.line]))

/-- A line that is running an order stays as the lines take their turns. -/
theorem judgeOrders_running (running : (s.queues.get p).orders.any (activeOn l) = true) :
    LineStays p l s (judgeOrders p s) := by
  obtain ⟨u, -, stays, -, kept⟩ := foldl_lines (p := p)
    (fun s l => judgeLine_own (p := p) ((s.queues.get p).orders.length + 1) s) l s
  rw [any_activeOn, ← lineOrders_eq, ← stays.orders, lineOrders_eq, ← any_activeOn] at running
  rw [judgeLine_running _ running] at kept
  exact stays.trans kept

/-- Where each order waits behind a running one no line has a turn to take. -/
theorem judgeOrders_none_waiting
    (busy : ∀ y ∈ (s.queues.get p).orders, ∃ a ∈ (s.queues.get p).orders, activeOn y.line a = true) :
    judgeOrders p s = s := by
  have still (ls : List Line) : ls.foldl
      (fun s l => judgeLine p l ((s.queues.get p).orders.length + 1) s) s = s := by
    induction ls with
    | nil => rfl
    | cons l ls ih =>
      rw [List.foldl_cons, judgeLine_of_none_waiting p l _ s fun y mem waits =>
        (queuedOn_eq_true.mp waits).2 ▸ busy y mem]
      exact ih
  exact still _

/-- What the turns of the lines look at. -/
theorem turnsTaken_congr {os : List Order} {u : State}
    (lines : ∀ l, (t.lineOf p l).config = (s.lineOf p l).config ∧
      (t.lineOf p l).elapsed = (s.lineOf p l).elapsed ∧ (t.lineOf p l).window = (s.lineOf p l).window)
    (inputs : t.inputs = s.inputs) (verifier : t.verifier = s.verifier)
    (written : t.written = s.written) (pumpOut : t.pumpOut = s.pumpOut)
    (taken : turnsTaken p os t u) : turnsTaken p os s u := by
  intro l
  have here := taken l
  obtain ⟨config, elapsed, window⟩ := lines l
  simp only [config, elapsed, window, functionActive_congr inputs, verifier, written, pumpOut] at here
  exact here

/-! ### The end of the orders that a notice names -/

variable {which : Order → Bool} {st : EndStatus}

theorem reportEnd_handed (s : State) (o : Order) :
    (reportEnd p st s o).handed = s.handed ++ [orderEnded p st o] := by
  unfold reportEnd
  dsimp only
  split <;> rfl

/-- The end of an ACTIVE order clears its line's owed mark, and no other's. -/
theorem reportEnd_lineOf (s : State) (o : Order) :
    (reportEnd p st s o).lineOf p l =
      { s.lineOf p l with owed := (s.lineOf p l).owed && !activeOn l o } := by
  unfold reportEnd
  by_cases active : o.active = true
  · rw [if_pos active]
    by_cases line : o.line = l
    · subst line
      have named : activeOn o.line o = true := activeOn_eq_true.mpr ⟨active, rfl⟩
      rw [named, Bool.not_true, Bool.and_false]
      exact lineOf_setLineOf s p o.line _
    · have other : activeOn l o = false := by simp [activeOn, line]
      rw [other, Bool.not_false, Bool.and_true]
      exact Tab.get_upd_ne _ _ (lineIx_ne (Ne.symm line))
  · rw [if_neg active]
    have other : activeOn l o = false := by simp [activeOn, active]
    rw [other, Bool.not_false, Bool.and_true]
    rfl

theorem foldl_reportEnd (os : List Order) (s : State) :
    (os.foldl (reportEnd p st) s).queues = s.queues ∧
      (os.foldl (reportEnd p st) s).handed = s.handed ++ os.map (orderEnded p st) ∧
      (os.foldl (reportEnd p st) s).lineOf p l =
        { s.lineOf p l with owed := (s.lineOf p l).owed && !os.any (activeOn l) } := by
  induction os generalizing s with
  | nil => simp
  | cons o os ih =>
    obtain ⟨queues, handed, line⟩ := ih (reportEnd p st s o)
    rw [List.foldl_cons]
    refine ⟨queues.trans (by simp), handed.trans ?_, line.trans ?_⟩
    · rw [reportEnd_handed]
      simp
    · rw [reportEnd_lineOf]
      simp [Bool.and_assoc]

/-- What a notice that ends the orders that satisfy `which` does to the queue and the lines. -/
theorem endOrders_ends (s : State) :
    (endOrders p which st s).queues =
        (s.setOrders p ((s.queues.get p).orders.filter fun o => !which o)).queues ∧
      (endOrders p which st s).handed =
        s.handed ++ ((s.queues.get p).orders.filter which).map (orderEnded p st) ∧
      (endOrders p which st s).lineOf p l =
        { s.lineOf p l with
          owed := (s.lineOf p l).owed &&
            !((s.queues.get p).orders.filter which).any (activeOn l) } :=
  foldl_reportEnd _ _

/-- What O38 says of one notice. -/
structure NoticeEnds (p : Platen) (which : Order → Bool) (st : EndStatus) (s t : State) : Prop where
  ends : ∀ o ∈ (s.queues.get p).orders, which o = true →
    .eventRaise .orderEnded (.line (lineIx p o.line))
        (detail o.ordinal.toNat (endStatusCode st)) (w16 o.strokes) ∈ t.handed
  keeps : ∀ o ∈ (s.queues.get p).orders, which o = false →
    (o.active = true → o ∈ (t.queues.get p).orders) ∧
      ((∃ y ∈ (s.queues.get p).orders, activeOn o.line y = true ∧ which y = false) →
        o ∈ (t.queues.get p).orders) ∧
      ((∃ o' ∈ (t.queues.get p).orders,
          o'.ordinal = o.ordinal ∧ o'.source = o.source ∧ o'.line = o.line ∧
            o'.count = o.count ∧ o'.mode = o.mode) ∨
        ∃ st strokes,
          .eventRaise .orderEnded (.line (lineIx p o.line)) (detail o.ordinal.toNat st)
            strokes ∈ t.handed)
  origin : ∀ o' ∈ (t.queues.get p).orders, ∃ o ∈ (s.queues.get p).orders,
    which o = false ∧ o'.ordinal = o.ordinal ∧ o'.source = o.source ∧
      o'.line = o.line ∧ o'.count = o.count ∧ o'.mode = o.mode
  turns : turnsTaken p ((s.queues.get p).orders.filter fun o => !which o) s t
  unowes : ∀ o ∈ (s.queues.get p).orders, which o = true → o.active = true →
    (t.lineOf p o.line).owed = false
  lines : ∀ l' : Line, (s.queues.get p).orders.any (activeOn l') = true →
    (∀ o ∈ (s.queues.get p).orders, activeOn l' o = true → which o = false) →
      t.lineOf p l' = s.lineOf p l'
  others : ∀ r : Platen, r ≠ p → t.queues.get r = s.queues.get r

theorem endOrders_judged (s : State) :
    NoticeEnds p which st s (judgeOrders p (endOrders p which st s)) := by
  generalize is : endOrders p which st s = u
  have facts (l : Line) := endOrders_ends (p := p) (l := l) (which := which) (st := st) s
  rw [is] at facts
  have orders : (u.queues.get p).orders = (s.queues.get p).orders.filter fun o => !which o := by
    rw [(facts 0).1]
    simp
  have runs := judgeOrders_runs (p := p) u
  have left {o : Order} (mem : o ∈ (s.queues.get p).orders) (unnamed : which o = false) :
      o ∈ (u.queues.get p).orders := by
    rw [orders]
    exact List.mem_filter.mpr ⟨mem, by simp [unnamed]⟩
  have kept {o y : Order} (mem : o ∈ (u.queues.get p).orders) (other : y ∈ (u.queues.get p).orders)
      (running : activeOn o.line y = true) : o ∈ ((judgeOrders p u).queues.get p).orders := by
    have stays := judgeOrders_running (p := p) (l := o.line) (List.any_eq_true.mpr ⟨y, other, running⟩)
    have mine : o ∈ u.lineOrders p o.line := List.mem_filter.mpr ⟨mem, by simp⟩
    rw [← stays.orders] at mine
    exact (List.mem_filter.mp mine).1
  constructor
  · intro o mem named
    refine runs.mem ?_
    rw [(facts 0).2.1]
    exact List.mem_append_right _ (List.mem_map.mpr ⟨o, List.mem_filter.mpr ⟨mem, named⟩, rfl⟩)
  · intro o mem unnamed
    refine ⟨fun active => kept (left mem unnamed) (left mem unnamed)
      (activeOn_eq_true.mpr ⟨active, rfl⟩), fun ⟨y, other, running, free⟩ =>
        kept (left mem unnamed) (left other free) running, ?_⟩
    obtain ⟨o', mem', same⟩ | reported := runs.accounts o (left mem unnamed)
    · exact .inl ⟨o', mem', same.ordinal, same.source, same.line, same.count, same.mode⟩
    · exact .inr reported
  · intro o' mem'
    obtain ⟨o, mem, same⟩ := runs.origin o' mem'
    rw [orders] at mem
    obtain ⟨mem, unnamed⟩ := List.mem_filter.mp mem
    exact ⟨o, mem, by simpa using unnamed, same.ordinal, same.source, same.line, same.count,
      same.mode⟩
  · have turns := judgeOrders_turns (p := p) u
    rw [orders] at turns
    refine turnsTaken_congr (fun l => ?_) ?_ ?_ ?_ ?_ turns
    · rw [(facts l).2.2]
      exact ⟨rfl, rfl, rfl⟩
    all_goals simp [← is]
  · intro o mem named active
    refine judgeOrders_unowed ?_
    rw [(facts o.line).2.2]
    have there : ((s.queues.get p).orders.filter which).any (activeOn o.line) = true :=
      List.any_eq_true.mpr ⟨o, List.mem_filter.mpr ⟨mem, named⟩, activeOn_eq_true.mpr ⟨active, rfl⟩⟩
    simp [there]
  · intro l' running unnamed
    obtain ⟨y, mem, active⟩ := List.any_eq_true.mp running
    have stays := judgeOrders_running (p := p) (l := l') (s := u)
      (List.any_eq_true.mpr ⟨y, left mem (unnamed y mem active), active⟩)
    have none : ((s.queues.get p).orders.filter which).any (activeOn l') = false :=
      List.any_eq_false.mpr fun o mem active => by
        obtain ⟨mem, named⟩ := List.mem_filter.mp mem
        simp [unnamed o mem active] at named
    rw [stays.line, (facts l').2.2, none, Bool.not_false, Bool.and_true]
  · intro r ne
    rw [runs.queues r ne, (facts 0).1]
    exact Tab.get_upd_ne _ _ (Ne.symm ne)

end

/-- A notice row: the orders it names end, and the lines take their turns. -/
theorem notice_ends {c : Instr} {p : Platen} {which which' : Order → Bool} {st : EndStatus} {s : State}
    (runs : exec c s = .next (judgeOrders p (endOrders p which' st (s.takeUp c))))
    (same : which' = which) (plain : ∀ g, c ≠ .writeNotice g) :
    ∃ t, exec c s = .next t ∧ NoticeEnds p which st s t := by
  subst same
  have written : (s.takeUp c).written = s.written := by
    have none (x : WrittenEntry) : (c == .writeNotice (WrittenEntry.group x)) = false := by
      simpa using plain _
    simp [none]
  obtain ⟨ends, keeps, origin, turns, unowes, lines, others⟩ :=
    endOrders_judged (p := p) (which := which') (st := st) (s.takeUp c)
  exact ⟨_, runs, ends, keeps, origin,
    turnsTaken_congr (t := s.takeUp c) (fun _ => ⟨rfl, rfl, rfl⟩) rfl rfl written rfl turns, unowes, lines, others⟩

/-- Settles O38: each row ends the orders it names and lets the lines take their turns; an ESTOP
leaves none to take. -/
theorem noticesEndOrders : Obligations.NoticesEndOrders := by
  intro p h l s x mem
  have settled : ∃ t, exec x.1 s = .next t ∧ NoticeEnds p x.2.1 x.2.2 s t := by
    simp only [List.mem_cons, List.not_mem_nil, or_false] at mem
    rcases mem with rfl | rfl | rfl | rfl | rfl | rfl
    · exact notice_ends rfl (funext fun o => Bool.eq_iff_iff.mpr (by simp)) (by simp)
    · exact notice_ends rfl (funext fun o => Bool.eq_iff_iff.mpr (by simp)) (by simp)
    · refine notice_ends (Eq.symm ?_) rfl (by simp)
      refine congrArg Host.Outcome.next (judgeOrders_none_waiting fun y mem => ?_)
      rw [(endOrders_ends (l := 0) _).1] at mem
      simp at mem
    · exact notice_ends rfl (funext fun o => Bool.eq_iff_iff.mpr (by simp [activeOn, and_comm])) (by simp)
    · exact notice_ends rfl rfl (by simp)
    · exact notice_ends rfl (funext fun o => Bool.eq_iff_iff.mpr (by simp)) (by simp)
  obtain ⟨t, runs, ends, keeps, origin, turns, unowes, lines, others⟩ := settled
  exact ⟨t, runs, ends, keeps, origin, turns, unowes, lines, others⟩

end Sys2Proof.Machine
end

section
/-! PROOFS. Offered orders, and the triggers of cycle notices. -/

namespace Sys2Proof.Machine

open Sys2Proof

/-! ### Lines with no turn to take -/

/-- No order of line `l` waits for its turn. -/
def State.quiet (s : State) (p : Platen) (l : Line) : Prop :=
  (s.queues.get p).orders.any (queuedOn l) = true → (s.queues.get p).orders.any (activeOn l) = true

section
variable {p : Platen} {l : Line} {s t : State}

theorem any_queuedOn (os : List Order) :
    os.any (queuedOn l) = (os.filter fun o => o.line == l).any (!·.active) := by
  rw [List.any_filter]
  congr 1
  funext o
  exact Bool.and_comm _ _

theorem LineStays.quiet (stays : LineStays p l s t) (quiet : s.quiet p l) : t.quiet p l := by
  unfold State.quiet at *
  rwa [any_queuedOn, any_activeOn, ← lineOrders_eq, stays.orders, lineOrders_eq, ← any_queuedOn,
    ← any_activeOn]

theorem judgeLine_quiet (n : Nat) (quiet : s.quiet p l) : judgeLine p l n s = s :=
  judgeLine_of_none_waiting p l n s fun y mem waits =>
    List.any_eq_true.mp (quiet (List.any_eq_true.mpr ⟨y, mem, waits⟩))

theorem foldl_judgeLine_quiet (ls : List Line) (quiet : ∀ l ∈ ls, s.quiet p l) :
    ls.foldl (fun s l => judgeLine p l ((s.queues.get p).orders.length + 1) s) s = s := by
  induction ls with
  | nil => rfl
  | cons l ls ih =>
    rw [List.foldl_cons, judgeLine_quiet _ (quiet l List.mem_cons_self)]
    exact ih fun k mem => quiet k (List.mem_cons_of_mem l mem)

theorem judgeOrders_quiet (quiet : ∀ l, s.quiet p l) : judgeOrders p s = s :=
  foldl_judgeLine_quiet _ fun l _ => quiet l

/-- Where one line alone may have a turn to take, judging every line judges it. -/
theorem judgeOrders_one (quiet : ∀ l', l' ≠ l → s.quiet p l') :
    judgeOrders p s = judgeLine p l ((s.queues.get p).orders.length + 1) s := by
  unfold judgeOrders
  obtain ⟨before, after, is⟩ := List.append_of_mem (List.mem_finRange l)
  have nodup := is ▸ List.nodup_finRange 4
  have notBefore : l ∉ before := fun there => by
    simpa [there] using (List.nodup_cons.mp (List.nodup_middle.mp nodup)).1
  have notAfter : l ∉ after := fun there => by
    simpa [there] using (List.nodup_cons.mp (List.nodup_middle.mp nodup)).1
  rw [is, List.foldl_append, List.foldl_cons,
    foldl_judgeLine_quiet before fun k mem => quiet k fun same => notBefore (same ▸ mem)]
  refine foldl_judgeLine_quiet after fun k mem => ?_
  have ne : k ≠ l := fun same => notAfter (same ▸ mem)
  exact ((judgeLine_own _ s).others k ne).quiet (quiet k ne)

theorem judgeIfEnded_same {n : Nat} (same : n ≤ (s.queues.get p).orders.length) :
    judgeIfEnded p n s = s := if_neg (Nat.not_lt.mpr same)

theorem judgeIfEnded_ended {n : Nat} (fewer : (s.queues.get p).orders.length < n) :
    judgeIfEnded p n s = judgeOrders p s := if_pos fewer

theorem judgeIfEnded_quiet {n : Nat} (quiet : ∀ l, s.quiet p l) : judgeIfEnded p n s = s := by
  unfold judgeIfEnded
  split
  · exact judgeOrders_quiet quiet
  · rfl

end

/-! ### Offers -/

section
variable {p : Platen} {o : Offer} {s : State}

/-- The order that an offer makes. -/
def offered (p : Platen) (o : Offer) (s : State) : Order :=
  ⟨(s.queues.get p).nextOrdinal, o.source, o.line, o.count, o.mode, 0, false⟩

/-- The state as an offered order has joined the queue with `os` before it. -/
def State.joined (s : State) (p : Platen) (os : List Order) : State :=
  s.setQueue p ⟨os, (s.queues.get p).nextOrdinal + 1⟩

@[simp] theorem joined_orders (os : List Order) :
    ((s.joined p os).queues.get p).orders = os := by
  simp [State.joined]

theorem joined_onLine (l : Line) (os os' : List Order) (hs : List Instr) :
    (s.joined p os).onLine p l (s.lineOf p l) os' hs =
      { s.joined p os' with handed := s.handed ++ hs } := by
  simp [State.joined, State.onLine, State.lineOf, State.setQueue]

theorem offerOrder_declined
    (declined : o.source = .idleWet ∧ ∃ x ∈ (s.queues.get p).orders, x.source = .idleWet) :
    offerOrder p o s = s := by
  unfold offerOrder
  exact if_pos (by simpa using declined)

variable (goes : ¬(o.source = .idleWet ∧ ∃ x ∈ (s.queues.get p).orders, x.source = .idleWet))
include goes

theorem offerOrder_goes :
    offerOrder p o s =
      if s.functionActive .estop then raiseOrderDropped p 0 o s
      else if 8 ≤ (s.queues.get p).orders.length then raiseOrderDropped p 1 o s
      else judgeOrders p (s.joined p ((s.queues.get p).orders ++ [offered p o s])) := by
  unfold offerOrder
  exact if_neg (by simpa using goes)

variable (run : s.functionActive .estop = false) (room : (s.queues.get p).orders.length < 8)
  (quiet : ∀ l, s.quiet p l)
include run room quiet

/-- An offer on a platen where no line waits: its own line alone has a turn to take. -/
theorem offerOrder_judged :
    offerOrder p o s =
      judgeLine p o.line ((s.queues.get p).orders.length + 2)
        (s.joined p ((s.queues.get p).orders ++ [offered p o s])) := by
  rw [offerOrder_goes goes, if_neg (by simp [run]), if_neg (Nat.not_le.mpr room),
    judgeOrders_one (l := o.line) fun l ne => ?_]
  · simp
  · have own : offered p o s = offered p o s := rfl
    have stays : LineStays p l s (s.joined p ((s.queues.get p).orders ++ [offered p o s])) :=
      ⟨rfl, by simp [State.lineOrders, offered, Ne.symm ne]⟩
    exact stays.quiet (quiet l)

theorem offerOrder_queues (running : (s.queues.get p).orders.any (activeOn o.line) = true) :
    offerOrder p o s = s.joined p ((s.queues.get p).orders ++ [offered p o s]) := by
  rw [offerOrder_judged goes run room quiet, judgeLine_running]
  simp [running]

variable (free : (s.queues.get p).orders.any (activeOn o.line) = false)
include free

omit goes run room in
theorem offered_first :
    FirstOf (queuedOn o.line) ((s.queues.get p).orders ++ [offered p o s]) (s.queues.get p).orders
        (offered p o s) [] ∧
      ((s.queues.get p).orders ++ [offered p o s]).any (activeOn o.line) = false ∧
      ∀ y ∈ (s.queues.get p).orders, queuedOn o.line y = false := by
  have none : (s.queues.get p).orders.any (queuedOn o.line) = false := by
    by_contra waits
    have running := quiet o.line (by simpa using waits)
    simp [running] at free
  have each : ∀ y ∈ (s.queues.get p).orders, queuedOn o.line y = false := by simpa using none
  exact ⟨⟨by simp [queuedOn, offered], rfl, each⟩, by simpa [activeOn, offered] using free, each⟩

theorem offerOrder_ends {st : EndStatus} (stops : s.stops p o.line = some st) :
    offerOrder p o s =
      { s.joined p (s.queues.get p).orders with
        handed := s.handed ++ [orderEnded p st (offered p o s)] } := by
  obtain ⟨first, free, none⟩ := offered_first quiet free
  generalize is : s.joined p ((s.queues.get p).orders ++ [offered p o s]) = u
  have orders : (u.queues.get p).orders = (s.queues.get p).orders ++ [offered p o s] := by
    rw [← is, joined_orders]
  have stopsU : u.stops p o.line = some st := by
    rw [← stops, ← is]
    rfl
  rw [offerOrder_judged goes run room quiet, is,
    judgeLine_stops _ (by rw [orders]; exact free) (by rw [orders]; exact first) stopsU,
    judgeLine_empty _ (by simpa using none), ← is, List.append_nil]
  exact joined_onLine o.line _ _ _

/-- The state as an offered order has become ACTIVE. -/
def activated (p : Platen) (o : Offer) (s : State) : State :=
  s.joined p ((s.queues.get p).orders ++ [(offered p o s).begun])

omit goes run room in
theorem activated_first :
    FirstOf (activeOn o.line) ((activated p o s).queues.get p).orders (s.queues.get p).orders
      (offered p o s).begun [] := by
  obtain ⟨first, free, -⟩ := offered_first quiet free
  have begun := FirstOf.begun (s := s.joined p ((s.queues.get p).orders ++ [offered p o s]))
    (l := o.line) (by rw [joined_orders]; exact free) (by rw [joined_orders]; exact first)
  rw [activated, joined_orders]
  exact begun

variable (stops : s.stops p o.line = none)
include stops

theorem offerOrder_begins :
    offerOrder p o s =
      if o.mode = .burst ∧ (s.lineOf p o.line).ready = true then
        judgeLine p o.line ((s.queues.get p).orders.length + 1)
          (issueStroke p o.line (activated p o s))
      else activated p o s := by
  obtain ⟨first, free, none⟩ := offered_first quiet free
  have stopsU : (s.joined p ((s.queues.get p).orders ++ [offered p o s])).stops p o.line = .none :=
    stops
  have begun := judgeLine_begins ((s.queues.get p).orders.length + 1)
    (s := s.joined p ((s.queues.get p).orders ++ [offered p o s])) (by rw [joined_orders]; exact free)
    (by rw [joined_orders]; exact first) stopsU
  rw [offerOrder_judged goes run room quiet]
  refine begun.trans ?_
  have begins : (s.joined p ((s.queues.get p).orders ++ [offered p o s])).onLine p o.line
      ((s.joined p ((s.queues.get p).orders ++ [offered p o s])).lineOf p o.line)
      ((s.queues.get p).orders ++ [(offered p o s).begun]) [] = activated p o s :=
    (joined_onLine o.line _ _ []).trans (by rw [List.append_nil]; rfl)
  rw [begins]
  rfl

omit goes run room stops in
/-- A stroke of the order that has just become ACTIVE leaves no line waiting. -/
theorem issueStroke_activated_quiet (l : Line) :
    (issueStroke p o.line (activated p o s)).quiet p l := by
  have first := activated_first quiet free
  obtain ⟨-, -, none⟩ := offered_first quiet free
  have other (ne : l ≠ o.line) : (activated p o s).quiet p l := by
    have stays : LineStays p l s (activated p o s) :=
      ⟨rfl, by simp [State.lineOrders, activated, offered, Order.begun, Ne.symm ne]⟩
    exact stays.quiet (quiet l)
  by_cases ne : l = o.line
  · subst ne
    have calm : (s.queues.get p).orders.any (queuedOn o.line) = false := by simpa using none
    by_cases left : 0 < o.count
    · rw [issueStroke_runs first left]
      intro waits
      split_ifs at waits ⊢
      · simp [calm] at waits
      · simp [calm] at waits
      · simp [activeOn, Order.struck, Order.begun, offered]
    · rw [issueStroke_eq first.find, if_pos (by simpa [Order.begun, offered] using left)]
      intro _
      exact List.any_eq_true.mpr ⟨_, by simp [activated], first.is⟩
  · exact ((issueStroke_own _).others l ne).quiet (other ne)

theorem offerOrder_bursts (burst : o.mode = .burst) (ready : (s.lineOf p o.line).ready = true) :
    offerOrder p o s = issueStroke p o.line (activated p o s) ∧
      judgeIfEnded p ((activated p o s).occupancy p) (burstStroke p o.line (activated p o s)) =
        issueStroke p o.line (activated p o s) := by
  have calm := issueStroke_activated_quiet (p := p) quiet free
  have first := activated_first quiet free
  refine ⟨?_, ?_⟩
  · rw [offerOrder_begins goes run room quiet free stops, if_pos ⟨burst, ready⟩,
      judgeLine_quiet _ (calm o.line)]
  · have found : (activated p o s).activeOrder p o.line = some (offered p o s).begun := first.find
    have strokes : burstStroke p o.line (activated p o s) =
        issueStroke p o.line (activated p o s) := by
      unfold burstStroke
      simp only [found]
      exact if_pos ⟨burst, ready⟩
    rw [strokes, judgeIfEnded_quiet calm]

end

/-- Settles O37: an offer's checks in their order, then its own line's turn. -/
theorem offersAreJudged : Obligations.OffersAreJudged := by
  intro p o s t q line order dropped declined gate ended
  have runs : exec (.orderOffer p o) s = .next (offerOrder p o t) := rfl
  have written : t.written = s.written := by simp [t]
  refine ⟨fun is => ?_, fun goes stop => ?_, fun goes run full => ?_, fun goes run room quiet => ?_⟩
  · exact congrArg Host.Outcome.next (offerOrder_declined (s := t) is)
  · refine congrArg Host.Outcome.next ((offerOrder_goes (s := t) goes).trans (if_pos stop))
  · exact congrArg Host.Outcome.next ((offerOrder_goes (s := t) goes).trans
      ((if_neg (ne_true_of_eq_false run)).trans (if_pos full)))
  · have idle : ∀ l, t.quiet p l := quiet
    have gateT : gate ↔ (t.verifier.vbr = true →
        t.verifier.line.state = .verified ∧ .line (lineIx p o.line) ∉ t.written) := by
      rw [written]
      rfl
    refine ⟨fun running => ?_, fun free off => ?_, fun free valid enabled low => ?_,
      fun free valid enabled full shut => ?_, fun free valid enabled full open_ => ?_⟩
    · exact congrArg Host.Outcome.next (offerOrder_queues (s := t) goes run room idle running)
    · exact congrArg Host.Outcome.next (offerOrder_ends (s := t) goes run room idle free
        (stops_disabled off))
    · exact congrArg Host.Outcome.next (offerOrder_ends (s := t) goes run room idle free
        (stops_low ⟨valid, enabled⟩ low))
    · exact congrArg Host.Outcome.next (offerOrder_ends (s := t) goes run room idle free
        (stops_gated ⟨valid, enabled⟩ (ne_true_of_eq_false full) (gateT.not.mp shut)))
    · have goesOn : t.stops p o.line = none :=
        stops_none ⟨valid, enabled⟩ (ne_true_of_eq_false full) (gateT.mp open_)
      have begins := offerOrder_begins (s := t) goes run room idle free goesOn
      have first := activated_first (s := t) idle free
      refine ⟨fun still => ?_, fun burst ready => ?_⟩
      · refine congrArg Host.Outcome.next (begins.trans (if_neg fun ⟨burst, ready⟩ => ?_))
        have due : line.config.strokePeriod ≤ line.elapsed := of_decide_eq_true ready
        rcases still with single | slow
        · simp [single] at burst
        · omega
      · obtain ⟨is, once⟩ := offerOrder_bursts (s := t) goes run room idle free goesOn burst
          (decide_eq_true ready)
        refine ⟨issueStroke p o.line (activated p o t), congrArg Host.Outcome.next is,
          fun fresh => ?_, fun some => ?_, fun shut more => ?_, fun shut last => ?_⟩
        · have same : (activated p o t).takeUp (.burstStroke p o.line) = activated p o t :=
            takeUp_of_not_mem fresh
          refine congrArg Host.Outcome.next (Eq.trans ?_ once)
          exact congrArg (fun u : State =>
            judgeIfEnded p (u.occupancy p) (burstStroke p o.line u)) same
        · rw [issueStroke_runs first some]
          refine ⟨?_, ?_, ?_⟩
          · split_ifs <;> rfl
          · split_ifs <;> rw [onLine_lineOf] <;> rfl
          · split_ifs <;> rw [onLine_lineOf] <;> rfl
        · have below : ((activated p o t).lineOf p o.line).missReaches = false := by
            have open_ : ((activated p o t).lineOf p o.line).window = none := shut
            simp [LineState.missReaches, open_]
          have left : (offered p o t).begun.strokes < (offered p o t).begun.count :=
            (Nat.lt_of_succ_lt more : 0 < o.count)
          have goes : ¬(offered p o t).begun.strokes + 1 = (offered p o t).begun.count := by
            have apart : 0 + 1 ≠ o.count := by omega
            exact apart
          rw [issueStroke_runs first left, if_neg (by simp [below]), if_neg goes, onLine_orders]
          rfl
        · have below : ((activated p o t).lineOf p o.line).missReaches = false := by
            have open_ : ((activated p o t).lineOf p o.line).window = none := shut
            simp [LineState.missReaches, open_]
          have left : (offered p o t).begun.strokes < (offered p o t).begun.count :=
            (by omega : 0 < o.count)
          have ends : (offered p o t).begun.strokes + 1 = (offered p o t).begun.count := last.symm
          rw [issueStroke_runs first left, if_neg (by simp [below]), if_pos ends]
          refine ⟨by rw [onLine_orders, List.append_nil]; rfl, ?_⟩
          exact List.mem_append_right _ (List.mem_append_right _ (List.mem_singleton.mpr rfl))

end Sys2Proof.Machine
end

section
/-! PROOFS. The triggers of cycle notices. -/

namespace Sys2Proof.Machine

open Sys2Proof

/-! ### A queue with the orders of one line -/

/-- Every order of platen `p`'s queue is of line `l`. -/
def State.allOn (s : State) (p : Platen) (l : Line) : Prop := ∀ o ∈ (s.queues.get p).orders, o.line = l

section
variable {p : Platen} {l : Line} {s t : State}

theorem EngineRuns.allOn (run : EngineRuns p s t) (all : s.allOn p l) : t.allOn p l := fun o' mem' => by
  obtain ⟨o, mem, same⟩ := run.origin o' mem'
  exact same.line.trans (all o mem)

theorem lineOrders_allOn (all : s.allOn p l) : s.lineOrders p l = (s.queues.get p).orders :=
  List.filter_eq_self.mpr fun o mem => by simp [all o mem]

theorem activeOrder_other (all : s.allOn p l) {k : Line} (ne : k ≠ l) : s.activeOrder p k = none :=
  List.find?_eq_none.mpr fun o mem => by simp [activeOn, all o mem, Ne.symm ne]

/-- A queue whose only order, if it has one, is ACTIVE. -/
theorem quiet_of_running (running : ∀ o ∈ (s.queues.get p).orders, o.active = true) (l : Line) :
    s.quiet p l := fun waits => by
  obtain ⟨o, mem, waiting⟩ := List.any_eq_true.mp waits
  simp [queuedOn, running o mem] at waiting

/-! ### A line's trigger -/

theorem burstStroke_own (s : State) : OwnLine p l s (burstStroke p l s) := by
  unfold burstStroke
  (repeat' split)
  · exact .refl s
  · exact issueStroke_own s
  · exact .refl s

theorem triggerLine_own (h : Head) (s : State) : OwnLine p l s (triggerLine p h s l) := by
  unfold triggerLine
  dsimp only
  (repeat' split)
  · exact .refl s
  · exact .refl s
  · exact issueStroke_own s
  · exact .set _
  · exact .refl s

/-- With the orders of one line alone, a cycle notice triggers that line. -/
theorem triggerLines_one (h : Head) (all : s.allOn p l) :
    (List.finRange 4).foldl (triggerLine p h) s = triggerLine p h s l := by
  have others (ls : List Line) (no : l ∉ ls) (u : State) (all : u.allOn p l) :
      ls.foldl (triggerLine p h) u = u := by
    induction ls with
    | nil => rfl
    | cons k ls ih =>
      obtain ⟨ne, no⟩ := not_or.mp (List.mem_cons.not.mp no)
      have still : triggerLine p h u k = u := by
        simp only [triggerLine, activeOrder_other all (Ne.symm ne)]
      rw [List.foldl_cons, still]
      exact ih no
  obtain ⟨before, after, is⟩ := List.append_of_mem (List.mem_finRange l)
  have nodup := is ▸ List.nodup_finRange 4
  have notBefore : l ∉ before := fun there => by
    simpa [there] using (List.nodup_cons.mp (List.nodup_middle.mp nodup)).1
  have notAfter : l ∉ after := fun there => by
    simpa [there] using (List.nodup_cons.mp (List.nodup_middle.mp nodup)).1
  rw [is, List.foldl_append, List.foldl_cons, others before notBefore s all,
    others after notAfter _ ((triggerLine_own h s).runs.allOn all)]

end

/-! ### A cycle notice from the docked head -/

section
variable {p : Platen} {h : Head} {s : State} {o : Order}

/-- A trigger that no order counts, of the docked head. -/
theorem cycleNoticeAt_reloads (docked : (s.docks.get p).docked = some h)
    (still : (List.finRange 4).foldl (triggerLine p h) s = s) :
    cycleNoticeAt p h s = reloadIdle p s := by
  rw [cycleNoticeAt, if_pos docked]
  dsimp only
  rw [still, judgeIfEnded_same (n := s.occupancy p) (Nat.le_refl _)]

theorem single_first {os : List Order} (orders : os = [o]) (active : o.active = true) :
    FirstOf (activeOn o.line) os [] o [] :=
  ⟨activeOn_eq_true.mpr ⟨active, rfl⟩, orders, by simp⟩

variable (docked : (s.docks.get p).docked = some h) (orders : (s.queues.get p).orders = [o])
  (active : o.active = true)
include orders active

theorem triggerLines_single :
    (List.finRange 4).foldl (triggerLine p h) s = 
      if o.mode = .single ∧ (o.source = .step h ∨ o.source = .direct) then
        if (s.lineOf p o.line).owed then s
        else if (s.lineOf p o.line).ready then issueStroke p o.line s
        else s.setLineOf p o.line { s.lineOf p o.line with owed := true }
      else s := by
  have found : s.activeOrder p o.line = some o := (single_first orders active).find
  rw [triggerLines_one (l := o.line) h fun x mem => by simp_all]
  simp only [triggerLine, found]

include docked

theorem cycleNoticeAt_single :
    cycleNoticeAt p h s =
      reloadIdle p (judgeIfEnded p 1
        (if o.mode = .single ∧ (o.source = .step h ∨ o.source = .direct) then
          if (s.lineOf p o.line).owed then s
          else if (s.lineOf p o.line).ready then issueStroke p o.line s
          else s.setLineOf p o.line { s.lineOf p o.line with owed := true }
        else s)) := by
  rw [← triggerLines_single orders active, cycleNoticeAt, if_pos docked]
  simp [State.occupancy, orders]

variable (counts : o.mode = .single ∧ (o.source = .step h ∨ o.source = .direct))
include counts

theorem cycleNoticeAt_strokes (free : (s.lineOf p o.line).owed = false)
    (ready : (s.lineOf p o.line).ready = true) :
    cycleNoticeAt p h s = reloadIdle p (issueStroke p o.line s) := by
  rw [cycleNoticeAt_single docked orders active, if_pos counts, if_neg (by simp [free]),
    if_pos ready, judgeIfEnded_quiet]
  refine quiet_of_running fun y mem => ?_
  have first := single_first orders active
  by_cases left : o.strokes < o.count
  · rw [issueStroke_runs first left] at mem
    split_ifs at mem <;> simp_all [Order.struck]
  · rw [issueStroke_eq first.find, if_pos (Nat.le_of_not_lt left), orders] at mem
    simp_all

end

/-- Settles O40: by the docked head, the queue, and what the one order counts. -/
theorem cycleNoticesTrigger : Obligations.CycleNoticesTrigger := by
  intro p h s t reloaded
  have runs : exec (.cycleNotice p h) s = .next (cycleNoticeAt p h t) := rfl
  refine ⟨fun other => ?_, fun docked none => ?_, ?_⟩
  · exact congrArg Host.Outcome.next (if_neg other)
  · refine congrArg Host.Outcome.next (cycleNoticeAt_reloads (s := t) docked ?_)
    rw [triggerLines_one (l := 0) h fun x mem => by simp [show (t.queues.get p).orders = [] from none] at mem]
    simp [triggerLine, State.activeOrder, show (t.queues.get p).orders = [] from none]
  intro o docked orders active x
  refine ⟨fun single source => ?_, fun uncounted => ?_⟩
  · have one := cycleNoticeAt_single (s := t) docked orders active
    have line : t.lineOf p o.line = x := rfl
    have length : (t.queues.get p).orders.length = 1 := congrArg List.length orders
    rw [if_pos ⟨single, source⟩, line] at one
    have first : FirstOf (activeOn o.line) (t.queues.get p).orders [] o [] :=
      single_first orders active
    refine ⟨fun owed => ?_, fun free slow => ?_, fun free due left => ?_,
      fun free due left credited => ?_⟩
    · refine congrArg Host.Outcome.next (one.trans ?_)
      rw [if_pos owed, judgeIfEnded_same length.ge]
      rfl
    · refine congrArg Host.Outcome.next (one.trans ?_)
      rw [if_neg (ne_true_of_eq_false free), if_neg (by simpa [LineState.ready] using slow)]
      exact congrArg (reloadIdle p)
        (judgeIfEnded_same (s := t.setLineOf p o.line { x with owed := true }) length.ge)
    · refine ⟨_, congrArg Host.Outcome.next (cycleNoticeAt_strokes (s := t) docked orders active
        ⟨single, source⟩ free (decide_eq_true due)), ?_⟩
      rw [issueStroke_runs first left]
      split_ifs <;> rfl
    · have calm : x.missed = false := by
        unfold LineState.missed
        cases open_ : x.window with
        | none => rfl
        | some w => simp [credited w open_]
      have below : ¬(t.lineOf p o.line).missReaches = true := fun reaches => by
        have missed : x.missed = true := ((missReaches_iff _).mp reaches).1
        simp [calm] at missed
      have closed : (t.lineOf p o.line).closed.miss = x.miss :=
        if_neg (ne_true_of_eq_false calm)
      have reload : reloadHands p o = [.idleTimerReload p] := if_neg (by
        rcases source with is | is <;> simp [is])
      refine congrArg Host.Outcome.next ((cycleNoticeAt_strokes (s := t) docked orders active
        ⟨single, source⟩ free (decide_eq_true due)).trans ?_)
      rw [issueStroke_runs first (Nat.lt_of_succ_lt left), if_neg below, if_neg (by omega), closed,
        reload]
      rfl
  · have one := cycleNoticeAt_single (s := t) docked orders active
    rw [if_neg] at one
    · refine congrArg Host.Outcome.next (one.trans ?_)
      exact congrArg (reloadIdle p) (judgeIfEnded_same (s := t) (congrArg List.length orders).ge)
    · rintro ⟨single, source⟩
      rcases uncounted with burst | wet | ⟨h', other, ne⟩
      · simp [burst] at single
      · simp [wet] at source
      · simp [other, ne] at source

end Sys2Proof.Machine
end

section
/-! PROOFS. The tick at a dispense engine, followed at one line. -/

namespace Sys2Proof.Machine

open Sys2Proof

section
variable {p : Platen} {l : Line} {s : State}

/-! ### What a line's tick leaves of the others -/

theorem tickWindow_own (s : State) : OwnLine p l s (tickWindow p l s) := by
  unfold tickWindow
  dsimp only
  (repeat' split)
  · exact .refl s
  · exact closeWindow_own s
  · exact .set _

theorem owedStroke_own (s : State) : OwnLine p l s (owedStroke p l s) := by
  unfold owedStroke
  dsimp only
  split
  · exact (OwnLine.set _).trans (issueStroke_own _)
  · exact .refl s

theorem tickLine_own (s : State) (l : Line) : OwnLine p l s (tickLine p s l) :=
  (OwnLine.set _).trans ((tickWindow_own _).trans ((burstStroke_own _).trans (owedStroke_own _)))

/-- A line with no turn to take stays as the lines take theirs. -/
theorem judgeOrders_quiet_line (quiet : s.quiet p l) : LineStays p l s (judgeOrders p s) := by
  obtain ⟨u, -, stays, -, kept⟩ := foldl_lines (p := p)
    (fun s l => judgeLine_own (p := p) ((s.queues.get p).orders.length + 1) s) l s
  rw [judgeLine_quiet _ (stays.quiet quiet)] at kept
  exact stays.trans kept

theorem judgeIfEnded_runs (n : Nat) (s : State) : EngineRuns p s (judgeIfEnded p n s) := by
  unfold judgeIfEnded
  split
  · exact judgeOrders_runs s
  · exact .refl s

theorem judgeIfEnded_quiet_line {n : Nat} (quiet : s.quiet p l) :
    LineStays p l s (judgeIfEnded p n s) := by
  unfold judgeIfEnded
  split
  · exact judgeOrders_quiet_line quiet
  · exact .refl s

/-- Where line `l` takes its tick: the lines before it, and those after it with the turns that follow,
leave it. -/
theorem tickDispense_line (s : State) (p : Platen) (l : Line) :
    ∃ v, EngineRuns p s v ∧ LineStays p l s v ∧ EngineRuns p (tickLine p v l) (tickDispense s p) ∧
      ((tickLine p v l).quiet p l → LineStays p l (tickLine p v l) (tickDispense s p)) := by
  obtain ⟨v, runs, stays, after, kept⟩ := foldl_lines (tickLine_own (p := p)) l s
  refine ⟨v, runs, stays, after.trans (judgeIfEnded_runs _ _), fun quiet => ?_⟩
  exact kept.trans (judgeIfEnded_quiet_line (kept.quiet quiet))

theorem tickDispense_runs (s : State) (p : Platen) : EngineRuns p s (tickDispense s p) := by
  obtain ⟨v, before, -, after, -⟩ := tickDispense_line s p 0
  exact before.trans ((tickLine_own v 0).runs.trans after)

/-! ### One platen's engine -/

/-- Platen `p`'s lines and orders are as they were, and no pump actuation is lost. -/
structure PlatenStays (p : Platen) (s t : State) : Prop where
  lines : ∀ l, t.lineOf p l = s.lineOf p l
  queue : t.queues.get p = s.queues.get p
  pumped : ∃ b, t.pumpOut = s.pumpOut ++ b

namespace PlatenStays

variable {t u : State}

theorem of_same (lines : t.lines = s.lines) (queues : t.queues = s.queues)
    (pumpOut : t.pumpOut = s.pumpOut) : PlatenStays p s t :=
  ⟨fun l => by simp [State.lineOf, lines], by rw [queues], [], by simp [pumpOut]⟩

theorem trans (first : PlatenStays p s t) (second : PlatenStays p t u) : PlatenStays p s u := by
  obtain ⟨⟨a, isA⟩, ⟨b, isB⟩⟩ := And.intro first.pumped second.pumped
  exact ⟨fun l => (second.lines l).trans (first.lines l), second.queue.trans first.queue,
    a ++ b, by rw [isB, isA, List.append_assoc]⟩

theorem of_runs {r : Platen} (ne : p ≠ r) (run : EngineRuns r s t) : PlatenStays p s t :=
  ⟨run.elsewhere p ne, run.queues p ne, run.pumped⟩

end PlatenStays

theorem foldl_tickDispense_ne (ps : List Platen) (no : p ∉ ps) (s : State) :
    PlatenStays p s (ps.foldl tickDispense s) := by
  induction ps generalizing s with
  | nil => exact .of_same rfl rfl rfl
  | cons r ps ih =>
    obtain ⟨ne, no⟩ := not_or.mp (List.mem_cons.not.mp no)
    exact (PlatenStays.of_runs ne (tickDispense_runs s r)).trans (ih no _)

/-- Where platen `p`'s engine takes its tick: the other blocks leave it. -/
theorem tickBlocks_dispense (s : State) (p : Platen) :
    ∃ u, PlatenStays p s u ∧ PlatenStays p (tickDispense u p) (tickBlocks s) ∧
      ∀ c ∈ (tickDispense u p).handed, c ∈ (tickBlocks s).handed := by
  obtain ⟨before, after, is⟩ := List.append_of_mem (List.mem_finRange p)
  have nodup := is ▸ List.nodup_finRange 3
  have notBefore : p ∉ before := fun there => by
    simpa [there] using (List.nodup_cons.mp (List.nodup_middle.mp nodup)).1
  have notAfter : p ∉ after := fun there => by
    simpa [there] using (List.nodup_cons.mp (List.nodup_middle.mp nodup)).1
  have first : PlatenStays p s s.filtersTicked :=
    .of_same (by simp [State.filtersTicked, foldl_leaves State.lines])
      (by simp [State.filtersTicked, foldl_leaves State.queues])
      (by simp [State.filtersTicked, foldl_leaves State.pumpOut])
  have split : (List.finRange 3).foldl tickDispense s.filtersTicked =
      after.foldl tickDispense (tickDispense (before.foldl tickDispense s.filtersTicked) p) := by
    rw [is, List.foldl_append, List.foldl_cons]
  rw [tickBlocks_eq, split]
  refine ⟨_, first.trans (foldl_tickDispense_ne before notBefore _),
    (foldl_tickDispense_ne after notAfter _).trans (.of_same ?_ ?_ ?_), fun c mem => ?_⟩
  · simp [foldl_leaves State.lines]
  · simp [foldl_leaves State.queues]
  · simp [foldl_leaves State.pumpOut]
  · generalize tickDispense (before.foldl tickDispense s.filtersTicked) p = v at mem ⊢
    have rest : c ∈ (after.foldl tickDispense v).handed :=
      (Hands.foldl tickDispense_hands after (.refl v)).mem mem
    exact (tickConds_hands (after.foldl tickDispense v)).mem rest

/-! ### A line's own tick -/

/-- The line with its elapsed time counted on (R100). -/
def LineState.elapse (x : LineState) : LineState := { x with elapsed := min (x.elapsed + 1) 2000 }

/-- The line with its flow window counted on, with no order running (R103, R104). -/
def LineState.windowTicked (x : LineState) : LineState :=
  { x with
    window :=
      match x.window with
      | some w => if w.remaining ≤ 1 then none else some { w with remaining := w.remaining - 1 }
      | none => none
    miss :=
      match x.window with
      | some w =>
        if 1 < w.remaining ∨ w.credited = true then x.miss
        else if x.miss + 1 < x.config.missLimit then x.miss + 1
        else 0
      | none => x.miss }

theorem windowTicked_shut {x : LineState} (shut : x.window = none) : x.windowTicked = x := by
  obtain ⟨config, elapsed, owed, window, miss, delivered⟩ := x
  subst shut
  rfl

theorem windowTicked_open {x : LineState} {w : FlowWindow} (open_ : x.window = some w) :
    x.windowTicked =
      if w.remaining ≤ 1 then
        { x.closed with miss := if x.missReaches then 0 else x.closed.miss }
      else { x with window := some { w with remaining := w.remaining - 1 } } := by
  obtain ⟨config, elapsed, owed, window, miss, delivered⟩ := x
  subst open_
  unfold LineState.windowTicked LineState.closed LineState.missReaches LineState.missed
  obtain ⟨n, credited⟩ := w
  dsimp only
  by_cases ends : n ≤ 1
  · rw [if_pos ends, if_pos ends]
    cases credited with
    | true => simp
    | false =>
      by_cases limit : config.missLimit ≤ miss + 1
      · simp [Nat.not_lt.mpr limit, limit, Nat.not_lt.mpr ends]
      · simp [Nat.not_le.mp limit, limit, Nat.not_lt.mpr ends]
  · rw [if_neg ends, if_neg ends, if_pos (Or.inl (Nat.not_le.mp ends))]

theorem burstStroke_idle (none : ∀ y ∈ (s.queues.get p).orders, activeOn l y = false) :
    burstStroke p l s = s := by
  have found : s.activeOrder p l = .none :=
    List.find?_eq_none.mpr fun y mem => by simp [none y mem]
  simp only [burstStroke, found]

theorem owedStroke_unowed (un : (s.lineOf p l).owed = false) : owedStroke p l s = s :=
  if_neg fun ⟨owed, _⟩ => by simp [un] at owed

theorem tickWindow_shut (shut : (s.lineOf p l).window = none) : tickWindow p l s = s := by
  simp only [tickWindow, shut]

/-- The window of a line that runs no order, on a tick. -/
theorem tickWindow_idle (none : ∀ y ∈ (s.queues.get p).orders, activeOn l y = false) :
    ∃ hs, tickWindow p l s =
        s.onLine p l (s.lineOf p l).windowTicked (s.queues.get p).orders hs ∧
      ((∃ w, (s.lineOf p l).window = some w ∧ w.remaining ≤ 1 ∧ w.credited = false ∧
          (s.lineOf p l).config.missLimit ≤ (s.lineOf p l).miss + 1) →
        .eventRaise .flowFault (.line (lineIx p l)) 0xFFFF#16
          (w16 (flowActionCode (s.lineOf p l).config.flowAction)) ∈ hs) := by
  cases open_ : (s.lineOf p l).window with
  | none =>
    refine ⟨[], ?_, fun ⟨w, is, _⟩ => by simp at is⟩
    rw [tickWindow_shut open_]
    rw [windowTicked_shut open_, onLine_same]
  | some w =>
    have ticks : tickWindow p l s =
        if w.remaining ≤ 1 then closeWindow p l s
        else s.setLineOf p l
          { s.lineOf p l with window := some { w with remaining := w.remaining - 1 } } := by
      simp only [tickWindow, open_]
    rw [windowTicked_open open_, ticks]
    by_cases ends : w.remaining ≤ 1
    · rw [if_pos ends, if_pos ends]
      cases reaches : (s.lineOf p l).missReaches with
      | false =>
        rw [closeWindow_below reaches, setLineOf_eq]
        refine ⟨[], rfl, fun ⟨w', is, _, un, limit⟩ => ?_⟩
        have late : (s.lineOf p l).missReaches = true := by
          simp_all [LineState.missReaches]
        simp [reaches] at late
      | true =>
        rw [closeWindow_reaches reaches, setLineOf_eq, flowFault_idle (by simpa using none),
          onLine_onLine, onLine_orders, onLine_lineOf]
        exact ⟨_, rfl, fun _ => List.mem_cons_self⟩
    · rw [if_neg ends, if_neg ends, setLineOf_eq]
      refine ⟨[], rfl, fun ⟨w', is, less, _⟩ => absurd ?_ ends⟩
      rwa [Option.some_injective _ is]

end

end Sys2Proof.Machine
end

section
/-! PROOFS. Strokes and the flow check. -/

namespace Sys2Proof.Machine

open Sys2Proof

section
variable {p : Platen} {l : Line} {s : State} {older younger : List Order} {o : Order}

/-! ### A stroke that is due, by its row -/

theorem burstStroke_due (first : FirstOf (activeOn l) (s.queues.get p).orders older o younger)
    (burst : o.mode = .burst) (ready : (s.lineOf p l).ready = true) :
    burstStroke p l s = issueStroke p l s := by
  have found : s.activeOrder p l = some o := first.find
  simp only [burstStroke, found]
  exact if_pos ⟨burst, ready⟩

theorem burstStroke_rests (first : FirstOf (activeOn l) (s.queues.get p).orders older o younger)
    (rests : o.mode = .single ∨ (s.lineOf p l).ready = false) : burstStroke p l s = s := by
  have found : s.activeOrder p l = some o := first.find
  simp only [burstStroke, found]
  refine if_neg fun ⟨burst, ready⟩ => ?_
  rcases rests with single | un
  · simp [single] at burst
  · simp [un] at ready

theorem burstStroke_unready (un : (s.lineOf p l).ready = false) : burstStroke p l s = s := by
  unfold burstStroke
  split
  · rfl
  · exact if_neg fun ⟨_, ready⟩ => by simp [un] at ready

theorem owedStroke_due (owed : (s.lineOf p l).owed = true) (ready : (s.lineOf p l).ready = true) :
    owedStroke p l s = issueStroke p l (s.setLineOf p l { s.lineOf p l with owed := false }) :=
  if_pos ⟨owed, ready⟩

theorem owedStroke_unready (un : (s.lineOf p l).ready = false) : owedStroke p l s = s :=
  if_neg fun ⟨_, ready⟩ => by simp [un] at ready

/-- A line before its stroke, its owed mark aside. -/
def strokeFrom (p : Platen) (l : Line) (owed : Bool) (s : State) : State :=
  s.onLine p l { s.lineOf p l with owed := owed } (s.queues.get p).orders []

/-- A stroke and the turns that follow from an order's end (R100, R99). -/
theorem stroke_judged (first : FirstOf (activeOn l) (s.queues.get p).orders older o younger)
    (left : o.strokes < o.count) (owed : Bool) :
    judgeIfEnded p (s.occupancy p) (issueStroke p l (strokeFrom p l owed s)) =
      if (s.lineOf p l).missReaches = true then
        judgeOrders p ((s.pumped p l).onLine p l ((s.lineOf p l).struck 0 false) (older ++ younger)
          (reloadHands p o ++ orderEnded p .flowFault o.struck ::
            faultHands p l (w16 o.ordinal.toNat) (s.lineOf p l).config.flowAction
              (s.docks.get p).docked))
      else if o.strokes + 1 = o.count then
        judgeOrders p ((s.pumped p l).onLine p l
          ((s.lineOf p l).struck (s.lineOf p l).closed.miss false)
          (older ++ younger) (reloadHands p o ++ [orderEnded p .done o.struck]))
      else
        (s.pumped p l).onLine p l ((s.lineOf p l).struck (s.lineOf p l).closed.miss owed)
          (older ++ o.struck :: younger) (reloadHands p o) := by
  have occupancy : s.occupancy p = (older ++ o :: younger).length := congrArg List.length first.split
  have firstFrom : FirstOf (activeOn l) ((strokeFrom p l owed s).queues.get p).orders older o younger := by
    rw [strokeFrom, onLine_orders]
    exact first
  have reaches : ((strokeFrom p l owed s).lineOf p l).missReaches = (s.lineOf p l).missReaches := by
    rw [strokeFrom, onLine_lineOf]
    rfl
  rw [issueStroke_runs firstFrom left, reaches]
  have from_ (y : LineState) (os : List Order) (hs : List Instr) :
      ((strokeFrom p l owed s).pumped p l).onLine p l y os hs = (s.pumped p l).onLine p l y os hs := by
    have swap : (strokeFrom p l owed s).pumped p l =
        (s.pumped p l).onLine p l { s.lineOf p l with owed := owed } (s.queues.get p).orders [] := rfl
    rw [swap, onLine_onLine, List.nil_append]
  simp only [from_]
  have line : (strokeFrom p l owed s).lineOf p l = { s.lineOf p l with owed := owed } := by
    rw [strokeFrom, onLine_lineOf]
  rw [line]
  split_ifs
  · exact judgeIfEnded_ended (by rw [onLine_orders, occupancy]; simp)
  · exact judgeIfEnded_ended (by rw [onLine_orders, occupancy]; simp)
  · exact judgeIfEnded_same (by rw [onLine_orders, occupancy]; simp)

theorem strokeFrom_same : strokeFrom p l (s.lineOf p l).owed s = s := onLine_same s p l

/-! ### A stroke on a tick -/

/-- The tick of a line whose only order makes a stroke. -/
theorem tickLine_strokes (first : FirstOf (activeOn l) (s.queues.get p).orders older o younger)
    (shut : (s.lineOf p l).window = none)
    (ready : (s.lineOf p l).config.strokePeriod ≤ min ((s.lineOf p l).elapsed + 1) 2000)
    (due : (o.mode = .burst ∧ (s.lineOf p l).owed = false) ∨
      (o.mode = .single ∧ (s.lineOf p l).owed = true)) :
    tickLine p s l =
      issueStroke p l (s.onLine p l { (s.lineOf p l).elapse with owed := false }
        (s.queues.get p).orders []) := by
  have elapsed : s.setLineOf p l (s.lineOf p l).elapse =
      s.onLine p l (s.lineOf p l).elapse (s.queues.get p).orders [] := setLineOf_eq ..
  have ticks : tickLine p s l =
      owedStroke p l (burstStroke p l (tickWindow p l (s.setLineOf p l (s.lineOf p l).elapse))) := rfl
  rw [ticks, elapsed, tickWindow_shut (by rw [onLine_lineOf]; exact shut)]
  have isFirst : FirstOf (activeOn l) ((s.onLine p l (s.lineOf p l).elapse (s.queues.get p).orders
      []).queues.get p).orders older o younger := by
    rw [onLine_orders]
    exact first
  have isReady : ((s.onLine p l (s.lineOf p l).elapse (s.queues.get p).orders []).lineOf p l).ready =
      true := by
    rw [onLine_lineOf]
    exact decide_eq_true ready
  rcases due with ⟨burst, un⟩ | ⟨single, owed⟩
  · have same : { (s.lineOf p l).elapse with owed := false } = (s.lineOf p l).elapse := by
      rw [← un]
      rfl
    rw [burstStroke_due isFirst burst isReady, owedStroke_unowed, same]
    exact issueStroke_unowed (by rw [onLine_lineOf]; exact un)
  · rw [burstStroke_rests isFirst (.inl single),
      owedStroke_due (by rw [onLine_lineOf]; exact owed) isReady, setLineOf_eq, onLine_onLine,
      onLine_lineOf, onLine_orders]
    rfl

theorem missReaches_shut {x : LineState} (shut : x.window = none) : x.missReaches = false := by
  simp [LineState.missReaches, shut]

theorem closed_miss_shut {x : LineState} (shut : x.window = none) : x.closed.miss = x.miss :=
  if_neg (by simp [LineState.missed, shut])

theorem tickLine_struck (first : FirstOf (activeOn l) (s.queues.get p).orders older o younger)
    (left : o.strokes < o.count) (shut : (s.lineOf p l).window = none)
    (ready : (s.lineOf p l).config.strokePeriod ≤ min ((s.lineOf p l).elapsed + 1) 2000)
    (due : (o.mode = .burst ∧ (s.lineOf p l).owed = false) ∨
      (o.mode = .single ∧ (s.lineOf p l).owed = true)) :
    tickLine p s l =
      if o.strokes + 1 = o.count then
        (s.pumped p l).onLine p l ((s.lineOf p l).struck (s.lineOf p l).miss false)
          (older ++ younger) (reloadHands p o ++ [orderEnded p .done o.struck])
      else
        (s.pumped p l).onLine p l ((s.lineOf p l).struck (s.lineOf p l).miss false)
          (older ++ o.struck :: younger) (reloadHands p o) := by
  rw [tickLine_strokes first shut ready due]
  generalize is : ({ (s.lineOf p l).elapse with owed := false } : LineState) = y
  have shutY : y.window = none := by
    rw [← is]
    exact shut
  have struck (miss : Nat) : y.struck miss false = (s.lineOf p l).struck miss false := by
    rw [← is]
    rfl
  have missY : y.miss = (s.lineOf p l).miss := by
    rw [← is]
    rfl
  have unowed : y.owed = false := by
    rw [← is]
  have firstY : FirstOf (activeOn l) ((s.onLine p l y (s.queues.get p).orders []).queues.get p).orders
      older o younger := by
    rw [onLine_orders]
    exact first
  have from_ (z : LineState) (os : List Order) (hs : List Instr) :
      ((s.onLine p l y (s.queues.get p).orders []).pumped p l).onLine p l z os hs =
        (s.pumped p l).onLine p l z os hs := by
    have swap : (s.onLine p l y (s.queues.get p).orders []).pumped p l =
        (s.pumped p l).onLine p l y (s.queues.get p).orders [] := rfl
    rw [swap, onLine_onLine, List.nil_append]
  rw [issueStroke_runs firstY left, onLine_lineOf, if_neg (by simp [missReaches_shut shutY])]
  simp only [from_, closed_miss_shut shutY, unowed, struck, missY]

/-- The tick of a line with no stroke due and its window closed. -/
theorem tickLine_rests (first : FirstOf (activeOn l) (s.queues.get p).orders older o younger)
    (shut : (s.lineOf p l).window = none)
    (rests : min ((s.lineOf p l).elapsed + 1) 2000 < (s.lineOf p l).config.strokePeriod ∨
      (o.mode = .single ∧ (s.lineOf p l).owed = false)) :
    tickLine p s l = s.onLine p l (s.lineOf p l).elapse (s.queues.get p).orders [] := by
  have elapsed : s.setLineOf p l (s.lineOf p l).elapse =
      s.onLine p l (s.lineOf p l).elapse (s.queues.get p).orders [] := setLineOf_eq ..
  have ticks : tickLine p s l =
      owedStroke p l (burstStroke p l (tickWindow p l (s.setLineOf p l (s.lineOf p l).elapse))) := rfl
  rw [ticks, elapsed, tickWindow_shut (by rw [onLine_lineOf]; exact shut)]
  have isFirst : FirstOf (activeOn l) ((s.onLine p l (s.lineOf p l).elapse (s.queues.get p).orders
      []).queues.get p).orders older o younger := by
    rw [onLine_orders]
    exact first
  rcases rests with early | ⟨single, un⟩
  · have unready : ((s.onLine p l (s.lineOf p l).elapse (s.queues.get p).orders []).lineOf p l).ready =
        false := by
      rw [onLine_lineOf]
      exact decide_eq_false (Nat.not_le.mpr early)
    rw [burstStroke_unready unready, owedStroke_unready unready]
  · rw [burstStroke_rests isFirst (.inl single), owedStroke_unowed]
    rw [onLine_lineOf]
    exact un

/-- Where a platen's queue holds one order, its line is followed through the tick. -/
theorem after_tick_single (goesOn : tickGoesOn s) (orders : (s.queues.get p).orders = [o])
    (line : o.line = l) :
    ∃ v, (∃ a, v.pumpOut = s.pumpOut ++ a) ∧ v.lineOf p l = s.lineOf p l ∧
      (v.queues.get p).orders = [o] ∧
      (∃ b, (s.after .tick).pumpOut = (tickLine p v l).pumpOut ++ b) ∧
      (∀ c ∈ (tickLine p v l).handed, c ∈ (s.after .tick).handed) ∧
      ((tickLine p v l).quiet p l →
        (s.after .tick).lineOf p l = (tickLine p v l).lineOf p l ∧
          ((s.after .tick).queues.get p).orders = ((tickLine p v l).queues.get p).orders) := by
  obtain ⟨u, before, after, hands⟩ := tickBlocks_dispense (s.takeUp .tick) p
  obtain ⟨v, runs, stays, later, kept⟩ := tickDispense_line u p l
  have orderU : (u.queues.get p).orders = [o] := by
    rw [before.queue]
    exact orders
  have allU : u.allOn p l := fun x mem => by
    rw [orderU, List.mem_singleton] at mem
    rw [mem, line]
  have allV : v.allOn p l := runs.allOn allU
  have allW : (tickLine p v l).allOn p l := (tickLine_own v l).runs.allOn allV
  have orderV : (v.queues.get p).orders = [o] := by
    rw [← lineOrders_allOn allV, stays.orders, lineOrders_allOn allU, orderU]
  obtain ⟨⟨a, isA⟩, ⟨b, isB⟩⟩ := And.intro before.pumped runs.pumped
  obtain ⟨⟨c, isC⟩, ⟨d, isD⟩⟩ := And.intro later.pumped after.pumped
  have part {β : Type} (f : State → β) (count : ∀ u, f (State.countReset u) = f u)
      (port : ∀ u, f (State.kickPort u) = f u) := after_tick_part goesOn f count port
  refine ⟨v, ⟨a ++ b, ?_⟩, stays.line.trans (before.lines l), orderV, ⟨c ++ d, ?_⟩,
    fun x mem => ?_, fun quiet => ⟨?_, ?_⟩⟩
  · rw [isB, isA, List.append_assoc]
    rfl
  · rw [part State.pumpOut (fun _ => rfl) (by simp), isD, isC, List.append_assoc]
  · rw [after_tick_handed goesOn]
    exact hands x (later.mem mem)
  · have lines := part State.lines (fun _ => rfl) (by simp)
    exact (congrArg (Tab.get · (lineIx p l)) lines).trans ((after.lines l).trans (kept quiet).line)
  · have allEnd := later.allOn allW
    rw [part State.queues (fun _ => rfl) (by simp), after.queue, ← lineOrders_allOn allEnd,
      (kept quiet).orders, lineOrders_allOn allW]

/-- A stroke on a tick, of a platen's only order with its window closed. -/
theorem after_tick_strokes (goesOn : tickGoesOn s) (orders : (s.queues.get p).orders = [o])
    (active : o.active = true) (line : o.line = l) (left : o.strokes < o.count)
    (shut : (s.lineOf p l).window = none)
    (ready : (s.lineOf p l).config.strokePeriod ≤ min ((s.lineOf p l).elapsed + 1) 2000)
    (due : (o.mode = .burst ∧ (s.lineOf p l).owed = false) ∨
      (o.mode = .single ∧ (s.lineOf p l).owed = true)) :
    (∃ a b, (s.after .tick).pumpOut = s.pumpOut ++ a ++ lineIx p l :: b) ∧
      (s.after .tick).lineOf p l = (s.lineOf p l).struck (s.lineOf p l).miss false ∧
      (o.strokes + 1 < o.count → ((s.after .tick).queues.get p).orders = [o.struck]) ∧
      (o.strokes + 1 = o.count → ((s.after .tick).queues.get p).orders = [] ∧
        orderEnded p .done o.struck ∈ (s.after .tick).handed) := by
  obtain ⟨v, ⟨a, isA⟩, isLine, orderV, ⟨b, isB⟩, hands, kept⟩ := after_tick_single goesOn orders line
  have first : FirstOf (activeOn l) (v.queues.get p).orders [] o [] :=
    line ▸ single_first orderV active
  rw [← isLine] at shut ready due
  have struck := tickLine_struck first left shut ready due
  rw [isLine] at struck
  have quiet : (tickLine p v l).quiet p l := by
    rw [struck]
    refine quiet_of_running (fun y mem => ?_) l
    split_ifs at mem
    · simp at mem
    · rw [onLine_orders, List.nil_append, List.mem_singleton] at mem
      rw [mem]
      exact active
  obtain ⟨lineEnd, ordersEnd⟩ := kept quiet
  rw [struck] at isB hands lineEnd ordersEnd
  refine ⟨⟨a, b, ?_⟩, ?_, fun more => ?_, fun last => ⟨?_, hands _ ?_⟩⟩
  · have pumped : (s.after .tick).pumpOut = v.pumpOut ++ [lineIx p l] ++ b := by
      rw [isB]
      split_ifs <;> rfl
    rw [pumped, isA]
    simp
  · rw [lineEnd]
    split_ifs <;> rw [onLine_lineOf]
  · rw [ordersEnd, if_neg more.ne, onLine_orders, List.nil_append]
  · rw [ordersEnd, if_pos last, onLine_orders, List.nil_append]
  · rw [if_pos last]
    exact List.mem_append_right _ (List.mem_append_right _ (List.mem_singleton.mpr rfl))

/-- A tick with no stroke due, of a platen's only order with its window closed. -/
theorem after_tick_rests (goesOn : tickGoesOn s) (orders : (s.queues.get p).orders = [o])
    (active : o.active = true) (line : o.line = l) (shut : (s.lineOf p l).window = none)
    (rests : min ((s.lineOf p l).elapsed + 1) 2000 < (s.lineOf p l).config.strokePeriod ∨
      (o.mode = .single ∧ (s.lineOf p l).owed = false)) :
    (s.after .tick).lineOf p l = (s.lineOf p l).elapse ∧
      ((s.after .tick).queues.get p).orders = [o] := by
  obtain ⟨v, -, isLine, orderV, -, -, kept⟩ := after_tick_single goesOn orders line
  have first : FirstOf (activeOn l) (v.queues.get p).orders [] o [] :=
    line ▸ single_first orderV active
  rw [← isLine] at shut rests
  rw [tickLine_rests first shut rests, isLine, orderV, onLine_lineOf, onLine_orders] at kept
  refine kept (quiet_of_running (fun y mem => ?_) l)
  rw [onLine_orders, List.mem_singleton] at mem
  rw [mem]
  exact active

end

/-- Settles O39: a stroke's effect by its three ends, then a tick followed at one line, and the turns
of the lines. -/
theorem strokesAreCounted : Obligations.StrokesAreCounted := by
  refine ⟨?_, fun p t => ⟨judgeOrders_turns t, judgeOrders_none_waiting⟩⟩
  intro p l older younger o s x i split before active isLine left missed miss line ended fault struck
    stroked
  have first : FirstOf (activeOn l) (s.queues.get p).orders older o younger :=
    ⟨activeOn_eq_true.mpr ⟨active, isLine⟩, split, before⟩
  have isEnded (st : EndStatus) : orderEnded p st o.struck = ended st := by
    have own : lineIx p o.line = i := by rw [isLine]
    exact congrArg (fun i => Instr.eventRaise .orderEnded (.line i)
      (detail o.ordinal.toNat (endStatusCode st)) (w16 (o.strokes + 1))) own
  have result (c : Instr) (owed : Bool) (is : owed = (x.owed && o.mode == .burst)) :
      judgeIfEnded p ((s.takeUp c).occupancy p)
        (issueStroke p l (strokeFrom p l owed (s.takeUp c))) = stroked (s.takeUp c) := by
    have state (y : LineState) (os : List Order) (raised : List Instr) :
        ((s.takeUp c).pumped p l).onLine p l y os (reloadHands p o ++ raised) =
          struck (s.takeUp c) y os raised := by
      simp only [struck, State.onLine, List.append_assoc]
      rfl
    refine (stroke_judged (s := s.takeUp c) first left owed).trans ?_
    by_cases reaches : x.missReaches = true
    · obtain ⟨isMissed, limit⟩ := (missReaches_iff x).mp reaches
      have counted : miss = x.miss + 1 := if_pos isMissed
      refine (if_pos reaches).trans (Eq.trans ?_ (if_pos ⟨isMissed, counted ▸ limit⟩).symm)
      rw [isEnded, state]
      rfl
    · have below : ¬(missed = true ∧ x.config.missLimit ≤ miss) := fun ⟨isMissed, limit⟩ => by
        have counted : miss = x.miss + 1 := if_pos isMissed
        exact reaches ((missReaches_iff x).mpr ⟨isMissed, counted ▸ limit⟩)
      refine (if_neg reaches).trans (Eq.trans ?_ (if_neg below).symm)
      by_cases last : o.strokes + 1 = o.count
      · refine (if_pos last).trans (Eq.trans ?_ (if_pos last).symm)
        rw [isEnded, state]
        rfl
      · refine (if_neg last).trans (Eq.trans ?_ (if_neg last).symm)
        rw [is, ← List.append_nil (reloadHands p o), state]
        rfl
  refine ⟨fun burst ready => ?_, fun single owed ready => ?_, fun slow => ⟨?_, ?_⟩,
    fun goesOn noOlder noYounger shut => ?_⟩
  · have row := result (.burstStroke p l) x.owed (by simp [burst])
    have same : strokeFrom p l x.owed (s.takeUp (.burstStroke p l)) = s.takeUp (.burstStroke p l) :=
      strokeFrom_same
    rw [same, ← burstStroke_due (s := s.takeUp (.burstStroke p l)) first burst (decide_eq_true ready)] at row
    exact congrArg Host.Outcome.next row
  · have row := result (.owedStroke p l) false (by simp [single])
    rw [strokeFrom, ← setLineOf_eq,
      ← owedStroke_due (s := s.takeUp (.owedStroke p l)) owed (decide_eq_true ready)] at row
    exact congrArg Host.Outcome.next row
  · have still := burstStroke_unready (s := s.takeUp (.burstStroke p l)) (p := p) (l := l)
      (decide_eq_false (Nat.not_le.mpr slow))
    refine congrArg Host.Outcome.next ((congrArg (judgeIfEnded p _) still).trans ?_)
    exact judgeIfEnded_same (Nat.le_refl _)
  · have still := owedStroke_unready (s := s.takeUp (.owedStroke p l)) (p := p) (l := l)
      (decide_eq_false (Nat.not_le.mpr slow))
    refine congrArg Host.Outcome.next ((congrArg (judgeIfEnded p _) still).trans ?_)
    exact judgeIfEnded_same (Nat.le_refl _)
  · intro elapsed due
    have orders : (s.queues.get p).orders = [o] := by
      rw [split, noOlder, noYounger]
      rfl
    refine ⟨_, exec_tick s, fun ⟨ready, modes⟩ => ?_, fun rests => ?_⟩
    · obtain ⟨pumped, lineEnd, more, last⟩ :=
        after_tick_strokes goesOn orders active isLine left shut ready modes
      exact ⟨pumped, lineEnd, more, fun is => ⟨(last is).1, isEnded .done ▸ (last is).2⟩⟩
    · exact after_tick_rests goesOn orders active isLine shut rests

end Sys2Proof.Machine
end

section
/-! PROOFS. The flow check. -/

namespace Sys2Proof.Machine

open Sys2Proof

section
variable {p : Platen} {l : Line} {s : State}

/-- The tick of a line without an order and with nothing owed. -/
theorem tickLine_idle (none : s.lineOrders p l = []) (un : (s.lineOf p l).owed = false) :
    ∃ hs, tickLine p s l =
        s.onLine p l (s.lineOf p l).elapse.windowTicked (s.queues.get p).orders hs ∧
      ((∃ w, (s.lineOf p l).window = some w ∧ w.remaining ≤ 1 ∧ w.credited = false ∧
          (s.lineOf p l).config.missLimit ≤ (s.lineOf p l).miss + 1) →
        .eventRaise .flowFault (.line (lineIx p l)) 0xFFFF#16
          (w16 (flowActionCode (s.lineOf p l).config.flowAction)) ∈ hs) := by
  have idle (y : Order) (mem : y ∈ (s.queues.get p).orders) : activeOn l y = false := by
    have other := List.filter_eq_nil_iff.mp none y mem
    simp only [beq_iff_eq] at other
    simp [activeOn, other]
  have elapsed : s.setLineOf p l (s.lineOf p l).elapse =
      s.onLine p l (s.lineOf p l).elapse (s.queues.get p).orders [] := setLineOf_eq ..
  have ticks : tickLine p s l =
      owedStroke p l (burstStroke p l (tickWindow p l (s.setLineOf p l (s.lineOf p l).elapse))) := rfl
  obtain ⟨hs, window, faults⟩ := tickWindow_idle (p := p) (l := l)
    (s := s.onLine p l (s.lineOf p l).elapse (s.queues.get p).orders [])
    (by rw [onLine_orders]; exact idle)
  rw [onLine_lineOf] at faults
  rw [onLine_lineOf, onLine_orders, onLine_onLine, List.nil_append] at window
  refine ⟨hs, ?_, faults⟩
  rw [ticks, elapsed, window, burstStroke_idle (by rw [onLine_orders]; exact idle), owedStroke_unowed]
  rw [onLine_lineOf]
  exact un

/-- A line without an order is followed through the tick. -/
theorem after_tick_line (goesOn : tickGoesOn s) (none : s.lineOrders p l = []) :
    ∃ v, v.lineOf p l = s.lineOf p l ∧ v.lineOrders p l = [] ∧
      (∀ c ∈ (tickLine p v l).handed, c ∈ (s.after .tick).handed) ∧
      ((tickLine p v l).quiet p l → (s.after .tick).lineOf p l = (tickLine p v l).lineOf p l) := by
  obtain ⟨u, before, after, hands⟩ := tickBlocks_dispense (s.takeUp .tick) p
  obtain ⟨v, runs, stays, later, kept⟩ := tickDispense_line u p l
  refine ⟨v, stays.line.trans (before.lines l), ?_, fun x mem => ?_, fun quiet => ?_⟩
  · rw [stays.orders, State.lineOrders, before.queue]
    exact none
  · rw [after_tick_handed goesOn]
    exact hands x (later.mem mem)
  · have lines := after_tick_part goesOn State.lines (fun _ => rfl) (by simp)
    exact (congrArg (Tab.get · (lineIx p l)) lines).trans ((after.lines l).trans (kept quiet).line)

/-- The close of a window whose miss reaches the limit, with no order running. -/
theorem closeWindow_faults_idle (reaches : (s.lineOf p l).missReaches = true)
    (none : ∀ y ∈ (s.queues.get p).orders, activeOn l y = false) :
    closeWindow p l s =
      s.onLine p l { s.lineOf p l with window := .none, miss := 0 } (s.queues.get p).orders
        (faultHands p l 0xFFFF#16 (s.lineOf p l).config.flowAction (s.docks.get p).docked) := by
  rw [closeWindow_reaches reaches, setLineOf_eq, flowFault_idle (by rw [onLine_orders]; exact none),
    onLine_onLine, onLine_lineOf, onLine_orders]
  rfl

theorem closeWindow_faults_running {older younger : List Order} {o : Order}
    (reaches : (s.lineOf p l).missReaches = true)
    (first : FirstOf (activeOn l) (s.queues.get p).orders older o younger) :
    closeWindow p l s =
      s.onLine p l { s.lineOf p l with window := none, miss := 0, owed := false } (older ++ younger)
        (orderEnded p .flowFault o ::
          faultHands p l (w16 o.ordinal.toNat) (s.lineOf p l).config.flowAction
            (s.docks.get p).docked) := by
  rw [closeWindow_reaches reaches, setLineOf_eq,
    flowFault_running (by rw [onLine_orders]; exact first), onLine_onLine, onLine_lineOf]
  rfl

end

/-- Settles O41: a pulse, a close by its three ends, and a tick followed at one line. -/
theorem flowIsChecked : Obligations.FlowIsChecked := by
  intro p l s x i
  refine ⟨?_, ?_, fun goesOn un none => ?_⟩
  · refine congrArg Host.Outcome.next ?_
    have line : (s.takeUp (.flowPulse p l)).lineOf p l = x := rfl
    unfold creditPulse
    rw [line]
    dsimp only
    cases open_ : x.window with
    | none => rfl
    | some w => obtain ⟨n, _ | _⟩ := w <;> rfl
  · intro t
    have runs : exec (.flowWindowClose p l) s =
        .next (judgeIfEnded p (t.occupancy p) (closeWindow p l t)) := rfl
    have closes {u : State} (is : closeWindow p l t = u)
        (same : (u.queues.get p).orders.length = (t.queues.get p).orders.length) :
        exec (.flowWindowClose p l) s = .next u := by
      rw [runs, is]
      exact congrArg Host.Outcome.next (judgeIfEnded_same same.ge)
    have below {w : FlowWindow} (open_ : x.window = some w)
        (calm : w.credited = true ∨ x.miss + 1 < x.config.missLimit) :
        closeWindow p l t = t.setLineOf p l x.closed := by
      refine closeWindow_below (s := t) (Bool.eq_false_iff.mpr fun reaches => ?_)
      obtain ⟨missed, limit⟩ := (missReaches_iff x).mp reaches
      simp only [LineState.missed, open_, Bool.not_eq_true'] at missed
      rcases calm with credited | early
      · simp [credited] at missed
      · omega
    refine ⟨fun shut => ?_, fun w open_ => ⟨fun credited => ?_, fun un early => ?_, fun un limit => ?_⟩⟩
    · refine closes ?_ rfl
      have open_ : (t.lineOf p l).window = none := shut
      simp only [closeWindow, open_]
    · refine closes ((below open_ (.inl credited)).trans ?_) rfl
      have counted : x.closed = { x with window := none } := by
        simp [LineState.closed, LineState.missed, open_, credited]
      rw [counted]
      rfl
    · refine closes ((below open_ (.inr early)).trans ?_) rfl
      have counted : x.closed = { x with window := none, miss := x.miss + 1 } := by
        simp [LineState.closed, LineState.missed, open_, un]
      rw [counted]
      rfl
    · intro faulted
      have reaches : x.missReaches = true :=
        (missReaches_iff x).mpr ⟨by simp [LineState.missed, open_, un], limit⟩
      refine ⟨fun none => ?_, fun older o younger split active before => ?_⟩
      · have faults := closeWindow_faults_idle (s := t) reaches none
        refine closes (faults.trans ?_) rfl
        simp only [State.onLine, queues_upd_same]
        rfl
      · have first : FirstOf (activeOn l) (t.queues.get p).orders older o younger :=
          ⟨active, split, before⟩
        have faults := closeWindow_faults_running (s := t) reaches first
        have own : lineIx p o.line = i := by rw [(activeOn_eq_true.mp active).2]
        have isEnded : orderEnded p .flowFault o = .eventRaise .orderEnded (.line i)
            (detail o.ordinal.toNat (endStatusCode .flowFault)) (w16 o.strokes) := by
          unfold orderEnded
          rw [own]
        rw [runs, faults, isEnded]
        refine congrArg Host.Outcome.next ((judgeIfEnded_ended ?_).trans rfl)
        rw [onLine_orders, State.occupancy, first.split]
        simp
  · intro reaches
    have noOrders : s.lineOrders p l = [] :=
      List.filter_eq_nil_iff.mpr fun o mem => by simpa using none o mem
    obtain ⟨v, isLine, noneV, hands, kept⟩ := after_tick_line goesOn noOrders
    obtain ⟨hs, ticks, faults⟩ := tickLine_idle noneV (isLine ▸ un)
    have quiet : (tickLine p v l).quiet p l := by
      rw [ticks]
      intro waits
      rw [onLine_orders, any_queuedOn, ← lineOrders_eq, noneV] at waits
      simp at waits
    have lineEnd := kept quiet
    rw [ticks, onLine_lineOf, isLine] at lineEnd
    rw [ticks] at hands
    rw [isLine] at faults
    exact ⟨_, exec_tick s, lineEnd, fun is => hands _ (List.mem_append_right _ (faults is))⟩

end Sys2Proof.Machine
end

section
/-! PROOFS. The conditioners: their outputs, and the events that park or fault them. -/

namespace Sys2Proof.Machine

open Sys2Proof

/-! ### Outputs and their marks -/

/-- Output channel `i` is marked as platen `p`'s conditioner comes to record `c`. -/
@[reducible] def condMarks (p : Platen) (c : Conditioner) (s : State) (i : Chan) : Prop :=
  (i.val = 28 + p.val ∧ c.posOut ≠ (s.conds.get p).posOut ∧ c.posOut ≠ s.reg.last.get i) ∨
    (i.val = 31 + p.val ∧ c.forceOut ≠ (s.conds.get p).forceOut ∧ c.forceOut ≠ s.reg.last.get i)

section
variable (s : State) (p : Platen) (c d : Conditioner)

theorem markChange_eq (i : Chan) (old new : Nat) :
    s.markChange i old new =
      { s with
        reg :=
          { s.reg with
            pending := Tab.ofFn fun j =>
              s.reg.pending.get j || decide (j = i ∧ new ≠ old ∧ new ≠ s.reg.last.get j) } } := by
  have marked : (Tab.ofFn fun j =>
      s.reg.pending.get j || decide (j = i ∧ new ≠ old ∧ new ≠ s.reg.last.get j)) =
      if new ≠ old ∧ new ≠ s.reg.last.get i then s.reg.pending.upd i true else s.reg.pending := by
    refine Tab.ext_get fun j => ?_
    rw [Tab.get_ofFn]
    by_cases is : i = j
    · subst is
      split_ifs with marks <;> simp [marks]
    · split_ifs <;> simp [Tab.get_upd_ne _ _ is, Ne.symm is]
  rw [marked]
  unfold State.markChange
  split_ifs <;> rfl

theorem driveCond_eq :
    s.driveCond p c =
      { s with
        conds := s.conds.upd p c
        reg :=
          { s.reg with
            pending := Tab.ofFn fun i => s.reg.pending.get i || decide (condMarks p c s i) } } := by
  have own (i : Chan) : (i = positionChan p ↔ i.val = 28 + p.val) ∧ (i = forceChan p ↔ i.val = 31 + p.val) :=
    ⟨Fin.ext_iff, Fin.ext_iff⟩
  unfold State.driveCond
  simp only [markChange_eq, State.setCond_reg, Tab.get_ofFn, (own _).1, (own _).2]
  simp only [State.setCond, Bool.or_assoc, ← Bool.decide_or]

/-- What the record was before, its outputs aside, has no part in a drive. -/
theorem driveCond_setCond (pos : d.posOut = (s.conds.get p).posOut)
    (force : d.forceOut = (s.conds.get p).forceOut) :
    (s.setCond p d).driveCond p c = s.driveCond p c := by
  simp only [driveCond_eq, condMarks, State.setCond, Tab.get_upd_same, Tab.upd_upd, pos, force]

@[simp] theorem driveCond_conds : (s.driveCond p c).conds = s.conds.upd p c := by
  simp [driveCond_eq]

theorem setCond_driveCond : (s.driveCond p c).setCond p d =
    { s.driveCond p c with conds := s.conds.upd p d } := by
  simp [State.setCond]

end

/-! ### The records a conditioner comes to -/

section
variable (s : State) (p : Platen)

theorem enterParking_eq (override : Bool) :
    enterParking p override s = s.driveCond p (Conditioner.parked (s.conds.get p) override) := rfl

/-- Entry to PARKING with another record field changed first. -/
theorem enterParking_setCond {c : Conditioner} (override : Bool)
    (pos : c.posOut = (s.conds.get p).posOut) (force : c.forceOut = (s.conds.get p).forceOut) :
    enterParking p override (s.setCond p c) = s.driveCond p (c.parked override) := by
  rw [enterParking_eq, driveCond_setCond _ _ _ _ pos force]
  simp

theorem enterFaulted_setCond {c : Conditioner} (cause : CondFaultCause) (d : Nat)
    (pos : c.posOut = (s.conds.get p).posOut) (force : c.forceOut = (s.conds.get p).forceOut) :
    enterFaulted p cause d (s.setCond p c) =
      (s.driveCond p (c.faulted cause)).raise .condFault (.conditioner p)
        (w16 (condFaultCode cause)) (w16 d) := by
  unfold enterFaulted
  rw [driveCond_setCond _ _ _ _ pos force]
  simp

/-- The record at the start of segment `n` of profile `k`. -/
def Conditioner.reaching (c : Conditioner) (k : Fin 8) (n : Nat) (s : State) : Conditioner :=
  { c with
    profile := some k, segment := n, substate := .reaching, target := (s.segmentOf k n).position
    posOut := (s.segmentOf k n).position, forceOut := (s.segmentOf k n).downforce
    timer := (s.profiles.get k).reachTimeout }

theorem startSegment_eq (k : Fin 8) (n : Nat) :
    startSegment p k n s =
      (s.driveCond p ((s.conds.get p).reaching k n s)).hand (.idleTimerReload p) := rfl

theorem startSegment_setCond {c : Conditioner} (k : Fin 8) (n : Nat)
    (pos : c.posOut = (s.conds.get p).posOut) (force : c.forceOut = (s.conds.get p).forceOut) :
    startSegment p k n (s.setCond p c) =
      (s.driveCond p (c.reaching k n s)).hand (.idleTimerReload p) := by
  rw [startSegment_eq, driveCond_setCond _ _ _ _ pos force, State.setCond_conds, Tab.get_upd_same]
  rfl

/-- The record as a sweep begins with profile `k`. -/
def Conditioner.swept (c : Conditioner) (k : Fin 8) (s : State) : Conditioner :=
  { c with
    state := .sweeping, substate := .reaching, override := false, profile := some k, segment := 0
    passes := 0, pendingProfile := none, target := (s.segmentOf k 0).position
    posOut := (s.segmentOf k 0).position, forceOut := (s.segmentOf k 0).downforce
    timer := (s.profiles.get k).reachTimeout }

theorem beginSweep_eq (k : Fin 8) :
    beginSweep p k s =
      (s.driveCond p ((s.conds.get p).swept k s)).hand (.idleTimerReload p) := by
  exact startSegment_setCond s p k 0 rfl rfl

end

/-! ### Settling O44 -/

/-- Settles O44: both park notices are one operation, and an overload another. -/
theorem noticesStopConditioners : Obligations.NoticesStopConditioners := by
  intro p s c
  refine ⟨fun i mem => ?_, rfl⟩
  simp only [List.mem_cons, List.not_mem_nil, or_false] at mem
  rcases mem with rfl | rfl <;> rfl

/-! ### Commands -/

/-- Platen `p`'s conditioner sequence learned. -/
def State.learnCond (s : State) (p : Platen) (seq : Word16) : State :=
  s.setMap { s.map with learnedCond := s.map.learnedCond.upd p (some seq) }

section
variable {p : Platen} {v : CommandValue} {s u : State} {o : CondOutcome}

/-- A new command is answered over the state its application leaves. -/
theorem newCondCommand_answered
    (applied : applyCondCommand p (condCommandOf v.code v.arg) (s.learnCond p v.seq) =
      (u.learnCond p v.seq, o)) :
    newCondCommand p v s = condAnswered p v.code v.seq o (u.conds.get p) u := by
  unfold newCondCommand
  dsimp only
  rw [show s.setMap { s.map with learnedCond := s.map.learnedCond.upd p (some v.seq) } =
    s.learnCond p v.seq from rfl, applied]
  unfold raiseCondRefusal condAnswered
  simp only [CondOutcome.isRefusal, decide_eq_true_eq]
  rfl

/-- A command that changes the record alone. -/
theorem newCondCommand_record {c : Conditioner}
    (applied : applyCondCommand p (condCommandOf v.code v.arg) (s.learnCond p v.seq) =
      ((s.learnCond p v.seq).setCond p c, o)) :
    newCondCommand p v s = condAnswered p v.code v.seq o c s := by
  refine (newCondCommand_answered (u := s.setCond p c) applied).trans ?_
  simp [condAnswered, State.setCond]

theorem newCondCommand_unchanged
    (applied : applyCondCommand p (condCommandOf v.code v.arg) (s.learnCond p v.seq) =
      (s.learnCond p v.seq, o)) :
    newCondCommand p v s = condAnswered p v.code v.seq o (s.conds.get p) s :=
  newCondCommand_answered applied

/-- A command that drives the conditioner to record `c`. -/
theorem newCondCommand_driven {c : Conditioner}
    (applied : applyCondCommand p (condCommandOf v.code v.arg) (s.learnCond p v.seq) =
      ((s.learnCond p v.seq).driveCond p c, o)) :
    newCondCommand p v s = condAnswered p v.code v.seq o c (s.driveCond p c) := by
  have learned : (s.learnCond p v.seq).driveCond p c = (s.driveCond p c).learnCond p v.seq := by
    simp only [driveCond_eq]
    rfl
  rw [learned] at applied
  rw [newCondCommand_answered applied, driveCond_conds, Tab.get_upd_same]

end

/-! ### The checks of a SWEEP -/

section
variable (p : Platen) (k : Octet) (s : State)

/-- The SWEEP gate of profile `i` is shut (R121). -/
@[reducible] def sweepShut (s : State) (i : Fin 8) : Prop :=
  s.verifier.vbr = true ∧
    ¬(s.verifier.sweep.state = .verified ∧ ∀ x ∈ s.written, WrittenEntry.ofProfile s i x = false)

theorem sweepCheck_eq :
    sweepCheck p k s =
      if (s.conds.get p).state = .faulted then .error .faulted
      else if s.functionActive .estop then .error .estop
      else if s.functionActive (.condOverload p) then .error .overloadActive
      else
        match s.usableProfile k with
        | none => .error .badProfile
        | some i => if sweepShut s i then .error .gated else .ok i := by
  unfold sweepCheck
  (repeat' split) <;> simp_all [sweepShut, State.sweepGateOpen_iff]

/-- What a SWEEP that passes its checks does (Table 7-5). -/
def State.sweepOn (s : State) (p : Platen) (i : Fin 8) : State :=
  if (s.conds.get p).state = .sweeping then
    s.setCond p { s.conds.get p with pendingProfile := some i }
  else (s.driveCond p ((s.conds.get p).swept i s)).hand (.idleTimerReload p)

theorem applyCondCommand_sweep :
    applyCondCommand p (.sweep k) s =
      match sweepCheck p k s with
      | .error o => (s, o)
      | .ok i => (s.sweepOn p i, .accepted) := by
  unfold applyCondCommand State.sweepOn
  dsimp only
  cases sweepCheck p k s with
  | error o => rfl
  | ok i => cases is : (s.conds.get p).state <;> simp [beginSweep_eq]

variable (seq : Word16)

theorem newCondCommand_sweep :
    newCondCommand p ⟨1, k, seq⟩ s =
      if (s.conds.get p).state = .faulted then condAnswered p 1 seq .faulted (s.conds.get p) s
      else if s.functionActive .estop then condAnswered p 1 seq .estop (s.conds.get p) s
      else if s.functionActive (.condOverload p) then
        condAnswered p 1 seq .overloadActive (s.conds.get p) s
      else
        match s.usableProfile k with
        | none => condAnswered p 1 seq .badProfile (s.conds.get p) s
        | some i =>
          if sweepShut s i then condAnswered p 1 seq .gated (s.conds.get p) s
          else if (s.conds.get p).state = .sweeping then
            condAnswered p 1 seq .accepted { s.conds.get p with pendingProfile := some i } s
          else
            condAnswered p 1 seq .accepted ((s.conds.get p).swept i s)
              ((s.driveCond p ((s.conds.get p).swept i s)).hand (.idleTimerReload p)) := by
  have applies := applyCondCommand_sweep p k (s.learnCond p seq)
  have check : sweepCheck p k (s.learnCond p seq) = sweepCheck p k s := rfl
  rw [check, sweepCheck_eq] at applies
  have refused {o : CondOutcome}
      (is : applyCondCommand p (.sweep k) (s.learnCond p seq) = (s.learnCond p seq, o)) :
      newCondCommand p ⟨1, k, seq⟩ s = condAnswered p 1 seq o (s.conds.get p) s :=
    newCondCommand_unchanged is
  by_cases faulted : (s.conds.get p).state = .faulted
  · rw [if_pos faulted] at applies ⊢
    exact refused applies
  by_cases stop : s.functionActive .estop = true
  · rw [if_neg faulted, if_pos stop] at applies ⊢
    exact refused applies
  by_cases overload : s.functionActive (.condOverload p) = true
  · rw [if_neg faulted, if_neg stop, if_pos overload] at applies ⊢
    exact refused applies
  rw [if_neg faulted, if_neg stop, if_neg overload] at applies ⊢
  cases usable : s.usableProfile k with
  | none =>
    rw [usable] at applies
    exact refused applies
  | some i =>
    rw [usable] at applies
    dsimp only at applies ⊢
    by_cases shut : sweepShut s i
    · rw [if_pos shut] at applies ⊢
      exact refused applies
    rw [if_neg shut] at applies ⊢
    by_cases sweeping : (s.conds.get p).state = .sweeping
    · rw [if_pos sweeping]
      exact newCondCommand_record (applies.trans (congrArg (·, CondOutcome.accepted) (if_pos sweeping)))
    · have learned : (s.learnCond p seq).sweepOn p i =
          ((s.driveCond p ((s.conds.get p).swept i s)).hand (.idleTimerReload p)).learnCond p seq := by
        refine (if_neg sweeping).trans ?_
        simp only [driveCond_eq]
        rfl
      rw [if_neg sweeping]
      have answered := newCondCommand_answered (v := ⟨1, k, seq⟩)
        (applies.trans (congrArg (·, CondOutcome.accepted) learned))
      simpa using answered

theorem newCondCommand_park :
    newCondCommand p ⟨2, 0, seq⟩ s =
      match (s.conds.get p).state with
      | .sweeping =>
        condAnswered p 2 seq .accepted ((s.conds.get p).parked false)
          (s.driveCond p ((s.conds.get p).parked false))
      | .faulted => condAnswered p 2 seq .faulted (s.conds.get p) s
      | _ => condAnswered p 2 seq .same (s.conds.get p) s := by
  have cond : (s.learnCond p seq).conds.get p = s.conds.get p := rfl
  cases is : (s.conds.get p).state with
  | sweeping =>
    exact newCondCommand_driven (by simp [condCommandOf, applyCondCommand, cond, is, enterParking_eq])
  | _ => exact newCondCommand_unchanged (by simp [condCommandOf, applyCondCommand, cond, is])

/-- A faulted record as its command parks it. -/
def Conditioner.unfaulted (c : Conditioner) : Conditioner := { c with cause := .none }

theorem newCondCommand_clearFault :
    newCondCommand p ⟨3, 0, seq⟩ s =
      if (s.conds.get p).state ≠ .faulted then condAnswered p 3 seq .same (s.conds.get p) s
      else if s.functionActive (.condOverload p) then
        condAnswered p 3 seq .overloadActive (s.conds.get p) s
      else
        condAnswered p 3 seq .accepted ((s.conds.get p).unfaulted.parked false)
          (s.driveCond p ((s.conds.get p).unfaulted.parked false)) := by
  have cond : (s.learnCond p seq).conds.get p = s.conds.get p := rfl
  have overload : (s.learnCond p seq).functionActive (.condOverload p) =
      s.functionActive (.condOverload p) := rfl
  by_cases faulted : (s.conds.get p).state = .faulted
  · rw [if_neg (not_not.mpr faulted)]
    split_ifs with active
    · exact newCondCommand_unchanged (by
        simp [condCommandOf, applyCondCommand, cond, faulted, overload, active])
    · refine newCondCommand_driven ?_
      simp only [condCommandOf, applyCondCommand, cond, faulted, overload, active]
      exact congrArg (·, CondOutcome.accepted) (enterParking_setCond _ _ _ rfl rfl)
  · rw [if_pos faulted]
    exact newCondCommand_unchanged (by
      cases is : (s.conds.get p).state <;> simp_all [condCommandOf, applyCondCommand])

theorem newCondCommand_overloadAck :
    newCondCommand p ⟨4, 0, seq⟩ s =
      if (s.conds.get p).state ≠ .faulted then condAnswered p 4 seq .notFaulted (s.conds.get p) s
      else if s.functionActive (.condOverload p) then
        condAnswered p 4 seq .accepted ((s.conds.get p).unfaulted.parked true)
          (s.driveCond p ((s.conds.get p).unfaulted.parked true))
      else condAnswered p 4 seq .same (s.conds.get p) s := by
  have cond : (s.learnCond p seq).conds.get p = s.conds.get p := rfl
  have overload : (s.learnCond p seq).functionActive (.condOverload p) =
      s.functionActive (.condOverload p) := rfl
  by_cases faulted : (s.conds.get p).state = .faulted
  · rw [if_neg (not_not.mpr faulted)]
    split_ifs with active
    · refine newCondCommand_driven ?_
      simp only [condCommandOf, applyCondCommand, cond, faulted, overload, active]
      exact congrArg (·, CondOutcome.accepted) (enterParking_setCond _ _ _ rfl rfl)
    · exact newCondCommand_unchanged (by
        simp [condCommandOf, applyCondCommand, cond, faulted, overload, active])
  · rw [if_pos faulted]
    exact newCondCommand_unchanged (by
      cases is : (s.conds.get p).state <;> simp_all [condCommandOf, applyCondCommand])

end

end Sys2Proof.Machine
end

section
/-! PROOFS. The commands and deliveries of the conditioners. -/

namespace Sys2Proof.Machine

open Sys2Proof

theorem usableProfile_iff (k : Octet) (s : State) (i : Fin 8) :
    s.usableProfile k = some i ↔
      k.toNat = i.val ∧ (s.profiles.get i).valid = true ∧
        ∀ j < (s.profiles.get i).count,
          ∃ g : Fin 96,
            g.val = (s.profiles.get i).first + j ∧ (s.segments.get g).valid = true := by
  have good (n : Nat) :
      (if h : n < 96 then (s.segments.get ⟨n, h⟩).valid else false) = true ↔
        ∃ g : Fin 96, g.val = n ∧ (s.segments.get g).valid = true := by
    split
    · next h => exact ⟨fun valid => ⟨⟨n, h⟩, rfl, valid⟩, fun ⟨g, is, valid⟩ => by
        subst is
        exact valid⟩
    · next h => exact ⟨fun no => by simp at no, fun ⟨g, is, _⟩ => absurd (is ▸ g.isLt) h⟩
  unfold State.usableProfile
  by_cases code : k.toNat < 8
  · rw [dif_pos code]
    dsimp only
    rw [ite_eq_iff]
    simp only [Bool.and_eq_true, List.all_eq_true, List.mem_range, good, Option.some.injEq,
      reduceCtorEq, and_false, or_false]
    constructor
    · rintro ⟨usable, rfl⟩
      exact ⟨rfl, usable⟩
    · rintro ⟨is, usable⟩
      have same : (⟨k.toNat, code⟩ : Fin 8) = i := Fin.ext is
      exact ⟨by rwa [same], same⟩
  · rw [dif_neg code]
    refine ⟨fun no => by simp at no, fun ⟨is, _⟩ => absurd (is ▸ i.isLt) code⟩

/-- The write that reaches profile `i` or a record of its range, as the statements spell it. -/
theorem ofProfile_eq (s : State) :
    (fun (i : Fin 8) (x : WrittenEntry) =>
      match x with
      | .profile j => j == i
      | .segment j =>
        decide ((s.profiles.get i).first ≤ j.val ∧
          j.val < (s.profiles.get i).first + (s.profiles.get i).count)
      | .zone _ | .line _ => false) = WrittenEntry.ofProfile s := by
  funext i x
  cases x <;> simp [WrittenEntry.ofProfile, State.profileSpans]

theorem sweepShut_takeUp {c : Instr} (plain : ∀ g, c ≠ .writeNotice g) (s : State) (i : Fin 8) :
    sweepShut (s.takeUp c) i ↔
      (s.verifier.vbr = true ∧
        ¬(s.verifier.sweep.state = .verified ∧
          ∀ x ∈ s.written, WrittenEntry.ofProfile s i x = false)) := by
  unfold sweepShut
  rw [State.written_takeUp_of_ne plain]
  rfl

/-- Settles O42: each command's checks and effect, the usable profiles, and the marks of a drive. -/
theorem conditionerCommands : Obligations.ConditionerCommands := by
  intro p k seq s c overload ofProfile parking
  have named : ofProfile = WrittenEntry.ofProfile s := ofProfile_eq s
  have port {a b : State} (same : a = b) : nextPort a = .next (State.kickPort b) := by
    rw [same]
    rfl
  refine ⟨port ?_, port ?_, port ?_, port ?_, usableProfile_iff k s, fun t c' => driveCond_eq t p c'⟩
  · rw [newCondCommand_sweep]
    simp only [sweepShut_takeUp (c := .sweep p k seq) (by simp), named]
    rfl
  · have cond : (s.takeUp (.park p seq)).conds.get p = c := rfl
    rw [newCondCommand_park, cond]
    cases is : c.state with
    | sweeping =>
      have same : parking false = c.parked false := by simp [parking, Conditioner.parked, is]
      rw [same]
    | _ => rfl
  · have cond : (s.takeUp (.clearFault p seq)).conds.get p = c := rfl
    rw [newCondCommand_clearFault, cond]
    by_cases faulted : c.state = .faulted
    · have same : parking false = c.unfaulted.parked false := by
        simp [parking, Conditioner.parked, Conditioner.unfaulted, faulted]
      rw [if_neg (not_not.mpr faulted), if_neg (not_not.mpr faulted), same]
      rfl
    · rw [if_pos faulted, if_pos faulted]
  · have cond : (s.takeUp (.overloadAck p seq)).conds.get p = c := rfl
    rw [newCondCommand_overloadAck, cond]
    by_cases faulted : c.state = .faulted
    · have same : parking true = c.unfaulted.parked true := by
        simp [parking, Conditioner.parked, Conditioner.unfaulted, faulted]
      rw [if_neg (not_not.mpr faulted), if_neg (not_not.mpr faulted), same]
      rfl
    · rw [if_pos faulted, if_pos faulted]

theorem newCondCommand_congr {p : Platen} {v w : CommandValue} {s : State} (code : v.code = w.code)
    (seq : v.seq = w.seq) (same : condCommandOf v.code v.arg = condCommandOf w.code w.arg) :
    newCondCommand p v s = newCondCommand p w s := by
  unfold newCondCommand
  rw [same, code, seq]

theorem newCondCommand_unknown {p : Platen} {v : CommandValue} {s : State}
    (unknown : v.code = 0 ∨ 4 < v.code.toNat) :
    newCondCommand p v s = condAnswered p v.code v.seq .badCommand (s.conds.get p) s := by
  refine newCondCommand_unchanged ?_
  have none : condCommandOf v.code v.arg = .unknown := by
    unfold condCommandOf
    rcases unknown with zero | past
    · rw [zero]
      rfl
    · split
      · omega
      · omega
      · omega
      · omega
      · rfl
  rw [none]
  rfl

/-- A step-start command that its conditioner refuses. -/
theorem stepRefused {p : Platen} {code : Octet} {o : CondOutcome} (s : State)
    (refusal : CondOutcome.isRefusal o = true) :
    raiseCondRefusal p code o s =
      s.raise .cmdRefused (.conditioner p) (w16 code.toNat) (w16 (condOutcomeCode o)) :=
  if_pos refusal

theorem stepCommandAt_sweep (p : Platen) (k : Octet) (s : State) :
    stepCommandAt p (.sweep k) s =
      if (s.conds.get p).state = .faulted then
        s.raise .cmdRefused (.conditioner p) 1 (w16 (condOutcomeCode .faulted))
      else if s.functionActive .estop then
        s.raise .cmdRefused (.conditioner p) 1 (w16 (condOutcomeCode .estop))
      else if s.functionActive (.condOverload p) then
        s.raise .cmdRefused (.conditioner p) 1 (w16 (condOutcomeCode .overloadActive))
      else
        match s.usableProfile k with
        | none => s.raise .cmdRefused (.conditioner p) 1 (w16 (condOutcomeCode .badProfile))
        | some i =>
          if sweepShut s i then
            s.raise .cmdRefused (.conditioner p) 1 (w16 (condOutcomeCode .gated))
          else s.sweepOn p i := by
  have applies : stepCommandAt p (.sweep k) s =
      match sweepCheck p k s with
      | .error o => raiseCondRefusal p 1 o s
      | .ok i => s.sweepOn p i := by
    unfold stepCommandAt
    dsimp only
    rw [applyCondCommand_sweep]
    cases sweepCheck p k s <;> rfl
  rw [applies, sweepCheck_eq]
  by_cases faulted : (s.conds.get p).state = .faulted
  · rw [if_pos faulted, if_pos faulted]
    exact stepRefused s rfl
  by_cases stop : s.functionActive .estop = true
  · rw [if_neg faulted, if_neg faulted, if_pos stop, if_pos stop]
    exact stepRefused s rfl
  by_cases overload : s.functionActive (.condOverload p) = true
  · rw [if_neg faulted, if_neg faulted, if_neg stop, if_neg stop, if_pos overload, if_pos overload]
    exact stepRefused s rfl
  rw [if_neg faulted, if_neg faulted, if_neg stop, if_neg stop, if_neg overload, if_neg overload]
  cases s.usableProfile k with
  | none => exact stepRefused s rfl
  | some i =>
    dsimp only
    by_cases shut : sweepShut s i
    · rw [if_pos shut, if_pos shut]
      exact stepRefused s rfl
    · rw [if_neg shut, if_neg shut]

/-- Settles O43: what a delivery makes of its sequence, then the step-start commands. -/
theorem conditionerDeliveries : Obligations.ConditionerDeliveries := by
  refine ⟨fun p v s => ?_, fun p k s => ?_⟩
  · intro t run
    have runs : exec (.conditionerCommandDelivery p v) s = nextPort (deliverCondCommand p v t) := rfl
    have learned : t.map.learnedCond.get p = s.map.learnedCond.get p := rfl
    refine ⟨fun first => ?_, fun seen => ?_, fun q is differs => ?_⟩
    · rw [runs, deliverCondCommand, learned, first]
      rfl
    · rw [runs, deliverCondCommand, learned, seen]
      exact congrArg nextPort (if_pos rfl)
    · have new : deliverCondCommand p v t = newCondCommand p v t := by
        rw [deliverCondCommand, learned, is]
        exact if_neg (Ne.symm differs)
      have plain {c : Instr} {w : CommandValue}
          (row : ∀ u, exec c u = nextPort (newCondCommand p w (u.takeUp c)))
          (same : newCondCommand p v t = newCondCommand p w t) (fresh : c ∉ t.handed) :
          exec (.conditionerCommandDelivery p v) s = exec c t := by
        rw [runs, new, row, takeUp_of_not_mem fresh, same]
      refine ⟨fun code => plain (w := ⟨1, v.arg, v.seq⟩) (fun _ => rfl) ?_,
        fun code => plain (w := ⟨2, 0, v.seq⟩) (fun _ => rfl) ?_,
        fun code => plain (w := ⟨3, 0, v.seq⟩) (fun _ => rfl) ?_,
        fun code => plain (w := ⟨4, 0, v.seq⟩) (fun _ => rfl) ?_, fun unknown => ?_⟩
      · exact newCondCommand_congr code rfl (by rw [code])
      · exact newCondCommand_congr code rfl (by rw [code]; rfl)
      · exact newCondCommand_congr code rfl (by rw [code]; rfl)
      · exact newCondCommand_congr code rfl (by rw [code]; rfl)
      · rw [runs, new, newCondCommand_unknown unknown]
        rfl
  · intro c ofProfile
    have named : ofProfile = WrittenEntry.ofProfile s := ofProfile_eq s
    have port {a b : State} (same : a = b) : nextPort a = .next (State.kickPort b) := by
      rw [same]
      rfl
    refine ⟨port ?_, port ?_⟩
    · rw [stepCommandAt_sweep]
      simp only [sweepShut_takeUp (c := .stepConditionerCommand p (.sweep k)) (by simp), named]
      rfl
    · have cond : (s.takeUp (.stepConditionerCommand p .park)).conds.get p = c := rfl
      unfold stepCommandAt applyCondCommand
      dsimp only
      rw [cond]
      cases c.state <;> rfl

end Sys2Proof.Machine
end

section
/-! PROOFS. The timers and position updates of a conditioner. -/

namespace Sys2Proof.Machine

open Sys2Proof

/-! ### The end of a segment -/

/-- Segment `n` of profile `k` begins, from record `c` with `passes` made. -/
def segmentFrom (p : Platen) (c : Conditioner) (k : Fin 8) (n passes : Nat) (s : State) : State :=
  (s.driveCond p
      { c with
        substate := .reaching, profile := some k, segment := n, passes := passes
        pendingProfile := none
        target := (s.segmentOf k n).position, posOut := (s.segmentOf k n).position
        forceOut := (s.segmentOf k n).downforce
        timer := (s.profiles.get k).reachTimeout }).hand (.idleTimerReload p)

/-- What follows a segment's end, from record `c` that sweeps profile `k` (R118). -/
def segmentEnd (p : Platen) (c : Conditioner) (k : Fin 8) (s : State) : State :=
  match c.pendingProfile with
  | some k' => segmentFrom p c k' 0 0 s
  | none =>
    if c.segment + 1 < (s.profiles.get k).count then segmentFrom p c k (c.segment + 1) c.passes s
    else if (s.profiles.get k).repeats = 0 ∨ min (c.passes + 1) 255 < (s.profiles.get k).repeats then
      segmentFrom p c k 0 (min (c.passes + 1) 255) s
    else
      s.driveCond p
        { c with
          state := .parking, substate := .none, override := false, passes := min (c.passes + 1) 255
          pendingProfile := none, target := c.parkPosition, posOut := c.parkPosition
          forceOut := 0, timer := c.parkTimeout }

section
variable {p : Platen} {c : Conditioner} {k : Fin 8} {s t : State}

theorem setCond_setCond (s : State) (p : Platen) (c d : Conditioner) :
    (s.setCond p c).setCond p d = s.setCond p d := by
  simp [State.setCond]

theorem setCond_same (s : State) (p : Platen) : s.setCond p (s.conds.get p) = s := by
  simp [State.setCond]

theorem startSegment_goesOn (pending : c.pendingProfile = none) (n : Nat)
    (pos : c.posOut = (s.conds.get p).posOut) (force : c.forceOut = (s.conds.get p).forceOut) :
    startSegment p k n (s.setCond p c) = segmentFrom p c k n c.passes s := by
  have same : c.reaching k n s = { c with
      substate := .reaching, profile := some k, segment := n, passes := c.passes
      pendingProfile := none
      target := (s.segmentOf k n).position, posOut := (s.segmentOf k n).position
      forceOut := (s.segmentOf k n).downforce
      timer := (s.profiles.get k).reachTimeout } := by
    rw [← pending]
    rfl
  rw [startSegment_setCond s p k n pos force, same]
  rfl

/-- The end of a segment, from a record that has not moved its outputs. -/
theorem endSegment_setCond (profile : c.profile = some k)
    (pos : c.posOut = (s.conds.get p).posOut) (force : c.forceOut = (s.conds.get p).forceOut) :
    endSegment p (s.setCond p c) = segmentEnd p c k s := by
  unfold endSegment segmentEnd
  simp only [State.setCond_conds, Tab.get_upd_same]
  cases pending : c.pendingProfile with
  | some k' =>
    dsimp only
    rw [setCond_setCond]
    exact startSegment_setCond s p k' 0 pos force
  | none =>
    simp only [profile, setCond_setCond, State.setCond_profiles]
    refine if_congr Iff.rfl (startSegment_goesOn pending _ pos force) (if_congr Iff.rfl ?_ ?_)
    · exact startSegment_goesOn (c := { c with
        profile := some k, passes := min (c.passes + 1) 255, pendingProfile := none }) rfl 0 pos force
    · exact enterParking_setCond s p false pos force

theorem endSegment_eq (profile : (s.conds.get p).profile = some k) :
    endSegment p s = segmentEnd p (s.conds.get p) k s := by
  have ends := endSegment_setCond (s := s) (p := p) profile rfl rfl
  rwa [setCond_same] at ends

theorem startSegment_cond (n : Nat) :
    (startSegment p k n (s.setCond p c)).conds.get p = c.reaching k n s := by
  have drives := startSegment_eq (s.setCond p c) p k n
  rw [State.setCond_conds, Tab.get_upd_same] at drives
  rw [drives]
  simp
  rfl

/-- The record after a segment's end follows from the record before it and the sweep tables. -/
theorem endSegment_cond_congr (cond : t.conds.get p = s.conds.get p) (profiles : t.profiles = s.profiles)
    (segments : t.segments = s.segments) :
    (endSegment p t).conds.get p = (endSegment p s).conds.get p := by
  have record (k : Fin 8) (n : Nat) : t.segmentOf k n = s.segmentOf k n := by
    unfold State.segmentOf
    rw [profiles, segments]
  cases profile : (s.conds.get p).profile with
  | some k =>
    rw [endSegment_eq profile, endSegment_eq (by rw [cond]; exact profile), cond]
    unfold segmentEnd segmentFrom
    simp only [profiles, record]
    split
    · simp
    · (repeat' split) <;> simp
  | none =>
    unfold endSegment
    simp only [cond, profile]
    cases (s.conds.get p).pendingProfile with
    | some k => simp only [startSegment_cond, Conditioner.reaching, record, profiles]
    | none => simp [enterParking_eq, cond]

/-! ### A tick at a conditioner -/

/-- A record as its reach or park timer ends. -/
def Conditioner.timedOut (c : Conditioner) : Conditioner :=
  { c with
    state := .faulted, substate := .none, override := false, cause := .reachTimeout
    pendingProfile := none, forceOut := 0, timer := 0 }

/-- A reach or park timer ends. -/
def timeOut (p : Platen) (s : State) : State :=
  (s.driveCond p (s.conds.get p).timedOut).raise .condFault (.conditioner p) 2
    (w16 (s.conds.get p).target)

theorem reachTimeoutAt_eq (p : Platen) (s : State) :
    reachTimeoutAt p s =
      if (s.conds.get p).state = .sweeping ∧ (s.conds.get p).substate = .reaching then timeOut p s
      else s :=
  if_congr Iff.rfl
    (enterFaulted_setCond s p (c := { s.conds.get p with timer := 0 }) .reachTimeout
      (s.conds.get p).target rfl rfl) rfl

theorem parkTimeoutAt_eq (p : Platen) (s : State) :
    parkTimeoutAt p s = if (s.conds.get p).state = .parking then timeOut p s else s :=
  if_congr Iff.rfl
    (enterFaulted_setCond s p (c := { s.conds.get p with timer := 0 }) .reachTimeout
      (s.conds.get p).target rfl rfl) rfl

theorem tickCond_rests (rests : (s.conds.get p).state = .parked ∨ (s.conds.get p).state = .faulted) :
    tickCond s p = s := by
  unfold tickCond
  rcases rests with is | is <;> simp only [is]

theorem tickCond_counts
    (runs : (s.conds.get p).state = .sweeping ∨ (s.conds.get p).state = .parking)
    (left : 1 < (s.conds.get p).timer) :
    tickCond s p = s.setCond p { s.conds.get p with timer := (s.conds.get p).timer - 1 } := by
  unfold tickCond
  rcases runs with is | is <;> simp only [is, if_pos left]

theorem tickCond_timesOut (ends : (s.conds.get p).timer ≤ 1)
    (runs : (s.conds.get p).state = .parking ∨
      ((s.conds.get p).state = .sweeping ∧ (s.conds.get p).substate = .reaching)) :
    tickCond s p = timeOut p s := by
  unfold tickCond
  rcases runs with is | ⟨is, reaching⟩
  · simp only [is, if_neg (Nat.not_lt.mpr ends), parkTimeoutAt_eq, if_true]
  · simp only [is, if_neg (Nat.not_lt.mpr ends), reaching, reachTimeoutAt_eq]
    simp

theorem tickCond_dwells (ends : (s.conds.get p).timer ≤ 1) (sweeping : (s.conds.get p).state = .sweeping)
    (dwelling : (s.conds.get p).substate = .dwelling) : tickCond s p = endSegment p s := by
  unfold tickCond dwellEndAt
  simp only [sweeping, if_neg (Nat.not_lt.mpr ends), dwelling]
  simp

theorem endSegment_ne {q : Platen} (ne : q ≠ p) (s : State) :
    (endSegment q s).conds.get p = s.conds.get p := by
  unfold endSegment
  dsimp only
  (repeat' split) <;> simp [startSegment_eq, enterParking_eq, Tab.get_upd_ne _ _ ne]

theorem timeOut_ne {q : Platen} (ne : q ≠ p) (s : State) :
    (timeOut q s).conds.get p = s.conds.get p := by
  simp [timeOut, Tab.get_upd_ne _ _ ne]

theorem tickCond_ne {q : Platen} (ne : q ≠ p) (s : State) :
    (tickCond s q).conds.get p = s.conds.get p := by
  unfold tickCond dwellEndAt
  simp only [reachTimeoutAt_eq, parkTimeoutAt_eq]
  (repeat' split)
  · simp [Tab.get_upd_ne _ _ ne]
  · exact endSegment_ne ne s
  · rfl
  · exact timeOut_ne ne s
  · rfl
  · simp [Tab.get_upd_ne _ _ ne]
  · exact timeOut_ne ne s
  all_goals rfl

end

/-- Where conditioner `p` takes its tick: the other blocks leave its record. -/
theorem tickBlocks_cond (s : State) (p : Platen) :
    ∃ u, u.conds.get p = s.conds.get p ∧ u.profiles = s.profiles ∧ u.segments = s.segments ∧
      (tickBlocks s).conds.get p = (tickCond u p).conds.get p ∧
      ∀ i ∈ (tickCond u p).handed, i ∈ (tickBlocks s).handed := by
  have others (ps : List Platen) (no : p ∉ ps) (s : State) :
      (ps.foldl tickCond s).conds.get p = s.conds.get p :=
    foldl_leaves_of_not_mem (fun u : State => u.conds.get p) tickCond p (fun u q ne => tickCond_ne ne u)
      no s
  obtain ⟨before, after, is⟩ := List.append_of_mem (List.mem_finRange p)
  have nodup := is ▸ List.nodup_finRange 3
  have notBefore : p ∉ before := fun there => by
    simpa [there] using (List.nodup_cons.mp (List.nodup_middle.mp nodup)).1
  have notAfter : p ∉ after := fun there => by
    simpa [there] using (List.nodup_cons.mp (List.nodup_middle.mp nodup)).1
  have split (v : State) : (List.finRange 3).foldl tickCond v =
      after.foldl tickCond (tickCond (before.foldl tickCond v) p) := by
    rw [is, List.foldl_append, List.foldl_cons]
  refine ⟨before.foldl tickCond ((List.finRange 3).foldl tickDispense s.filtersTicked), ?_, ?_, ?_, ?_,
    fun i mem => ?_⟩
  · rw [others before notBefore]
    simp [State.filtersTicked, foldl_leaves State.conds]
  · simp [State.filtersTicked, foldl_leaves State.profiles]
  · simp [State.filtersTicked, foldl_leaves State.segments]
  · rw [tickBlocks_eq, split]
    refine Eq.trans ?_ (others after notAfter _)
    simp [foldl_leaves State.conds]
  · rw [tickBlocks_eq, split]
    generalize tickCond (before.foldl tickCond ((List.finRange 3).foldl tickDispense s.filtersTicked)) p =
      v at mem ⊢
    exact (tickIdles_hands (after.foldl tickCond v)).mem
      ((Hands.foldl tickCond_hands after (.refl v)).mem mem)

/-- A position update judged while a segment is reaching (R117). -/
theorem judgePosition_reaching {p : Platen} {k : Fin 8} {s : State} (fb : Nat)
    (sweeping : (s.conds.get p).state = .sweeping) (reaching : (s.conds.get p).substate = .reaching)
    (profile : (s.conds.get p).profile = some k) :
    judgePosition p fb s =
      if distance fb (s.conds.get p).target ≤ (s.profiles.get k).reachBand then
        if (s.segmentOf k (s.conds.get p).segment).dwell = 0 then
          segmentEnd p
            { s.conds.get p with
              substate := .dwelling, timer := (s.segmentOf k (s.conds.get p).segment).dwell } k s
        else
          s.setCond p
            { s.conds.get p with
              substate := .dwelling, timer := (s.segmentOf k (s.conds.get p).segment).dwell }
      else s := by
  have judged : judgePosition p fb s =
      if distance fb (s.conds.get p).target ≤ (s.profiles.get k).reachBand then
        if (s.segmentOf k (s.conds.get p).segment).dwell = 0 then
          endSegment p (s.setCond p
            { s.conds.get p with
              substate := .dwelling, timer := (s.segmentOf k (s.conds.get p).segment).dwell })
        else
          s.setCond p
            { s.conds.get p with
              substate := .dwelling, timer := (s.segmentOf k (s.conds.get p).segment).dwell }
      else s := by
    unfold judgePosition
    dsimp only
    split
    · next _ _ k' _ _ is =>
      obtain rfl : k = k' := Option.some_injective _ (profile.symm.trans is)
      rfl
    · next parking => simp [sweeping] at parking
    · next _ other => exact (other k sweeping reaching profile).elim
  rw [judged]
  exact if_congr Iff.rfl (if_congr Iff.rfl (endSegment_setCond profile rfl rfl) rfl) rfl

/-- Settles O45: each timer's end, a tick followed at one conditioner, and a position update. -/
theorem conditionerTimers : Obligations.ConditionerTimers := by
  intro p s c faulted fault segment segmentEnd'
  have port {a b : State} (same : a = b) : nextPort a = .next (State.kickPort b) := by
    rw [same]
    rfl
  have ends (k : Fin 8) (i : Instr) : segmentEnd' k (s.takeUp i) = segmentEnd p c k (s.takeUp i) := rfl
  refine ⟨port (reachTimeoutAt_eq p _), port (parkTimeoutAt_eq p _), ?_, fun goesOn => ?_, fun fb => ?_⟩
  · intro t
    refine ⟨fun rests => port (if_neg rests), fun sweeping dwelling k profile => port ?_⟩
    exact (if_pos ⟨sweeping, dwelling⟩).trans (endSegment_eq (s := t) profile)
  · obtain ⟨u, cond, profiles, segments, after, hands⟩ := tickBlocks_cond (s.takeUp .tick) p
    have isAfter : (s.after .tick).conds.get p = (tickCond u p).conds.get p :=
      (congrArg (Tab.get · p) (after_tick_part goesOn State.conds (fun _ => rfl) (by simp))).trans after
    have isCond : u.conds.get p = c := cond
    refine ⟨_, exec_tick s, fun rests => ?_, fun runs left => ?_, fun out runs => ?_,
      fun out sweeping dwelling => ?_⟩
    · rw [isAfter, tickCond_rests (isCond ▸ rests), isCond]
    · rw [isAfter, tickCond_counts (isCond ▸ runs) (isCond ▸ left), isCond]
      simp
    · have times := tickCond_timesOut (s := u) (p := p) (isCond ▸ out) (isCond ▸ runs)
      rw [times] at isAfter hands
      refine ⟨isAfter.trans ?_, ?_⟩
      · simp [timeOut, isCond]
        rfl
      · rw [after_tick_handed goesOn]
        refine hands _ ?_
        simp [timeOut, isCond]
    · refine ⟨_, port rfl, ?_⟩
      rw [isAfter, tickCond_dwells (isCond ▸ out) (isCond ▸ sweeping) (isCond ▸ dwelling)]
      have dwells : dwellEndAt p (s.takeUp (.dwellEnd p)) = endSegment p (s.takeUp (.dwellEnd p)) :=
        if_pos ⟨sweeping, dwelling⟩
      rw [dwells]
      simp only [State.kickPort_frame]
      exact endSegment_cond_congr cond profiles segments
  · intro t away
    have isAway : distance fb c.target = away := by
      unfold distance
      omega
    have cond : t.conds.get p = c := rfl
    have row {x : State} (is : judgePosition p fb t = x) :
        exec (.positionUpdate p fb) s = .next (State.kickPort x) := port is
    refine ⟨fun rests => row ?_, fun parking => row ?_, fun sweeping reaching k profile => row ?_⟩
    · unfold judgePosition
      rw [cond]
      rcases rests with is | is | ⟨is, dwelling⟩ <;> simp [is]
      simp [dwelling]
    · unfold judgePosition
      simp only [cond, parking, isAway]
      rfl
    · rw [judgePosition_reaching (s := t) fb sweeping reaching profile, cond, isAway]
      by_cases outside : (s.profiles.get k).reachBand < away
      · rw [if_pos outside]
        exact if_neg (Nat.not_le.mpr outside)
      · rw [if_neg outside]
        exact if_pos (Nat.not_lt.mp outside)

end Sys2Proof.Machine
end

section
/-! PROOFS. Writes to the tables. -/

namespace Sys2Proof.Machine

open Sys2Proof

/-! ### Settling O46 -/

/-- Settles O46: each table's writes are dropped by their claim or applied. -/
theorem claimedRecordsAreKept : Obligations.ClaimedRecordsAreKept := by
  intro s claimed swept inRange drop
  refine ⟨fun h => rfl, fun i e => ?_, fun i r => ?_, fun k e => ?_, fun i r => ?_⟩
  · intro wrote
    rw [show claimed i ↔ s.programClaimed i = true from (programClaimed_iff s i).symm]
    exact ⟨fun held => ⟨congrArg Host.Outcome.next (if_pos held), congrArg Host.Outcome.next (if_pos held)⟩,
      fun free => ⟨congrArg Host.Outcome.next (if_neg free), congrArg Host.Outcome.next (if_neg free)⟩⟩
  · intro wrote held
    rw [show held ↔ s.stepClaimed i = true from (stepClaimed_iff s i).symm]
    exact ⟨fun held => ⟨congrArg Host.Outcome.next (if_pos held), congrArg Host.Outcome.next (if_pos held)⟩,
      fun free => ⟨congrArg Host.Outcome.next (if_neg free), congrArg Host.Outcome.next (if_neg free)⟩⟩
  · intro wrote
    rw [show swept k ↔ s.profileClaimed k = true from (profileClaimed_iff s k).symm]
    have writes {c : Instr} {e : ProfileEntry} (plain : ∀ g, c ≠ .writeNotice g)
        (runs : exec c s = .next ((State.setProfiles (s.takeUp c) (s.profiles.upd k e)).handWriteNotice
          (.profile k))) : wrote c e := by
      refine runs.trans ?_
      rw [← State.written_takeUp_of_ne plain]
      rfl
    exact ⟨fun held => ⟨congrArg Host.Outcome.next (if_pos held), congrArg Host.Outcome.next (if_pos held)⟩,
      fun free => ⟨writes (by simp) (congrArg Host.Outcome.next (if_neg free)),
        writes (by simp) (congrArg Host.Outcome.next (if_neg free))⟩⟩
  · intro wrote held
    rw [show held ↔ s.segmentClaimed i = true from (segmentClaimed_iff s i).symm]
    have writes {c : Instr} {r : SegmentRecord} (plain : ∀ g, c ≠ .writeNotice g)
        (runs : exec c s = .next ((State.setSegments (s.takeUp c) (s.segments.upd i r)).handWriteNotice
          (.segment i))) : wrote c r := by
      refine runs.trans ?_
      rw [← State.written_takeUp_of_ne plain]
      rfl
    exact ⟨fun held => ⟨congrArg Host.Outcome.next (if_pos held), congrArg Host.Outcome.next (if_pos held)⟩,
      fun free => ⟨writes (by simp) (congrArg Host.Outcome.next (if_neg free)),
        writes (by simp) (congrArg Host.Outcome.next (if_neg free))⟩⟩

/-! ### Zone Config writes -/

theorem markChange_ite (s : State) (i : Chan) (old new : Nat) :
    s.markChange i old new =
      { s with
        reg :=
          if new ≠ old ∧ new ≠ s.reg.last.get i then
            { s.reg with pending := s.reg.pending.upd i true }
          else s.reg } := by
  unfold State.markChange
  split <;> rfl

/-- Everything that setting a setpoint does (R56, R57, R59). -/
theorem setSetpoint_eq (s : State) (c : ZoneCh) (v : Nat) :
    s.setSetpoint c v =
      { s with
        zones :=
          s.zones.upd c
            { s.zones.get c with
              setpoint := v, code := regulatorCode (s.zoneConfig c).range v
              saturated := decide (regulatorCode (s.zoneConfig c).range v = 4095) }
        reg :=
          if regulatorCode (s.zoneConfig c).range v ≠ (s.zones.get c).code ∧
              regulatorCode (s.zoneConfig c).range v ≠ s.reg.last.get (chanOfZone c) then
            { s.reg with pending := s.reg.pending.upd (chanOfZone c) true }
          else s.reg
        handed :=
          s.handed ++
            (if regulatorCode (s.zoneConfig c).range v = 4095 ∧ (s.zones.get c).saturated = false then
              [.eventRaise .saturated (.zone c) (w16 v) (w16 (rangeCode (s.zoneConfig c).range))]
            else []) } := by
  unfold State.setSetpoint
  simp only [markChange_ite]
  split
  · rfl
  · rw [List.append_nil]
    rfl

theorem applyZone_dropped {isErase : Bool} {c : ZoneCh} {e : ZoneConfig} {s : State}
    (busy : (s.heads.get (headOfZone c)).state = .running ∨
      (s.heads.get (headOfZone c)).state = .paused) :
    applyZone isErase c e s = s.raiseDropped .zone .zone isErase c.val :=
  if_pos (isActive_iff.mpr busy)

/-- The zone as a write leaves it. -/
def ZoneChannel.written (z : ZoneChannel) (st : HeadState) (e : ZoneConfig) : ZoneChannel :=
  { z with
    config := e, setpoint := setpointUnder st (ZoneConfig.effective e) z.setpoint
    code := regulatorCode (ZoneConfig.effective e).range
      (setpointUnder st (ZoneConfig.effective e) z.setpoint)
    saturated := decide (regulatorCode (ZoneConfig.effective e).range
      (setpointUnder st (ZoneConfig.effective e) z.setpoint) = 4095) }

/-- A zone's new entry with the setpoint that it brings. -/
def State.writeZone (s : State) (c : ZoneCh) (e : ZoneConfig) : State :=
  (s.setZone c { s.zones.get c with config := e }).setSetpoint c
    (setpointUnder (s.heads.get (headOfZone c)).state (ZoneConfig.effective e)
      (s.zones.get c).setpoint)

theorem writeZone_eq (s : State) (c : ZoneCh) (e : ZoneConfig) :
    s.writeZone c e =
      let old := s.zones.get c
      let new := old.written (s.heads.get (headOfZone c)).state e
      let i := chanOfZone c
      { s with
        zones := s.zones.upd c new
        reg :=
          if new.code ≠ old.code ∧ new.code ≠ s.reg.last.get i then
            { s.reg with pending := s.reg.pending.upd i true }
          else s.reg
        handed :=
          s.handed ++
            (if new.code = 4095 ∧ old.saturated = false then
              [.eventRaise .saturated (.zone c) (w16 new.setpoint)
                (w16 (rangeCode (ZoneConfig.effective e).range))]
            else []) } := by
  have entry : (s.setZone c { s.zones.get c with config := e }).zoneConfig c =
      ZoneConfig.effective e := by simp [State.zoneConfig]
  unfold State.writeZone
  rw [setSetpoint_eq, entry]
  simp only [State.setZone, Tab.get_upd_same, Tab.upd_upd]
  rfl

/-- A write to a zone whose head runs no program. -/
theorem applyZone_applied {isErase : Bool} {c : ZoneCh} {e : ZoneConfig} {s : State}
    (rests : ¬((s.heads.get (headOfZone c)).state = .running ∨
      (s.heads.get (headOfZone c)).state = .paused)) :
    applyZone isErase c e s =
      let h := headOfZone c
      let r := s.heads.get h
      let t := s.writeZone c e
      { t with
        filters :=
          s.filters.upd (chanOfZone c) { s.filters.get (chanOfZone c) with sum := 0, count := 0 }
        heads :=
          if r.state = .safeHold then s.heads.upd h { r with substate := t.safeSubstate h }
          else s.heads
        written := s.written ++ [.zone c]
        handed := t.handed ++ [.writeNotice .zone] } := by
  rw [← isActive_iff] at rests
  have filters : (s.writeZone c e).filters = s.filters := by
    rw [writeZone_eq]
  have heads : (s.writeZone c e).heads = s.heads := by
    rw [writeZone_eq]
  have written : (s.writeZone c e).written = s.written := by
    rw [writeZone_eq]
  refine (if_neg rests).trans ?_
  dsimp only
  rw [show (s.setZone c { s.zones.get c with config := e }).setSetpoint c
    (setpointUnder ((s.setZone c { s.zones.get c with config := e }).heads.get (headOfZone c)).state
      (ZoneConfig.effective e) (s.zones.get c).setpoint) = s.writeZone c e from rfl]
  generalize s.writeZone c e = t at filters heads written ⊢
  rw [← filters, ← heads, ← written]
  by_cases hold : (t.heads.get (headOfZone c)).state = .safeHold
  · rw [if_pos hold]
    exact congrArg (fun u : State => u.handWriteNotice (.zone c)) (if_pos hold)
  · rw [if_neg hold]
    exact congrArg (fun u : State => u.handWriteNotice (.zone c)) (if_neg hold)

/-! ### Settling O47 -/

/-- Settles O47: a write to each table is dropped while its entry is in use, or applied. -/
theorem zoneAndLineWrites : Obligations.ZoneAndLineWrites := by
  refine ⟨?_, ?_⟩
  · intro c e s h r old x mem t effective setpoint code new zones i
    have row : ∃ isErase, exec x.1 s = nextPort (applyZone isErase c x.2.1 t) ∧
        x.2.2.2 = (if isErase then 3 else 2) ∧ effective = ZoneConfig.effective x.2.1 ∧
          t.written = s.written := by
      simp only [List.mem_cons, List.not_mem_nil, or_false] at mem
      rcases mem with rfl | rfl
      · exact ⟨false, rfl, rfl, rfl, State.written_takeUp_of_ne (by simp)⟩
      · exact ⟨true, rfl, rfl, rfl, State.written_takeUp_of_ne (by simp)⟩
    obtain ⟨isErase, runs, request, entry, written⟩ := row
    refine ⟨fun busy => ?_, fun notRunning notPaused => ?_⟩
    · rw [runs, applyZone_dropped (s := t) busy, request]
      rfl
    · have rests : ¬(r.state = .running ∨ r.state = .paused) := not_or.mpr ⟨notRunning, notPaused⟩
      have isSetpoint : setpointUnder r.state effective old.setpoint = setpoint := by
        cases is : r.state <;> simp [setpointUnder, setpoint, is, clampNat]
      have isCode : regulatorCode effective.range setpoint = code := by
        cases is : effective.range <;> simp [regulatorCode, code, is]
      have isNew : old.written r.state x.2.1 = new := by
        unfold ZoneChannel.written
        rw [← entry, isSetpoint, isCode]
      have isNewT : (t.zones.get c).written (t.heads.get (headOfZone c)).state x.2.1 = new := isNew
      have writes := writeZone_eq t c x.2.1
      dsimp only at writes
      rw [isNewT, ← entry] at writes
      have applied := applyZone_applied (isErase := isErase) (e := x.2.1) (s := t) rests
      have substate := safeSubstate_eq (t.writeZone c x.2.1) h
      rw [writes] at substate
      dsimp only at applied
      rw [show headOfZone c = h from rfl, writes, substate, written] at applied
      rw [runs, applied]
      rfl
  · intro i e s x mem t held
    have inUse : held ↔ s.lineInUse (platenOfLine i) (lineOfLine i) = true := (lineInUse_iff ..).symm
    rw [inUse]
    have written : (s.takeUp x.1).written = s.written := State.written_takeUp_of_ne (by
      simp only [List.mem_cons, List.not_mem_nil, or_false] at mem
      rcases mem with rfl | rfl <;> simp)
    simp only [← written]
    simp only [List.mem_cons, List.not_mem_nil, or_false] at mem
    rcases mem with rfl | rfl
    · exact ⟨fun held => congrArg Host.Outcome.next (if_pos held),
        fun free => congrArg Host.Outcome.next (if_neg free)⟩
    · exact ⟨fun held => congrArg Host.Outcome.next (if_pos held),
        fun free => congrArg Host.Outcome.next (if_neg free)⟩

end Sys2Proof.Machine
end

section
/-! PROOFS. The Table Verifier. -/

namespace Sys2Proof.Machine

open Sys2Proof

/-! ### The image of a group -/

/-- The image of a group is spelled by the tables alone. -/
theorem groupImage_congr {s t : State} (map : t.map = s.map) (store : t.store = s.store)
    (zones : ∀ c, (t.zones.get c).config = (s.zones.get c).config) (lines : SameLines s t)
    (profiles : t.profiles = s.profiles) (segments : t.segments = s.segments) (g : Group) :
    t.groupImage g = s.groupImage g := by
  cases g with
  | cellmap => simp [State.groupImage, cellmapImage, map]
  | program => simp [State.groupImage, programImage, store]
  | zone => simp [State.groupImage, zoneImage, entries_eq_map, List.flatMap_map, zones]
  | line => simp [State.groupImage, lineImage, entries_eq_map, List.flatMap_map, lines _]
  | sweep => simp [State.groupImage, sweepImage, profiles, segments]

theorem groupImage_of_tables {s t : State} (map : t.map = s.map) (store : t.store = s.store)
    (zones : t.zones = s.zones) (lines : t.lines = s.lines)
    (profiles : t.profiles = s.profiles) (segments : t.segments = s.segments) (g : Group) :
    t.groupImage g = s.groupImage g :=
  groupImage_congr map store (fun c => by rw [zones]) (.of_lines lines) profiles segments g

/-! ### One group's tick -/

/-- A group's record as its scan ends with `crc` (R164, R166). -/
def GroupRecord.judged (r : GroupRecord) (crc : BitVec 16) : GroupRecord :=
  ⟨if crc = r.check then .verified else .failed, r.check, 0, 0xFFFF#16, 0⟩

/-- The CRC of a scan carried over the rest of the image. -/
def GroupRecord.finalCrc (r : GroupRecord) (image : List Octet) : BitVec 16 :=
  crc16Run r.crc (image.drop r.position)

/-- A group's record after a tick, over its image (R164, R166). -/
def GroupRecord.ticked (r : GroupRecord) (image : List Octet) : GroupRecord :=
  if scanTicks r.state = 0 then r
  else if r.ticks + 1 < scanTicks r.state then scanStep (r.ticks + 1) (scanTicks r.state) image r
  else r.judged (r.finalCrc image)

/-- What a group's last tick hands where the image does not match its check word. -/
def faultNotices (g : Group) (crc check : BitVec 16) : List Instr :=
  .eventRaise .tableFault (.group g) crc check :: failedNotices g

section
variable {g : Group} {s : State}

theorem failGroup_eq (g : Group) (crc : BitVec 16) (s : State) :
    failGroup g crc s =
      { s with
        verifier := s.verifier.setGroup g ⟨.failed, (s.verifier.group g).check, 0, 0xFFFF#16, 0⟩
        handed := s.handed ++ faultNotices g crc (s.verifier.group g).check } := by
  unfold failGroup faultNotices
  simp [State.raise, State.hand, State.handAll, State.setHanded, State.setGroup, State.setVerifier,
    GroupRecord.fresh, crc16Init]

theorem completeScan_verified (same : s.finalCrc g = (s.verifier.group g).check) :
    completeScan g s =
      { s with
        verifier :=
          s.verifier.setGroup g ⟨.verified, (s.verifier.group g).check, 0, 0xFFFF#16, 0⟩
        handed :=
          s.handed ++
            [.eventRaise .tableVerified (.group g) (s.verifier.group g).check
              (Config.tableVerifiedDetail2 s.free)]
        free := s.free + 1 } := by
  unfold completeScan
  dsimp only
  rw [if_pos same]
  simp [State.raise, State.hand, State.setHanded, State.setGroup, State.setVerifier,
    GroupRecord.fresh, crc16Init]

/-- The group's record as a scan or rescan completes. -/
theorem completeAt_group
    (scans : (s.verifier.group g).state = .verifying ∨ (s.verifier.group g).state = .verified) :
    (completeAt g s).verifier.group g = (s.verifier.group g).judged (s.finalCrc g) ∧
      (s.finalCrc g ≠ (s.verifier.group g).check →
        ∀ i ∈ faultNotices g (s.finalCrc g) (s.verifier.group g).check,
          i ∈ (completeAt g s).handed) := by
  have scan : (completeScan g s).verifier.group g = (s.verifier.group g).judged (s.finalCrc g) ∧
      (s.finalCrc g ≠ (s.verifier.group g).check → completeScan g s = failGroup g (s.finalCrc g) s) := by
    unfold completeScan GroupRecord.judged
    by_cases same : s.finalCrc g = (s.verifier.group g).check
    · simp [same, GroupRecord.fresh, crc16Init]
    · simp [same, failGroup_eq]
  have rescan : (completeRescan g s).verifier.group g = (s.verifier.group g).judged (s.finalCrc g) ∧
      (s.finalCrc g ≠ (s.verifier.group g).check →
        completeRescan g s = failGroup g (s.finalCrc g) s) := by
    unfold completeRescan GroupRecord.judged
    by_cases same : s.finalCrc g = (s.verifier.group g).check
    · simp [same, GroupRecord.fresh, crc16Init]
    · simp [same, failGroup_eq]
  have told : ∀ i ∈ faultNotices g (s.finalCrc g) (s.verifier.group g).check,
      i ∈ (failGroup g (s.finalCrc g) s).handed := fun i mem => by
    rw [failGroup_eq]
    exact List.mem_append_right _ mem
  unfold completeAt
  rcases scans with is | is
  · simp only [is]
    exact ⟨scan.1, fun fault => scan.2 fault ▸ told⟩
  · simp only [is]
    exact ⟨rescan.1, fun fault => rescan.2 fault ▸ told⟩

theorem tickGroup_same (s : State) (g : Group) :
    (tickGroup s g).verifier.group g = (s.verifier.group g).ticked (s.groupImage g) := by
  unfold tickGroup GroupRecord.ticked
  dsimp only
  split_ifs with unscanned more
  · rfl
  · simp
  · refine (completeAt_group ?_).1
    cases is : (s.verifier.group g).state <;> simp_all [scanTicks]

theorem tickGroup_ne {k : Group} (ne : k ≠ g) (s : State) :
    (tickGroup s k).verifier.group g = s.verifier.group g := by
  unfold tickGroup completeAt completeScan completeRescan
  simp only [failGroup_eq]
  (repeat' split) <;> simp [Verifier.group_setGroup_ne _ _ ne]

theorem tickGroup_image (s : State) (k g : Group) :
    (tickGroup s k).groupImage g = s.groupImage g :=
  groupImage_of_tables (by simp) (by simp) (by simp) (by simp) (by simp) (by simp) g

theorem tickGroup_faults
    (scans : (s.verifier.group g).state = .verifying ∨ (s.verifier.group g).state = .verified)
    (last : scanTicks (s.verifier.group g).state ≤ (s.verifier.group g).ticks + 1)
    (fault : s.finalCrc g ≠ (s.verifier.group g).check) :
    ∀ i ∈ faultNotices g (s.finalCrc g) (s.verifier.group g).check, i ∈ (tickGroup s g).handed := by
  have scanned : scanTicks (s.verifier.group g).state ≠ 0 := by
    rcases scans with is | is <;> simp [is, scanTicks]
  have ends : tickGroup s g = completeAt g s := by
    unfold tickGroup
    dsimp only
    rw [if_neg scanned, if_neg (Nat.not_lt.mpr last)]
  rw [ends]
  exact (completeAt_group scans).2 fault

end

/-! ### The tick at the Table Verifier -/

/-- The state as the Table Verifier takes a tick. -/
def State.inputsTicked (s : State) : State :=
  (List.finRange 16).foldl tickInput (tickPort
    ((List.finRange 3).foldl tickIdle ((List.finRange 3).foldl tickCond
      ((List.finRange 3).foldl tickDispense s.filtersTicked))))

theorem tickBlocks_inputsTicked (s : State) : tickBlocks s = tickVerifier s.inputsTicked := rfl

theorem inputsTicked_verifier (s : State) : s.inputsTicked.verifier = s.verifier := by
  simp [State.inputsTicked, State.filtersTicked, foldl_leaves State.verifier]

/-- A tick changes no table. -/
theorem inputsTicked_image (s : State) (g : Group) : s.inputsTicked.groupImage g = s.groupImage g := by
  refine groupImage_congr ?_ ?_ (fun c => ?_) (fun i => ?_) ?_ ?_ g
  · simp [State.inputsTicked, State.filtersTicked, foldl_leaves State.map]
  · simp [State.inputsTicked, State.filtersTicked, foldl_leaves State.store]
  · have heads := tickHeads_sameConfig { advanceTime (1000 - s.phase) s with phase := 0 } c
    have zones : s.inputsTicked.zones = ((List.finRange 4).foldl tickHead
        { advanceTime (1000 - s.phase) s with phase := 0 }).zones := by
      simp [State.inputsTicked, State.filtersTicked, foldl_leaves State.zones]
    rw [zones, heads]
    simp
  · have same := (tickBlocks_keeps s).lines i
    rw [tickBlocks_inputsTicked] at same
    simpa using same
  · simp [State.inputsTicked, State.filtersTicked, foldl_leaves State.profiles]
  · simp [State.inputsTicked, State.filtersTicked, foldl_leaves State.segments]

section
variable (g : Group) (s : State)

/-- Every group takes the tick once. -/
theorem groups_once : [Group.cellmap, .program, .zone, .line, .sweep].Nodup ∧
    g ∈ [Group.cellmap, .program, .zone, .line, .sweep] := by
  refine ⟨by decide, ?_⟩
  cases g <;> decide

theorem tickBlocks_group :
    (tickBlocks s).verifier.group g = (s.verifier.group g).ticked (s.groupImage g) := by
  have run := foldl_acts_once (fun u : State => (u.verifier.group g, u.groupImage g))
    (fun x => (x.1.ticked x.2, x.2)) tickGroup g
    (fun u => Prod.ext (tickGroup_same u g) (tickGroup_image u g g))
    (fun u k ne => Prod.ext (tickGroup_ne ne u) (tickGroup_image u k g))
    (groups_once g).1 (groups_once g).2 s.inputsTicked
  have record := (Prod.mk.inj run).1
  rw [inputsTicked_verifier, inputsTicked_image] at record
  exact record

theorem tickBlocks_faults
    (scans : (s.verifier.group g).state = .verifying ∨ (s.verifier.group g).state = .verified)
    (last : scanTicks (s.verifier.group g).state ≤ (s.verifier.group g).ticks + 1)
    (fault : s.finalCrc g ≠ (s.verifier.group g).check) :
    ∀ i ∈ faultNotices g (s.finalCrc g) (s.verifier.group g).check, i ∈ (tickBlocks s).handed := by
  intro i mem
  refine foldl_hands_once (fun u : State => (u.verifier.group g, u.groupImage g))
    (fun u k ne => Prod.ext (tickGroup_ne ne u) (tickGroup_image u k g)) tickGroup_hands
    (groups_once g).1 (groups_once g).2 (s := s.inputsTicked) fun u at_ => ?_
  obtain ⟨record, image⟩ := Prod.mk.inj at_
  rw [inputsTicked_verifier] at record
  rw [inputsTicked_image] at image
  have crc : u.finalCrc g = s.finalCrc g := by
    unfold State.finalCrc
    rw [record, image]
  have faults := tickGroup_faults (s := u) (g := g)
  rw [record, crc] at faults
  exact faults scans last fault i mem

end

/-- Settles O49: each row, and a tick followed at one group. -/
theorem groupsAreVerified : Obligations.GroupsAreVerified := by
  intro g s r crc put receivers failed
  have isReceivers : failedNotices g = receivers := by cases g <;> rfl
  have fails (c : Instr) : failGroup g crc (s.takeUp c) = failed (s.takeUp c) := by
    rw [failGroup_eq, faultNotices, isReceivers]
    rfl
  refine ⟨rfl, fun w => rfl, ?_, ?_, fun goesOn => ?_⟩
  · intro t
    refine ⟨fun idle => congrArg Host.Outcome.next (if_neg idle), fun scans differs => ?_,
      fun scans same => ?_⟩
    · refine congrArg Host.Outcome.next ((if_pos scans).trans ((if_neg differs).trans ?_))
      exact fails _
    · refine ⟨completeScan g t, Config.tableVerifiedDetail2 s.free,
        congrArg Host.Outcome.next (if_pos scans), ?_⟩
      rw [completeScan_verified (s := t) same]
      rfl
  · by_cases scans : r.state = .verified
    · refine congrArg Host.Outcome.next ((if_pos scans).trans ?_)
      rw [if_neg (not_not_intro scans), completeRescan]
      by_cases same : crc = r.check
      · exact (if_pos same).trans (if_pos same).symm
      · exact (if_neg same).trans ((fails _).trans (if_neg same).symm)
    · exact congrArg Host.Outcome.next ((if_neg scans).trans (if_pos scans).symm)
  · intro span position
    have record : (s.after .tick).verifier.group g = r.ticked (s.groupImage g) :=
      (congrArg (Verifier.group · g)
        (after_tick_part goesOn State.verifier (fun _ => rfl) (by simp))).trans
          (tickBlocks_group g (s.takeUp .tick))
    have ticks (scans : r.state = .verifying ∨ r.state = .verified) : scanTicks r.state = span := by
      rcases scans with is | is <;> simp [span, is, scanTicks]
    have scanned : span ≠ 0 := by
      unfold span
      split <;> decide
    refine ⟨s.after .tick, exec_tick s, fun idle unverified => record.trans ?_, fun scans => ?_⟩
    · refine if_pos ?_
      cases is : r.state <;> simp_all [scanTicks]
    · refine ⟨fun more => record.trans ?_, fun last => ⟨record.trans ?_, fun differs => ?_⟩⟩
      · rw [GroupRecord.ticked, ticks scans, if_neg scanned, if_pos more]
        rfl
      · rw [GroupRecord.ticked, ticks scans, if_neg scanned, if_neg (Nat.not_lt.mpr last)]
        rfl
      · rw [after_tick_handed goesOn]
        have told := tickBlocks_faults g (s.takeUp .tick) scans
          (le_of_eq_of_le (ticks scans) last) differs
        refine ⟨told _ (List.mem_cons_self ..), fun i mem => told i (List.mem_cons_of_mem _ ?_)⟩
        rw [isReceivers]
        exact mem

end Sys2Proof.Machine
end

section
/-! PROOFS. The checks of a SET, and what each SET replaces. -/

namespace Sys2Proof.Machine

open Sys2Proof

/-! ### The checks of each setting -/

theorem kindOf_past {n : Nat} (past : 24 < n) : kindOf n = none :=
  List.getElem?_eq_none (show allKinds.length ≤ n from past)

theorem boolOf_listed {n : Nat} (low : n ≤ 1) : boolOf n = some (decide (n = 1)) := by
  interval_cases n <;> rfl

section
variable {p : List Octet}

/-- A SET with a setting past Table 13-5's. -/
theorem judgeSet_past (past : 10 < octAt p 1) : judgeSet p = refuse .badRequest := by
  unfold judgeSet
  generalize octAt p 1 = n at past
  obtain ⟨m, rfl⟩ := Nat.exists_eq_add_of_le' past
  rfl

theorem judgePlatenSetting_judged (p : List Octet) (lo hi : Nat) (stage : Platen → Nat → Instr) :
    (2 < octAt p 2 → judgePlatenSetting p lo hi stage = refuse .badIndex) ∧
      (octAt p 2 ≤ 2 → ¬(lo ≤ octAt16 p 3 ∧ octAt16 p 3 ≤ hi) →
        judgePlatenSetting p lo hi stage = refuse .badValue) ∧
      ∀ d : Platen, octAt p 2 = d.val → lo ≤ octAt16 p 3 → octAt16 p 3 ≤ hi →
        judgePlatenSetting p lo hi stage = accept (stage d (octAt16 p 3)) := by
  unfold judgePlatenSetting
  refine ⟨fun past => dif_neg (by omega), fun inside out => ?_, fun d at_ low high => ?_⟩
  · rw [dif_pos (by omega), if_neg out]
  · have inside : octAt p 2 < 3 := at_ ▸ d.isLt
    rw [dif_pos inside, if_pos ⟨low, high⟩]
    exact congrArg (fun i => accept (stage i _)) (Fin.ext at_)

theorem judgeIdleLine_judged (p : List Octet) :
    (2 < octAt p 2 → judgeIdleLine p = refuse .badIndex) ∧
      (octAt p 2 ≤ 2 → 3 < octAt16 p 3 → judgeIdleLine p = refuse .badValue) ∧
      ∀ (d : Platen) (l : Line), octAt p 2 = d.val → octAt16 p 3 = l.val →
        judgeIdleLine p = accept (.setIdleLine d l) := by
  unfold judgeIdleLine
  refine ⟨fun past => dif_neg (by omega), fun inside out => ?_, fun d l atD atL => ?_⟩
  · rw [dif_pos (by omega), dif_neg (by omega)]
  · have inside : octAt p 2 < 3 := atD ▸ d.isLt
    have insideL : octAt16 p 3 < 4 := atL ▸ l.isLt
    rw [dif_pos inside, dif_pos insideL]
    exact congrArg accept (congrArg₂ Instr.setIdleLine (Fin.ext atD) (Fin.ext atL))

theorem judgeExpress_judged (p : List Octet) (stage : Option EventKind → Instr) :
    (octAt p 3 = 255 → judgeExpress p stage = accept (stage none)) ∧
      (24 < octAt p 3 → octAt p 3 < 255 → judgeExpress p stage = refuse .badValue) ∧
      ∀ k : EventKind, octAt p 3 = (kindCode k).val →
        judgeExpress p stage = accept (stage (some k)) := by
  unfold judgeExpress
  refine ⟨fun none' => if_pos none', fun past low => ?_, fun k at_ => ?_⟩
  · rw [if_neg (by omega), kindOf_past past]
  · have small := (kindCode k).isLt
    rw [if_neg (by omega), at_, kindOf_code]

theorem judgeEventKind_judged (p : List Octet) :
    (24 < octAt p 2 → judgeEventKind p = refuse .badIndex) ∧
      (octAt p 2 ≤ 24 → 3 < octAt p 3 ∨ 1 < octAt p 4 → judgeEventKind p = refuse .badValue) ∧
      ∀ (k : EventKind) (level : Fin 4), octAt p 2 = (kindCode k).val → octAt p 3 = level.val →
        octAt p 4 ≤ 1 → judgeEventKind p = accept (.setEventKind k level (octAt p 4 = 1)) := by
  unfold judgeEventKind
  refine ⟨fun past => by rw [kindOf_past past], fun inside past => ?_, fun k level atK atL low => ?_⟩
  · obtain ⟨k, known⟩ : ∃ k, kindOf (octAt p 2) = some k :=
      ⟨_, List.getElem?_eq_getElem (show octAt p 2 < allKinds.length from Nat.lt_succ_of_le inside)⟩
    rw [known]
    by_cases enable : 1 < octAt p 4
    · simp only [boolOf_past enable]
    · simp only [boolOf_listed (Nat.le_of_not_lt enable)]
      rw [dif_neg (by omega)]
  · have inside : octAt p 3 < 4 := atL ▸ level.isLt
    rw [atK, kindOf_code]
    simp only [boolOf_listed low]
    rw [dif_pos inside]
    exact congrArg (fun i => accept (.setEventKind k i _)) (Fin.ext atL)

theorem judgeCadence_judged (p : List Octet) :
    judgeCadence p =
      if 250 ≤ octAt16 p 3 ∧ octAt16 p 3 ≤ 10000 ∧ 1 ≤ octAt16 p 5 ∧ octAt16 p 5 < octAt16 p 3 ∧
          octAt16 p 3 < octAt16 p 7 ∧ octAt16 p 7 ≤ 4 * octAt16 p 3 ∧ 1 ≤ octAt p 9 ∧
          octAt p 9 ≤ 15 then
        accept (.setCadence (octAt16 p 3) (octAt16 p 5) (octAt16 p 7) (octAt p 9))
      else refuse .badValue := by
  refine if_congr ?_ rfl rfl
  simp only [cadenceInRange, Bool.and_eq_true, decide_eq_true_eq]
  omega

end

/-- Settles O50: the check of each setting, and each row as it stands. -/
theorem settingsAreReplaced : Obligations.SettingsAreReplaced := by
  refine ⟨fun p s code length => ?_, fun s => ?_⟩
  · intro j value platenSetting express
    have own : j = judgeSet p :=
      (judgeRequest_plain (r := .set) (by rw [code]; rfl) rfl).trans (if_neg (not_not.mpr length))
    have setting {n lo hi : Nat} {stage : Platen → Nat → Instr}
        (is : octAt p 1 = n → judgeSet p = judgePlatenSetting p lo hi stage) :
        platenSetting n lo hi stage := fun at_ => by
      rw [own, is at_]
      exact judgePlatenSetting_judged p lo hi stage
    have kind {n : Nat} {stage : Option EventKind → Instr}
        (is : octAt p 1 = n → judgeSet p = judgeExpress p stage) : express n stage := fun at_ => by
      rw [own, is at_]
      exact judgeExpress_judged p stage
    refine ⟨fun past => own.trans (judgeSet_past past), fun at_ => ?_, fun at_ => ?_,
      kind fun at_ => by simp only [judgeSet, at_], kind fun at_ => by simp only [judgeSet, at_], fun at_ => ?_,
      setting fun at_ => by simp only [judgeSet, at_], fun at_ => ?_,
      setting fun at_ => by simp only [judgeSet, at_], setting fun at_ => by simp only [judgeSet, at_],
      setting fun at_ => by simp only [judgeSet, at_], setting fun at_ => by simp only [judgeSet, at_]⟩
    · simp only [own, judgeSet, at_]
      exact judgeCadence_judged p
    · simp only [own, judgeSet, at_]
      by_cases past : 1 < octAt p 3
      · simp only [boolOf_past past, if_pos past]
      · simp only [boolOf_listed (Nat.le_of_not_lt past), if_neg past]
    · simp only [own, judgeSet, at_]
      exact judgeEventKind_judged p
    · simp only [own, judgeSet, at_]
      exact judgeIdleLine_judged p
  · refine ⟨fun a b c v => rfl, fun on => rfl, fun k => ⟨rfl, rfl⟩, fun k level on => ?_,
      fun p v => ⟨rfl, rfl, rfl⟩⟩
    have kinds : s.events.kinds.upd (kindCode k) ⟨level, on⟩ =
        Tab.ofFn fun i => if i = kindCode k then ⟨level, on⟩ else s.events.kinds.get i :=
      Tab.ext_get fun i => by simp [Tab.get_upd, eq_comm]
    rw [← kinds]
    rfl

end Sys2Proof.Machine
end

section
/-! PROOFS. The judgements of the Cadence Monitor. -/

namespace Sys2Proof.Machine

open Sys2Proof

/-! ### A violation by the monitor's state (R172) -/

section
variable (v : Violation) {s : State}

theorem cadenceViolation_unarmed (is : s.cadence.state = .unarmed) : cadenceViolation v s = s := by
  unfold cadenceViolation
  simp only [is]

theorem cadenceViolation_counts (is : s.cadence.state = .locked)
    (below : s.cadence.violations + 1 < s.cadence.limit) :
    cadenceViolation v s =
      { s with
        cadence := { s.cadence with violations := s.cadence.violations + 1 }
        handed :=
          s.handed ++
            [.eventRaise .cadenceViolation .device (w16 (violationCode v))
              (w16 (s.cadence.violations + 1))] } := by
  unfold cadenceViolation
  simp only [is, Nat.not_le.mpr below, decide_false, Bool.false_eq_true, if_false]
  rw [← is]
  rfl

theorem cadenceViolation_loses (is : s.cadence.state = .locked)
    (reached : ¬s.cadence.violations + 1 < s.cadence.limit) :
    cadenceViolation v s =
      { s with
        cadence :=
          { s.cadence with violations := s.cadence.violations + 1, state := .lost, regain := 0 }
        handed :=
          s.handed ++
            [.eventRaise .cadenceViolation .device (w16 (violationCode v))
                (w16 (s.cadence.violations + 1)),
              .eventRaise .cadenceLost .device (w16 s.cadence.limit) (w16 (violationCode v))] ++
            (List.finRange 4).map Instr.cadenceLostNotice } := by
  unfold cadenceViolation
  simp only [is, Nat.not_lt.mp reached, decide_true, if_true]
  simp [State.raise, State.hand, State.handAll, State.setHanded, State.setCadence]

theorem cadenceViolation_lost (is : s.cadence.state = .lost) :
    cadenceViolation v s =
      { s with
        cadence := { s.cadence with regain := 0 }
        handed :=
          s.handed ++
            [.eventRaise .cadenceViolation .device (w16 (violationCode v))
              (w16 s.cadence.violations)] } := by
  unfold cadenceViolation
  simp only [is]
  rfl

end

/-! ### The judgement of an interval (R171) -/

/-- The monitor's record as a cycle frame ends at `us`. -/
def Cadence.framed (c : Cadence) (us : BitVec 32) : Cadence :=
  { c with lastEnd := some us, expired := false, timer := some (us + BitVec.ofNat 32 c.late) }

section
variable (us : BitVec 32) {s : State} {e : BitVec 32}

/-- A violation judges neither the timer nor the last end, and changes neither. -/
theorem cadenceViolation_framed (v : Violation) (s : State) :
    { cadenceViolation v s with cadence := (cadenceViolation v s).cadence.framed us } =
      cadenceViolation v { s with cadence := s.cadence.framed us } := by
  cases is : s.cadence.state with
  | unarmed =>
    rw [cadenceViolation_unarmed v is,
      cadenceViolation_unarmed v (s := { s with cadence := s.cadence.framed us }) is]
  | locked =>
    by_cases below : s.cadence.violations + 1 < s.cadence.limit
    · rw [cadenceViolation_counts v is below,
        cadenceViolation_counts v (s := { s with cadence := s.cadence.framed us }) is below]
      rfl
    · rw [cadenceViolation_loses v is below,
        cadenceViolation_loses v (s := { s with cadence := s.cadence.framed us }) is below]
      rfl
  | lost =>
    rw [cadenceViolation_lost v is,
      cadenceViolation_lost v (s := { s with cadence := s.cadence.framed us }) is]
    rfl

theorem judgeInterval_unarmed (is : s.cadence.state = .unarmed) :
    judgeInterval us s = { s with cadence := { s.cadence with state := .locked } } := by
  unfold judgeInterval
  simp only [is]
  rfl

theorem judgeInterval_expired (armed : s.cadence.state ≠ .unarmed)
    (expired : s.cadence.expired = true) : judgeInterval us s = s := by
  unfold judgeInterval
  cases is : s.cadence.state with
  | unarmed => exact absurd is armed
  | locked => simp only [is, expired, if_true]
  | lost => simp only [is, expired, if_true]

theorem judgeInterval_measured (armed : s.cadence.state ≠ .unarmed)
    (running : s.cadence.expired = false) (last : s.cadence.lastEnd = some e) :
    judgeInterval us s =
      if (us - e).toNat < s.cadence.early then cadenceViolation .early s
      else if (us - e).toNat ≤ s.cadence.late then inWindow s
      else s := by
  unfold judgeInterval
  cases is : s.cadence.state with
  | unarmed => exact absurd is armed
  | locked => simp only [is, running, last, Bool.false_eq_true, if_false]
  | lost => simp only [is, running, last, Bool.false_eq_true, if_false]

theorem inWindow_eq (armed : s.cadence.state ≠ .unarmed) :
    inWindow s =
      if s.cadence.state = .locked then
        { s with cadence := { s.cadence with violations := s.cadence.violations - 1 } }
      else if s.cadence.regain + 1 < 8 then
        { s with cadence := { s.cadence with regain := s.cadence.regain + 1 } }
      else
        { s with
          cadence := { s.cadence with state := .locked, violations := 0, regain := 0 }
          handed := s.handed ++ [.eventRaise .cadenceRegained .device 0 0] } := by
  unfold inWindow
  cases is : s.cadence.state with
  | unarmed => exact absurd is armed
  | locked =>
    simp only [is, if_true]
    rfl
  | lost =>
    simp only [is, reduceCtorEq, if_false]
    rfl

end

/-- Settles O51: the violation by the monitor's state serves an early frame and a late expiry. -/
theorem cadenceIsJudged : Obligations.CadenceIsJudged := by
  intro s c told violated
  have violates (v : Violation) (t : State) (c' : Cadence) (state : c'.state = c.state)
      (count : c'.violations = c.violations) (limit : c'.limit = c.limit) :
      cadenceViolation v { t with cadence := c' } = violated (w16 (violationCode v)) t c' := by
    unfold violated
    cases is : c.state with
    | unarmed => exact cadenceViolation_unarmed v (state.trans is)
    | locked =>
      simp only [← count, ← limit]
      by_cases below : c'.violations + 1 < c'.limit
      · rw [if_pos below]
        exact cadenceViolation_counts v (s := { t with cadence := c' }) (state.trans is) below
      · rw [if_neg below]
        exact cadenceViolation_loses v (s := { t with cadence := c' }) (state.trans is) below
    | lost =>
      simp only [← count]
      exact cadenceViolation_lost v (s := { t with cadence := c' }) (state.trans is)
  refine ⟨fun us => ?_, ?_⟩
  · intro t c'
    have judged {u : State} (is : judgeInterval us t = u) :
        exec (.cycleFrameNotice us) s = .next { u with cadence := u.cadence.framed us } := is ▸ rfl
    refine ⟨fun is => judged (judgeInterval_unarmed us (s := t) is),
      fun armed expired => judged (judgeInterval_expired us (s := t) armed expired),
      fun e armed running last => ?_⟩
    have measured := judgeInterval_measured us (s := t) armed running last
    refine ⟨fun early => ?_, fun low high => ?_⟩
    · refine (judged (measured.trans (if_pos early))).trans (congrArg Host.Outcome.next ?_)
      exact (cadenceViolation_framed us .early t).trans (violates .early t c' rfl rfl rfl)
    · refine (judged (measured.trans ((if_neg (Nat.not_lt.mpr low)).trans
        ((if_pos high).trans (inWindow_eq (s := t) armed))))).trans (congrArg Host.Outcome.next ?_)
      by_cases locked : c.state = .locked
      · simp only [if_pos locked, if_pos (show t.cadence.state = .locked from locked)]
        rfl
      · simp only [if_neg locked, if_neg (show ¬t.cadence.state = .locked from locked)]
        by_cases more : c.regain + 1 < 8
        · simp only [if_pos more, if_pos (show t.cadence.regain + 1 < 8 from more)]
          rfl
        · simp only [if_neg more, if_neg (show ¬t.cadence.regain + 1 < 8 from more)]
          rfl
  · intro t
    have taken : exec .cadenceLateExpiry s = .next (takeExpiry t) := rfl
    refine ⟨fun idle => ?_, fun e timer => ?_⟩
    · rw [taken, takeExpiry, show t.cadence.timer = none from idle]
    · rw [taken, takeExpiry, show t.cadence.timer = some e from timer]
      by_cases within : s.phase + (e - s.us).toNat < 1000
      · refine ⟨e, s.phase + (e - s.us).toNat, congrArg Host.Outcome.next ?_, fun _ => ⟨rfl, rfl⟩⟩
        exact (if_pos within).trans (violates .late { t with us := e, phase := _ } _ rfl rfl rfl)
      · refine ⟨s.us, s.phase, congrArg Host.Outcome.next ?_, fun inside => absurd inside within⟩
        exact (if_neg within).trans (violates .late t _ rfl rfl rfl)

end Sys2Proof.Machine
end

section
/-! PROOFS. Stage 3 of a delivery: what the band monitors of a head judge, raise and do to it. -/

namespace Sys2Proof.Machine

open Sys2Proof

/-! ### One zone's monitor (R71 to R73) -/

section
variable (z : ZoneChannel) (band code fb : Nat) (stale : Bool)

/-- The zone is judged on a current gauge, and lies outside the band. -/
def ZoneChannel.Deviates : Prop :=
  band ≠ 0 ∧ ¬(z.ramping = true ∨ 0 < z.settle) ∧ stale = false ∧
    band < ((fb : Int) - z.setpoint).natAbs

/-- The zone's gauge has gone stale since it was last judged. -/
def ZoneChannel.Silent : Prop := band ≠ 0 ∧ stale = true ∧ z.monitorStale = false

/-- The count of deviations after one more. -/
def ZoneChannel.counted : Nat := min (z.debounce + 1) (debounceLength code)

/-- An episode of deviations begins. -/
def ZoneChannel.Deviation : Prop :=
  z.Deviates band fb stale ∧ z.excursion = false ∧ z.counted code = debounceLength code

/-- The monitor keeps its count and its mark of an episode. -/
def ZoneChannel.KeepsMarks : Prop :=
  band ≠ 0 ∧ ¬(z.ramping = true ∨ 0 < z.settle) ∧ (stale = true ∨ z.Deviates band fb stale)

/-- The zone meets its part of the settled test. -/
def ZoneChannel.Settled : Prop :=
  band ≠ 0 ∧ stale = false ∧ z.ramping = false ∧ z.settle = 0 ∧
    ((fb : Int) - z.setpoint).natAbs ≤ band

theorem ZoneChannel.masked_iff : z.masked = true ↔ z.ramping = true ∨ 0 < z.settle := by
  simp [ZoneChannel.masked]

variable {z band code fb stale}

/-! The five cases of a judgement. -/

theorem judgeBand_off (off : band = 0) :
    judgeBand z band code fb stale =
      ({ z with debounce := 0, excursion := false, monitorStale := false }, ⟨false, none⟩) := by
  rw [judgeBand, if_pos off]

theorem judgeBand_stale (on : band ≠ 0) (is : stale = true) :
    judgeBand z band code fb stale =
      ({ z with
          debounce := if z.masked then 0 else z.debounce
          excursion := !z.masked && z.excursion, monitorStale := true },
        ⟨false, if z.monitorStale then none else some .stale⟩) := by
  rw [judgeBand, if_neg on]
  cases masked : z.masked <;> simp [is]

theorem judgeBand_masked (on : band ≠ 0) (current : stale = false) (masked : z.masked = true) :
    judgeBand z band code fb stale =
      ({ z with debounce := 0, excursion := false, monitorStale := false }, ⟨false, none⟩) := by
  rw [judgeBand, if_neg on]
  simp [current, masked]

theorem judgeBand_within (on : band ≠ 0) (current : stale = false) (unmasked : ¬z.masked = true)
    (within : ((fb : Int) - z.setpoint).natAbs ≤ band) :
    judgeBand z band code fb stale =
      ({ z with debounce := 0, excursion := false, monitorStale := false }, ⟨true, none⟩) := by
  rw [judgeBand, if_neg on]
  simp [current, unmasked, within]

theorem judgeBand_deviates (deviates : z.Deviates band fb stale) :
    judgeBand z band code fb stale =
      ({ z with
          debounce := z.counted code
          excursion := z.excursion || decide (z.counted code = debounceLength code)
          monitorStale := false },
        ⟨false,
          if z.excursion = false ∧ z.counted code = debounceLength code then some .deviation
          else none⟩) := by
  obtain ⟨on, unmasked, current, outside⟩ := deviates
  have free : ¬z.masked = true := fun is => unmasked (z.masked_iff.mp is)
  rw [judgeBand, if_neg on]
  simp only [current, free, Bool.false_eq_true, if_false, Nat.not_le.mpr outside,
    ZoneChannel.counted]
  cases began : z.excursion with
  | true => simp
  | false =>
    by_cases long : min (z.debounce + 1) (debounceLength code) = debounceLength code
    · simp [long]
    · simp [long]

variable (z band code fb stale)

/-- The case of a judgement. -/
theorem judgeBand_case : band = 0 ∨ (band ≠ 0 ∧ stale = true) ∨
    (band ≠ 0 ∧ stale = false ∧ z.masked = true) ∨
    (band ≠ 0 ∧ stale = false ∧ ¬z.masked = true ∧ ((fb : Int) - z.setpoint).natAbs ≤ band) ∨
    z.Deviates band fb stale := by
  by_cases off : band = 0
  · exact .inl off
  cases stale with
  | true => exact .inr (.inl ⟨off, rfl⟩)
  | false =>
    by_cases masked : z.masked = true
    · exact .inr (.inr (.inl ⟨off, rfl, masked⟩))
    by_cases within : ((fb : Int) - z.setpoint).natAbs ≤ band
    · exact .inr (.inr (.inr (.inl ⟨off, rfl, masked, within⟩)))
    · exact .inr (.inr (.inr (.inr
        ⟨off, fun is => masked (z.masked_iff.mpr is), rfl, Nat.lt_of_not_le within⟩)))

/-- A monitor writes its count and its two marks alone. -/
theorem judgeBand_only :
    (judgeBand z band code fb stale).1 =
      { z with
        debounce := (judgeBand z band code fb stale).1.debounce
        excursion := (judgeBand z band code fb stale).1.excursion
        monitorStale := (judgeBand z band code fb stale).1.monitorStale } := by
  unfold judgeBand
  dsimp only
  (repeat' split) <;> rfl

theorem judgeBand_monitorStale :
    (judgeBand z band code fb stale).1.monitorStale = true ↔ band ≠ 0 ∧ stale = true := by
  obtain off | ⟨on, is⟩ | ⟨on, current, masked⟩ | ⟨on, current, unmasked, within⟩ | deviates :=
    judgeBand_case z band fb stale
  · rw [judgeBand_off off]
    simp [off]
  · rw [judgeBand_stale on is]
    simp [on, is]
  · rw [judgeBand_masked on current masked]
    simp [current]
  · rw [judgeBand_within on current unmasked within]
    simp [current]
  · have current := deviates.2.2.1
    rw [judgeBand_deviates deviates]
    simp [current]

/-- An episode begins as the gauge goes stale, or with the deviation that completes its count. -/
theorem judgeBand_episode :
    ((judgeBand z band code fb stale).2.episode = some .stale ↔ z.Silent band stale) ∧
      ((judgeBand z band code fb stale).2.episode = some .deviation ↔
        z.Deviation band code fb stale) := by
  unfold ZoneChannel.Silent ZoneChannel.Deviation
  obtain off | ⟨on, is⟩ | ⟨on, current, masked⟩ | ⟨on, current, unmasked, within⟩ | deviates :=
    judgeBand_case z band fb stale
  · rw [judgeBand_off off]
    simp [off, ZoneChannel.Deviates]
  · rw [judgeBand_stale on is]
    cases was : z.monitorStale <;> simp [on, is, ZoneChannel.Deviates]
  · have covered := z.masked_iff.mp masked
    rw [judgeBand_masked on current masked]
    simp [current, ZoneChannel.Deviates, covered]
  · rw [judgeBand_within on current unmasked within]
    simp [current, ZoneChannel.Deviates, Nat.not_lt.mpr within]
  · have current := deviates.2.2.1
    rw [judgeBand_deviates deviates]
    exact ⟨by simp [current], by simp [deviates]⟩

theorem judgeBand_met : (judgeBand z band code fb stale).2.met = true ↔ z.Settled band fb stale := by
  unfold ZoneChannel.Settled
  obtain off | ⟨on, is⟩ | ⟨on, current, masked⟩ | ⟨on, current, unmasked, within⟩ | deviates :=
    judgeBand_case z band fb stale
  · rw [judgeBand_off off]
    simp [off]
  · rw [judgeBand_stale on is]
    simp [is]
  · have covered := z.masked_iff.mp masked
    rw [judgeBand_masked on current masked]
    simp only [Bool.false_eq_true, false_iff]
    rintro ⟨-, -, still, rested, -⟩
    simp [still, rested] at covered
  · rw [judgeBand_within on current unmasked within]
    have free : ¬(z.ramping = true ∨ 0 < z.settle) := fun is => unmasked (z.masked_iff.mpr is)
    simp only [true_iff]
    exact ⟨on, current, by simpa using fun is => free (.inl is),
      Nat.eq_zero_of_not_pos fun is => free (.inr is), within⟩
  · obtain ⟨on, unmasked, current, outside⟩ := deviates
    rw [judgeBand_deviates ⟨on, unmasked, current, outside⟩]
    simp only [Bool.false_eq_true, false_iff]
    rintro ⟨-, -, -, -, within⟩
    omega

theorem judgeBand_cleared (clears : ¬z.KeepsMarks band fb stale) :
    (judgeBand z band code fb stale).1.debounce = 0 ∧
      (judgeBand z band code fb stale).1.excursion = false := by
  obtain off | ⟨on, is⟩ | ⟨on, current, masked⟩ | ⟨on, current, unmasked, within⟩ | deviates :=
    judgeBand_case z band fb stale
  · simp [judgeBand_off off]
  · have masked : z.masked = true := by
      by_contra free
      exact clears ⟨on, fun is => free (z.masked_iff.mpr is), .inl is⟩
    rw [judgeBand_stale on is]
    simp [masked]
  · simp [judgeBand_masked on current masked]
  · simp [judgeBand_within on current unmasked within]
  · exact absurd ⟨deviates.1, deviates.2.1, .inr deviates⟩ clears

theorem judgeBand_kept (keeps : z.KeepsMarks band fb stale) :
    (z.Deviates band fb stale →
        (judgeBand z band code fb stale).1.debounce = z.counted code) ∧
      (¬z.Deviates band fb stale →
        (judgeBand z band code fb stale).1.debounce = z.debounce) ∧
      ((judgeBand z band code fb stale).1.excursion = true ↔
        z.excursion = true ∨ z.Deviation band code fb stale) := by
  obtain ⟨on, unmasked, stale' | deviates⟩ := keeps
  · have none' : ¬z.Deviates band fb stale := fun is => by simp [is.2.2.1] at stale'
    have free : ¬z.masked = true := fun is => unmasked (z.masked_iff.mp is)
    rw [judgeBand_stale on stale']
    simp [free, ZoneChannel.Deviation, none']
  · rw [judgeBand_deviates deviates]
    simp only [ZoneChannel.Deviation, deviates, true_and, Bool.or_eq_true, decide_eq_true_eq]
    cases z.excursion <;> simp

end

end Sys2Proof.Machine
end

section
/-! PROOFS. Stage 3 of a delivery as one change of its head, its zones and what is handed. -/

namespace Sys2Proof.Machine

open Sys2Proof

/-! ### Writes to a head's zones -/

section
variable {h : Head} {g : Zone → ZoneChannel}

/-- The zone table with `g` written to the zones of head `h` in `l`. -/
def zonesWith (h : Head) (g : Zone → ZoneChannel) (l : List Zone) (t : Tab 28 ZoneChannel) :
    Tab 28 ZoneChannel := l.foldl (fun t z => t.upd (zoneCh h z) (g z)) t

theorem zonesWith_other {l : List Zone} {t : Tab 28 ZoneChannel} {i : ZoneCh}
    (other : ∀ z ∈ l, zoneCh h z ≠ i) : (zonesWith h g l t).get i = t.get i := by
  induction l generalizing t with
  | nil => rfl
  | cons y l ih =>
    refine (ih fun z mem => other z (List.mem_cons_of_mem _ mem)).trans ?_
    exact Tab.get_upd_ne _ _ (other y (List.mem_cons_self ..))

theorem zonesWith_mem {l : List Zone} {t : Tab 28 ZoneChannel} {z : Zone} (mem : z ∈ l) :
    (zonesWith h g l t).get (zoneCh h z) = g z := by
  induction l generalizing t with
  | nil => simp at mem
  | cons y l ih =>
    by_cases later : z ∈ l
    · exact ih later
    · have is : z = y := (List.mem_cons.mp mem).resolve_right later
      refine (zonesWith_other (l := l) fun x in' same => later ?_).trans ?_
      · exact zoneCh_inj same ▸ in'
      · rw [is, Tab.get_upd_same]

theorem zonesWith_otherHead {l : List Zone} {t : Tab 28 ZoneChannel} {i : ZoneCh}
    (ne : headOfZone i ≠ h) : (zonesWith h g l t).get i = t.get i :=
  zonesWith_other fun z _ is => ne (is ▸ headOfZone_zoneCh h z)

end

/-! ### The verdict on one zone -/

section
variable (s : State) (h : Head) (band : Nat) (z : Zone)

/-- The gauge filter of a zone. -/
def State.gaugeOf : Filter := s.filters.get (chanOfZone (zoneCh h z))

/-- What the band monitor of a zone judges. -/
def State.bandVerdict : ZoneChannel × Verdict :=
  judgeBand (s.zoneOf h z) band (s.zoneConfig (zoneCh h z)).bandDebounce (s.gaugeOf h z).feedback
    (s.gaugeOf h z).stale

/-- The zone's gauge has gone stale since it was last judged. -/
def State.bandSilent : Prop := (s.zoneOf h z).Silent band (s.gaugeOf h z).stale

/-- An episode of deviations of the zone begins. -/
def State.bandDeviation : Prop :=
  (s.zoneOf h z).Deviation band (s.zoneConfig (zoneCh h z)).bandDebounce (s.gaugeOf h z).feedback
    (s.gaugeOf h z).stale

/-- An episode of the zone begins. -/
def State.bandBegins : Prop := s.bandSilent h band z ∨ s.bandDeviation h band z

/-- What the beginning of an episode raises. -/
def State.bandRaises : List Instr :=
  match (s.bandVerdict h band z).2.episode with
  | none => []
  | some .stale => [.eventRaise .bandExcursion (.zone (zoneCh h z)) 1 0]
  | some .deviation =>
    [.eventRaise .bandExcursion (.zone (zoneCh h z)) 0
      (detailSigned (((s.gaugeOf h z).feedback : Int) - (s.zoneOf h z).setpoint))]

/-- The action that a zone's entry names. -/
def State.bandAction : BandAction := (s.zoneConfig (zoneCh h z)).bandAction

theorem bandEpisode :
    ((s.bandVerdict h band z).2.episode = some .stale ↔ s.bandSilent h band z) ∧
      ((s.bandVerdict h band z).2.episode = some .deviation ↔ s.bandDeviation h band z) :=
  judgeBand_episode _ _ _ _ _

theorem bandBegins_iff : s.bandBegins h band z ↔ (s.bandVerdict h band z).2.episode ≠ none := by
  obtain ⟨silent, deviation⟩ := bandEpisode s h band z
  rw [State.bandBegins, ← silent, ← deviation]
  cases (s.bandVerdict h band z).2.episode with
  | none => simp
  | some e => cases e <;> simp

/-- The record of a head that enters SAFE_HOLD. -/
def HeadRecord.held (r : HeadRecord) (cause : SafeCause) (sub : HeadSubstate) : HeadRecord :=
  { r with state := .safeHold, cause := cause, skip := false, substate := sub }

/-- What an episode of a zone does to its head, whose record stands beside what has been handed. -/
def State.bandActs (x : HeadRecord × List Instr) (z : Zone) : HeadRecord × List Instr :=
  let told := x.2 ++ s.bandRaises h band z
  if (s.bandVerdict h band z).2.episode = none then (x.1, told)
  else
    match s.bandAction h z with
    | .report => (x.1, told)
    | .hold => (if x.1.state = .running then { x.1 with state := .paused } else x.1, told)
    | .safe =>
      if causeEnters .excursion x.1.state = true then
        (x.1.held .excursion (s.safeSubstate h),
          told ++ safeHoldEvents h .excursion x.1 (s.platenOf h))
      else (x.1, told)

/-- The state with a head's record, its zone `z` and what is handed replaced. -/
def State.rezoned (x : HeadRecord × List Instr) (zs : Tab 28 ZoneChannel) : State :=
  { s with zones := zs, heads := s.heads.upd h x.1, handed := x.2 }

theorem safeSubstate_congr {s t : State} (same : SameCore s t) (h : Head) :
    t.safeSubstate h = s.safeSubstate h := by
  have at_ (z : Zone) : ((t.zoneOf h z).setpoint = (t.zoneConfig (zoneCh h z)).safeValue) =
      ((s.zoneOf h z).setpoint = (s.zoneConfig (zoneCh h z)).safeValue) := by
    obtain ⟨config, rest⟩ := Prod.mk.inj (same (zoneCh h z))
    obtain ⟨setpoint, -⟩ := Prod.mk.inj rest
    unfold State.zoneOf State.zoneConfig
    rw [config, setpoint]
  rw [safeSubstate_eq, safeSubstate_eq]
  simp only [at_]

theorem bandMonitor_eq :
    bandMonitor h band z s =
      ({ s with
          zones := s.zones.upd (zoneCh h z) (s.bandVerdict h band z).1
          handed := s.handed ++ s.bandRaises h band z },
        (s.bandVerdict h band z).2) := by
  have judged : judgeBand (s.zones.get (zoneCh h z)) band (s.zoneConfig (zoneCh h z)).bandDebounce
      (s.filters.get (chanOfZone (zoneCh h z))).feedback
      (s.filters.get (chanOfZone (zoneCh h z))).stale = s.bandVerdict h band z := rfl
  unfold bandMonitor State.bandRaises
  simp only [judged]
  cases (s.bandVerdict h band z).2.episode with
  | none =>
    rw [List.append_nil]
    rfl
  | some e => cases e <;> rfl

theorem stageBandZone_eq (met : Bool) :
    stageBandZone h band (s, met) z =
      (s.rezoned h (s.bandActs h band (s.heads.get h, s.handed) z)
          (s.zones.upd (zoneCh h z) (s.bandVerdict h band z).1),
        met && (s.bandVerdict h band z).2.met) := by
  have action (t : State) (core : SameCore s t) :
      (t.zoneConfig (zoneCh h z)).bandAction = s.bandAction h z := by
    unfold State.bandAction State.zoneConfig
    rw [(Prod.mk.inj (core (zoneCh h z))).1]
  have core := bandMonitor_core h band z s
  have sub := safeSubstate_congr core h
  have acts := action _ core
  unfold stageBandZone
  rw [bandMonitor_eq] at core sub acts ⊢
  simp only at sub acts ⊢
  rw [acts]
  unfold State.bandActs
  cases began : (s.bandVerdict h band z).2.episode with
  | none => simp [State.rezoned]
  | some e =>
    cases s.bandAction h z with
    | report => simp [State.rezoned, applyBandAction]
    | hold =>
      by_cases runs : (s.heads.get h).state = .running
      · simp [State.rezoned, applyBandAction, runs, State.setHead]
      · simp [State.rezoned, applyBandAction, runs]
    | safe =>
      by_cases enters : causeEnters .excursion (s.heads.get h).state = true
      · simp only [applyBandAction, safeHoldCause, enters, if_true, enterSafeHold_eq, sub]
        rfl
      · simp [State.rezoned, applyBandAction, safeHoldCause, enters]

end

/-! ### All seven zones -/

/-- At state `u` the zones in `l` are judged as at `s`. -/
structure BandView (h : Head) (l : List Zone) (s u : State) : Prop where
  filters : u.filters = s.filters
  docks : u.docks = s.docks
  core : SameCore s u
  zones : ∀ z ∈ l, u.zoneOf h z = s.zoneOf h z

section
variable {h : Head} {l : List Zone} {s u : State} {band : Nat} {z : Zone}

theorem SameCore.zoneConfig (core : SameCore s u) (c : ZoneCh) : u.zoneConfig c = s.zoneConfig c := by
  unfold State.zoneConfig
  rw [(Prod.mk.inj (core c)).1]

theorem BandView.verdict (view : BandView h l s u) (mem : z ∈ l) :
    u.bandVerdict h band z = s.bandVerdict h band z := by
  unfold State.bandVerdict State.gaugeOf
  rw [view.zones z mem, view.core.zoneConfig, view.filters]

theorem BandView.raises (view : BandView h l s u) (mem : z ∈ l) :
    u.bandRaises h band z = s.bandRaises h band z := by
  unfold State.bandRaises
  rw [view.verdict mem, State.gaugeOf, view.filters, view.zones z mem]
  rfl

theorem BandView.acts (view : BandView h l s u) (mem : z ∈ l) (x : HeadRecord × List Instr) :
    u.bandActs h band x z = s.bandActs h band x z := by
  unfold State.bandActs State.bandAction
  rw [view.verdict mem, view.raises mem, view.core.zoneConfig, safeSubstate_congr view.core,
    platenOf_congr view.docks]

theorem BandView.next (view : BandView h (z :: l) s u) (nodup : (z :: l).Nodup)
    (x : HeadRecord × List Instr) :
    BandView h l s (u.rezoned h x (u.zones.upd (zoneCh h z) (u.bandVerdict h band z).1)) where
  filters := view.filters
  docks := view.docks
  core := by
    refine view.core.trans (SameCore.trans (.setZone (c := zoneCh h z) ?_) (.of_zones rfl))
    exact judgeBand_core _ _ _ _ _
  zones y mem := by
    have ne : zoneCh h z ≠ zoneCh h y := fun is =>
      (List.nodup_cons.mp nodup).1 (zoneCh_inj is ▸ mem)
    exact (Tab.get_upd_ne _ _ ne).trans (view.zones y (List.mem_cons_of_mem _ mem))

theorem foldl_stageBandZone (view : BandView h l s u) (nodup : l.Nodup) (met : Bool) :
    l.foldl (stageBandZone h band) (u, met) =
      (u.rezoned h (l.foldl (s.bandActs h band) (u.heads.get h, u.handed))
          (zonesWith h (fun z => (s.bandVerdict h band z).1) l u.zones),
        met && l.all fun z => (s.bandVerdict h band z).2.met) := by
  induction l generalizing u met with
  | nil => simp [State.rezoned, zonesWith]
  | cons z l ih =>
    have mem : z ∈ z :: l := List.mem_cons_self ..
    have step := stageBandZone_eq u h band z met
    rw [List.foldl_cons, step, ih (view.next nodup _) (List.nodup_cons.mp nodup).2]
    simp only [view.acts mem, view.verdict mem]
    simp [State.rezoned, zonesWith, Bool.and_assoc]

end

section
variable (h : Head) (s : State)

/-- The band of the step at which head `h` stands. -/
def State.bandOf : Nat := stepBand (s.heads.get h)

/-- What stage 3 leaves of the head, and what has been handed. -/
def State.bandResult : HeadRecord × List Instr :=
  (List.finRange 7).foldl (s.bandActs h (s.bandOf h)) (s.heads.get h, s.handed)

/-- The zones as stage 3 leaves them. -/
def State.bandZones : Tab 28 ZoneChannel :=
  zonesWith h (fun z => (s.bandVerdict h (s.bandOf h) z).1) (List.finRange 7) s.zones

theorem stageBand_eq :
    stageBand h s =
      (s.rezoned h (s.bandResult h) (s.bandZones h),
        (List.finRange 7).all fun z => (s.bandVerdict h (s.bandOf h) z).2.met) := by
  have view : BandView h (List.finRange 7) s s := ⟨rfl, rfl, .refl s, fun _ _ => rfl⟩
  refine (foldl_stageBandZone view (List.nodup_finRange 7) true).trans ?_
  rw [Bool.true_and]
  rfl

theorem bandZones_zone (z : Zone) :
    (s.bandZones h).get (zoneCh h z) = (s.bandVerdict h (s.bandOf h) z).1 :=
  zonesWith_mem (List.mem_finRange z)

theorem bandZones_other {i : ZoneCh} (ne : headOfZone i ≠ h) :
    (s.bandZones h).get i = s.zones.get i := zonesWith_otherHead ne

end

/-! ### What the episodes do to their head -/

section
variable {h : Head} {s : State} {band : Nat} {z : Zone} {l : List Zone} {x : HeadRecord × List Instr}

theorem bandActs_quiet (quiet : ¬s.bandBegins h band z) :
    s.bandActs h band x z = (x.1, x.2 ++ s.bandRaises h band z) :=
  if_pos (not_not.mp fun some' => quiet ((bandBegins_iff s h band z).mpr some'))

theorem bandActs_begins (begins : s.bandBegins h band z) :
    s.bandActs h band x z =
      match s.bandAction h z with
      | .report => (x.1, x.2 ++ s.bandRaises h band z)
      | .hold =>
        (if x.1.state = .running then { x.1 with state := .paused } else x.1,
          x.2 ++ s.bandRaises h band z)
      | .safe =>
        if causeEnters .excursion x.1.state = true then
          (x.1.held .excursion (s.safeSubstate h),
            x.2 ++ s.bandRaises h band z ++ safeHoldEvents h .excursion x.1 (s.platenOf h))
        else (x.1, x.2 ++ s.bandRaises h band z) :=
  if_neg ((bandBegins_iff s h band z).mp begins)

/-- In SAFE_HOLD an episode is raised and does nothing more. -/
theorem foldl_bandActs_held (held : x.1.state = .safeHold) :
    l.foldl (s.bandActs h band) x = (x.1, x.2 ++ l.flatMap (s.bandRaises h band)) := by
  have one (z : Zone) (y : HeadRecord × List Instr) (same : y.1.state = .safeHold) :
      s.bandActs h band y z = (y.1, y.2 ++ s.bandRaises h band z) := by
    by_cases begins : s.bandBegins h band z
    · rw [bandActs_begins begins]
      cases s.bandAction h z <;> simp [same, causeEnters]
    · exact bandActs_quiet begins
  induction l generalizing x with
  | nil => simp
  | cons z l ih =>
    rw [List.foldl_cons, one z x held, ih (x := (x.1, x.2 ++ s.bandRaises h band z)) held]
    simp

open Classical in
/-- The head where no zone of `l` with action SAFE begins an episode: a HOLD zone pauses it. -/
noncomputable def State.bandPaused (s : State) (h : Head) (band : Nat) (l : List Zone) (r : HeadRecord) :
    HeadRecord :=
  if r.state = .running ∧ ∃ z ∈ l, s.bandBegins h band z ∧ s.bandAction h z = .hold then
    { r with state := .paused }
  else r

theorem bandPaused_holds {r : HeadRecord} (runs : r.state = .running) (mem : z ∈ l)
    (begins : s.bandBegins h band z) (hold : s.bandAction h z = .hold) :
    s.bandPaused h band l r = { r with state := .paused } :=
  if_pos ⟨runs, z, mem, begins, hold⟩

theorem bandPaused_not {r : HeadRecord}
    (no : ¬(r.state = .running ∧ ∃ z ∈ l, s.bandBegins h band z ∧ s.bandAction h z = .hold)) :
    s.bandPaused h band l r = r := if_neg no

theorem bandPaused_cons (r : HeadRecord) :
    s.bandPaused h band (z :: l) r = s.bandPaused h band l (s.bandPaused h band [z] r) := by
  have first : z ∈ z :: l := List.mem_cons_self ..
  by_cases holds : r.state = .running ∧ s.bandBegins h band z ∧ s.bandAction h z = .hold
  · obtain ⟨runs, begins, hold⟩ := holds
    rw [bandPaused_holds runs first begins hold,
      bandPaused_holds runs (List.mem_singleton_self z) begins hold, bandPaused_not (by simp)]
  · have one : s.bandPaused h band [z] r = r := bandPaused_not fun ⟨runs, y, mem, is⟩ =>
      holds ⟨runs, List.mem_singleton.mp mem ▸ is⟩
    have same : (r.state = .running ∧ ∃ y ∈ z :: l, s.bandBegins h band y ∧ s.bandAction h y = .hold) ↔
        r.state = .running ∧ ∃ y ∈ l, s.bandBegins h band y ∧ s.bandAction h y = .hold := by
      refine and_congr_right fun runs => ?_
      rw [List.exists_mem_cons_iff, or_iff_right fun is => holds ⟨runs, is⟩]
    rw [one]
    by_cases later : r.state = .running ∧ ∃ y ∈ l, s.bandBegins h band y ∧ s.bandAction h y = .hold
    · exact (if_pos (same.mpr later)).trans (if_pos later).symm
    · exact (bandPaused_not (mt same.mp later)).trans (bandPaused_not later).symm

theorem foldl_bandActs_calm
    (calm : ∀ z ∈ l, s.bandBegins h band z → s.bandAction h z ≠ .safe) :
    l.foldl (s.bandActs h band) x =
      (s.bandPaused h band l x.1, x.2 ++ l.flatMap (s.bandRaises h band)) := by
  induction l generalizing x with
  | nil => simp [State.bandPaused]
  | cons z l ih =>
    have one : s.bandActs h band x z = (s.bandPaused h band [z] x.1, x.2 ++ s.bandRaises h band z) := by
      by_cases begins : s.bandBegins h band z
      · rw [bandActs_begins begins]
        cases action : s.bandAction h z with
        | report => simp [State.bandPaused, action]
        | hold => simp [State.bandPaused, action, begins]
        | safe => exact absurd action (calm z (List.mem_cons_self ..) begins)
      · rw [bandActs_quiet begins]
        simp [State.bandPaused, begins]
    rw [List.foldl_cons, one, ih fun y mem => calm y (List.mem_cons_of_mem _ mem)]
    exact Prod.ext (bandPaused_cons x.1).symm (by simp)

theorem zones_split (z : Zone) :
    List.finRange 7 =
      (List.finRange 7).filter (· < z) ++ z :: (List.finRange 7).filter (z < ·) := by
  revert z
  decide

/-- The first zone with action SAFE that begins an episode takes its head to SAFE_HOLD. -/
theorem foldl_bandActs_safe (active : causeEnters .excursion x.1.state = true)
    (begins : s.bandBegins h band z) (safe : s.bandAction h z = .safe)
    (first : ∀ y < z, s.bandBegins h band y → s.bandAction h y ≠ .safe) :
    (List.finRange 7).foldl (s.bandActs h band) x =
      let below := (List.finRange 7).filter (· < z)
      let r := s.bandPaused h band below x.1
      (r.held .excursion (s.safeSubstate h),
        x.2 ++ below.flatMap (s.bandRaises h band) ++ s.bandRaises h band z ++
          safeHoldEvents h .excursion r (s.platenOf h) ++
          ((List.finRange 7).filter (z < ·)).flatMap (s.bandRaises h band)) := by
  have enters : causeEnters .excursion
      (s.bandPaused h band ((List.finRange 7).filter (· < z)) x.1).state = true := by
    unfold State.bandPaused
    split
    · rfl
    · exact active
  have below : ∀ y ∈ (List.finRange 7).filter (· < z),
      s.bandBegins h band y → s.bandAction h y ≠ .safe := fun y mem => first y (by simpa using mem)
  conv_lhs => rw [zones_split z]
  rw [List.foldl_append, foldl_bandActs_calm below, List.foldl_cons, bandActs_begins begins]
  simp only [safe, enters, if_true]
  rw [foldl_bandActs_held rfl]

end

end Sys2Proof.Machine
end

section
/-! PROOFS. Stage 4 of a delivery: the setpoints a RUNNING head derives, and what they mark and
raise. -/

namespace Sys2Proof.Machine

open Sys2Proof

/-! ### New codes of zones -/

/-- SATURATED of a zone that comes to code 4095 (R57). -/
def saturation (c : ZoneCh) (old new : ZoneChannel) : List Instr :=
  if new.code = 4095 ∧ old.saturated = false then
    [.eventRaise .saturated (.zone c) (w16 new.setpoint)
      (w16 (rangeCode (ZoneConfig.effective old.config).range))]
  else []

/-- Zone channel `c` replaced, with the mark and the event of its new code (R56, R57, R59). -/
def State.recoded (s : State) (c : ZoneCh) (new : ZoneChannel) : State :=
  { s with
    zones := s.zones.upd c new
    reg :=
      if new.code ≠ (s.zones.get c).code ∧ new.code ≠ s.reg.last.get (chanOfZone c) then
        { s.reg with pending := s.reg.pending.upd (chanOfZone c) true }
      else s.reg
    handed := s.handed ++ saturation c (s.zones.get c) new }

/-- From `u` to `v` the zones of head `h` in `l` have been given new codes. -/
structure Recoded (h : Head) (l : List Zone) (u v : State) : Prop where
  only : ∃ zs p i, v =
    { u with zones := zs, reg := { u.reg with pending := p }, handed := i }
  handed : v.handed =
    u.handed ++ l.flatMap fun z => saturation (zoneCh h z) (u.zoneOf h z) (v.zoneOf h z)
  pending : ∀ i, v.reg.pending.get i = true ↔
    u.reg.pending.get i = true ∨
      ∃ z ∈ l, i = chanOfZone (zoneCh h z) ∧ (v.zoneOf h z).code ≠ (u.zoneOf h z).code ∧
        (v.zoneOf h z).code ≠ u.reg.last.get i
  others : ∀ i, (∀ z ∈ l, zoneCh h z ≠ i) → v.zones.get i = u.zones.get i
  config : ∀ i, (v.zones.get i).config = (u.zones.get i).config

section
variable {h : Head} {l : List Zone} {u v : State} {z : Zone}

theorem Recoded.nil (h : Head) (u : State) : Recoded h [] u u where
  only := ⟨_, _, _, rfl⟩
  handed := by simp
  pending := by simp
  others _ _ := rfl
  config _ := rfl

theorem recoded_zone (s : State) (new : ZoneChannel) :
    (s.recoded (zoneCh h z) new).zoneOf h z = new := Tab.get_upd_same _ _ _

theorem recoded_other (s : State) (new : ZoneChannel) {i : ZoneCh} (ne : zoneCh h z ≠ i) :
    (s.recoded (zoneCh h z) new).zones.get i = s.zones.get i := Tab.get_upd_ne _ _ ne

theorem recoded_last (s : State) (c : ZoneCh) (new : ZoneChannel) :
    (s.recoded c new).reg.last = s.reg.last := by
  unfold State.recoded
  dsimp only
  split <;> rfl

theorem recoded_pending (s : State) (c : ZoneCh) (new : ZoneChannel) (i : Chan) :
    (s.recoded c new).reg.pending.get i = true ↔
      s.reg.pending.get i = true ∨
        (i = chanOfZone c ∧ new.code ≠ (s.zones.get c).code ∧ new.code ≠ s.reg.last.get i) := by
  unfold State.recoded
  dsimp only
  by_cases is : i = chanOfZone c
  · subst is
    split
    · next marked => simp [marked]
    · next unmarked => simp [unmarked]
  · split
    · rw [Tab.get_upd_ne _ _ (Ne.symm is)]
      simp [is]
    · simp [is]

theorem recoded_only (s : State) (c : ZoneCh) (new : ZoneChannel) :
    ∃ p, s.recoded c new =
      { s with
        zones := s.zones.upd c new, reg := { s.reg with pending := p }
        handed := s.handed ++ saturation c (s.zones.get c) new } := by
  unfold State.recoded
  split
  · exact ⟨_, rfl⟩
  · exact ⟨s.reg.pending, rfl⟩

theorem Recoded.cons {new : ZoneChannel} (fresh : z ∉ l)
    (same : new.config = (u.zoneOf h z).config)
    (rest : Recoded h l (u.recoded (zoneCh h z) new) v) : Recoded h (z :: l) u v := by
  have apart (y : Zone) (mem : y ∈ l) : zoneCh h z ≠ zoneCh h y := fun is =>
    fresh (zoneCh_inj is ▸ mem)
  have own : v.zoneOf h z = new :=
    (rest.others _ fun y mem => (apart y mem).symm).trans (recoded_zone _ _)
  have before (y : Zone) (mem : y ∈ l) :
      (u.recoded (zoneCh h z) new).zoneOf h y = u.zoneOf h y := recoded_other _ _ (apart y mem)
  refine ⟨?_, ?_, fun i => ?_, fun i out => ?_, fun i => ?_⟩
  · obtain ⟨p, is⟩ := recoded_only u (zoneCh h z) new
    obtain ⟨zs, q, l, whole⟩ := rest.only
    rw [is] at whole
    exact ⟨zs, q, l, whole⟩
  · rw [rest.handed, List.flatMap_cons, own]
    have tail : (l.flatMap fun y => saturation (zoneCh h y)
        ((u.recoded (zoneCh h z) new).zoneOf h y) (v.zoneOf h y)) =
        l.flatMap fun y => saturation (zoneCh h y) (u.zoneOf h y) (v.zoneOf h y) :=
      List.flatMap_congr fun y mem => by rw [before y mem]
    rw [tail]
    exact List.append_assoc ..
  · rw [rest.pending, recoded_pending, recoded_last, List.exists_mem_cons_iff, own, or_assoc]
    refine or_congr_right (or_congr_right ?_)
    refine exists_congr fun y => and_congr_right fun mem => ?_
    rw [before y mem]
  · rw [rest.others i fun y mem => out y (List.mem_cons_of_mem _ mem)]
    exact recoded_other _ _ (out z (List.mem_cons_self ..))
  · rw [rest.config]
    by_cases is : zoneCh h z = i
    · subst is
      rw [show (u.recoded (zoneCh h z) new).zones.get (zoneCh h z) = new from recoded_zone _ _]
      exact same
    · rw [recoded_other _ _ is]

theorem foldl_recoded {f : State → Zone → State} {g : State → Zone → ZoneChannel}
    (acts : ∀ s z, f s z = s.recoded (zoneCh h z) (g s z))
    (same : ∀ s z, (g s z).config = (s.zoneOf h z).config) (nodup : l.Nodup) :
    Recoded h l u (l.foldl f u) := by
  induction l generalizing u with
  | nil => exact .nil h u
  | cons z l ih =>
    obtain ⟨fresh, nodup⟩ := List.nodup_cons.mp nodup
    refine .cons fresh (same u z) ?_
    rw [List.foldl_cons, acts]
    exact ih nodup

end

/-! ### The derivation of one setpoint (R50 to R56) -/

/-- Ramped value, composed target and value after the differential step of zone `z`, whose entry is
`e`, from its setpoint `cur`. -/
def derivation (e : ZoneConfig) (c : StepRecord) (z : Zone) (trim : Int) (cur : Nat)
    (inner : Zone → Nat) : Nat × Nat × Nat :=
  let goal := composedTarget (c.targets.get z) (clampedTrim trim c.trimLimit) e.floor e.ceiling
  let ramped := approach cur goal (if z.val = 0 then c.ringRate else c.membraneRate)
  (ramped, goal,
    match innerZone z with
    | some y => if e.diffLimit = 0 then ramped else diffClamp ramped (inner y) e.diffLimit
    | none => ramped)

/-- Zone `z` as stage 4 of a RUNNING delivery leaves it. -/
def ZoneChannel.derived (old : ZoneChannel) (c : StepRecord) (z : Zone) (trim : Int)
    (inner : Zone → Nat) : ZoneChannel :=
  let e := ZoneConfig.effective old.config
  let x := derivation e c z trim old.setpoint inner
  let v := clampNat e.floor e.ceiling x.2.2
  { old with
    ramping := decide (x.1 ≠ x.2.1)
    settle := if old.ramping && !decide (x.1 ≠ x.2.1) then c.settleMask else old.settle - 1
    diffLimited := decide (x.2.2 ≠ x.1), setpoint := v, code := regulatorCode e.range v
    saturated := decide (regulatorCode e.range v = 4095) }

section
variable (h : Head) (c : StepRecord) (trims : Tab 7 Int) (s : State) (z : Zone)

theorem deriveZone_recoded :
    deriveZone h c trims s z =
      s.recoded (zoneCh h z)
        ((s.zoneOf h z).derived c z (trims.get z) fun y => (s.zoneOf h y).setpoint) := by
  have range : (derivedMarks h c trims s z).zoneConfig (zoneCh h z) = s.zoneConfig (zoneCh h z) :=
    (derivedMarks_core h c trims s z).zoneConfig _
  rw [deriveZone_eq, setSetpoint_eq, range]
  simp only [derivedMarks, State.setZone, Tab.get_upd_same, Tab.upd_upd]
  rfl

/-- The derivation reads no zone but its own and the one inside it. -/
theorem ZoneChannel.derived_congr (old : ZoneChannel) (trim : Int) {f g : Zone → Nat}
    (same : ∀ y < z, f y = g y) : old.derived c z trim f = old.derived c z trim g := by
  have inside : ∀ y, innerZone z = some y → f y = g y := by
    intro y is
    unfold innerZone at is
    split at is
    · next far =>
      obtain rfl := Option.some.inj is
      exact same _ (Fin.lt_def.mpr (by dsimp only; omega))
    · simp at is
  have limited (e : ZoneConfig) (cur : Nat) :
      derivation e c z trim cur f = derivation e c z trim cur g := by
    unfold derivation
    cases is : innerZone z with
    | none => rfl
    | some y => simp only [inside y is]
  unfold ZoneChannel.derived
  simp only [limited]

theorem deriveZones_recoded : Recoded h (List.finRange 7) s (deriveZones h c trims s) :=
  foldl_recoded (deriveZone_recoded h c trims) (fun _ _ => rfl) (List.nodup_finRange 7)

/-- Each zone is derived from its own setpoint and the one its inner zone has come to. -/
theorem deriveZones_zone :
    (deriveZones h c trims s).zoneOf h z =
      (s.zoneOf h z).derived c z (trims.get z)
        fun y => ((deriveZones h c trims s).zoneOf h y).setpoint := by
  have other (y : Zone) (u : State) (x : Zone) (ne : x ≠ y) :
      (deriveZone h c trims u x).zoneOf h y = u.zoneOf h y := by
    rw [deriveZone_recoded]
    exact recoded_other _ _ fun is => ne (zoneCh_inj is)
  have leaves (y : Zone) {l : List Zone} (out : y ∉ l) (u : State) :
      (l.foldl (deriveZone h c trims) u).zoneOf h y = u.zoneOf h y :=
    foldl_leaves_of_not_mem (fun u : State => u.zoneOf h y) _ y (other y) out u
  have split : deriveZones h c trims s =
      (((List.finRange 7).filter (z < ·)).foldl (deriveZone h c trims)
        (deriveZone h c trims
          (((List.finRange 7).filter (· < z)).foldl (deriveZone h c trims) s) z)) := by
    unfold deriveZones
    conv_lhs => rw [zones_split z]
    rw [List.foldl_append, List.foldl_cons]
  generalize below : ((List.finRange 7).filter (· < z)).foldl (deriveZone h c trims) s = w at split
  have own : w.zoneOf h z = s.zoneOf h z := below ▸ leaves z (by simp) s
  have inner (y : Zone) (lt : y < z) : ((deriveZones h c trims s).zoneOf h y) = w.zoneOf h y := by
    rw [split, leaves y (by simpa using lt.le), other y w z lt.ne']
  conv_lhs => rw [split, leaves z (by simp), deriveZone_recoded, recoded_zone, own]
  exact ZoneChannel.derived_congr c z _ _ fun y lt => by rw [inner y lt]

end

end Sys2Proof.Machine
end

section
/-! PROOFS. The settle countdown of stage 4, and stage 5 of a delivery: its counting, and the ends of
a step. -/

namespace Sys2Proof.Machine

open Sys2Proof

/-! ### The settle countdown -/

section
variable (h : Head) (s : State)

theorem countdownZones_only : ∃ zs, countdownZones h s = { s with zones := zs } :=
  foldl_keeps (L := fun t : State => ∃ zs, t = { s with zones := zs })
    (fun t z is => by
      obtain ⟨zs, rfl⟩ := is
      exact ⟨_, rfl⟩) _ ⟨s.zones, rfl⟩

theorem countdownZones_zone (z : Zone) :
    (countdownZones h s).zoneOf h z = (s.zoneOf h z).countdown :=
  foldl_acts_once (fun u : State => u.zoneOf h z) ZoneChannel.countdown (countdownZone h) z
    (fun _ => Tab.get_upd_same _ _ _)
    (fun _ _ ne => Tab.get_upd_ne _ _ fun is => ne (zoneCh_inj is))
    (List.nodup_finRange 7) (List.mem_finRange z) s

theorem countdownZones_other {i : ZoneCh} (ne : headOfZone i ≠ h) :
    (countdownZones h s).zones.get i = s.zones.get i :=
  foldl_leaves (fun u : State => u.zones.get i) (countdownZone h)
    (fun _ z => Tab.get_upd_ne _ _ fun is => ne (is ▸ headOfZone_zoneCh h z)) _ s

end

/-! ### The equations of stage 5 -/

/-- What the platen that the head is docked to is handed. -/
def State.atPlaten (s : State) (h : Head) (f : Platen → List Instr) : List Instr :=
  match s.platenOf h with
  | some q => f q
  | none => []

/-- The cycle counted, and the platen told. -/
def State.cycleCounted (s : State) (h : Head) (c : StepRecord) (met : Bool) : State :=
  { s with
    heads := s.heads.upd h (countCycle (s.heads.get h) c met)
    handed := s.handed ++ s.atPlaten h fun q => [.cycleNotice q h] }

/-- The zones as a step start of head `h` masks them. -/
def State.maskedZones (s : State) (h : Head) : Tab 28 ZoneChannel :=
  Tab.ofFn fun c =>
    if headOfZone c = h then { s.zones.get c with ramping := true, settle := 0 } else s.zones.get c

section
variable {h : Head} {s : State} {c : StepRecord} {met : Bool} {p : Fin 16}

theorem handStepEnd_eq (h : Head) (s : State) :
    handStepEnd h s = { s with handed := s.handed ++ s.atPlaten h fun q => [.stepEndNotice q h] } := by
  unfold handStepEnd State.atPlaten
  cases s.platenOf h with
  | some q => rfl
  | none =>
    rw [List.append_nil]

/-- What follows the judgement of a step. -/
def State.stepFollows (s : State) (h : Head) (c : StepRecord) (j : StepJudgement) : State :=
  match j with
  | .endsNormally => endStep h s
  | .timesOut => timeoutStep h c s
  | .goesOn => s

theorem stageEnd_counts (step : (s.heads.get h).context = some c) (skipBefore : Bool) :
    stageEnd h skipBefore met s =
      (s.cycleCounted h c met).stepFollows h c
        (judgeStep (countCycle (s.heads.get h) c met) c skipBefore) := by
  have docked : (s.setHead h (countCycle (s.heads.get h) c met)).platenOf h = s.platenOf h := rfl
  unfold stageEnd State.stepFollows State.cycleCounted State.atPlaten
  simp only [step, docked]
  cases s.platenOf h with
  | some q => rfl
  | none =>
    rw [List.append_nil]
    rfl

theorem stageEnd_unstepped (none' : (s.heads.get h).context = none) (skipBefore : Bool) :
    stageEnd h skipBefore met s = s := by
  unfold stageEnd
  simp only [none']

/-- The step's end told to the platen, and the SKIP mark cleared. -/
def State.stepEnded (s : State) (h : Head) : State :=
  { s with
    heads := s.heads.upd h { s.heads.get h with skip := false }
    handed := s.handed ++ s.atPlaten h fun q => [.stepEndNotice q h] }

theorem handStepEnd_setHead (h : Head) (s : State) :
    (handStepEnd h s).setHead h { s.heads.get h with skip := false } = s.stepEnded h := by
  rw [handStepEnd_eq]
  rfl

theorem endStep_some (program : (s.heads.get h).program = some p) :
    endStep h s =
      if (s.heads.get h).stepIndex + 1 < (s.store.dir.get p).count then
        startStep h p ((s.heads.get h).stepIndex + 1) (s.stepEnded h)
      else
        { s.stepEnded h with
          heads := s.heads.upd h { s.heads.get h with skip := false, state := .done }
          handed :=
            (s.stepEnded h).handed ++
              [.programRelease h,
                .eventRaise .programDone (.head h) (w16 p.val) (w16 (s.store.dir.get p).count)] } := by
  have count : (s.stepEnded h).stepCount (s.heads.get h) = (s.store.dir.get p).count := by
    rw [State.stepCount, program]
    rfl
  have heads : (handStepEnd h s).heads = s.heads := by simp
  unfold endStep
  dsimp only
  rw [heads, handStepEnd_setHead, program]
  simp only [count]
  refine if_congr Iff.rfl rfl ?_
  simp [State.setHead, State.hand, State.raise, State.setHanded, State.stepEnded]

/-- The step that follows starts. -/
theorem endStep_next (program : (s.heads.get h).program = some p)
    (more : (s.heads.get h).stepIndex + 1 < (s.store.dir.get p).count) :
    endStep h s =
      { s with
        heads :=
          s.heads.upd h
            ((s.heads.get h).stepStarted ((s.heads.get h).stepIndex + 1)
              (s.stepRecordOf p ((s.heads.get h).stepIndex + 1)))
        zones := s.maskedZones h
        handed :=
          s.handed ++ (s.atPlaten h fun q => [.stepEndNotice q h]) ++
            s.stepEvents h (s.stepRecordOf p ((s.heads.get h).stepIndex + 1)) } := by
  rw [endStep_some program, if_pos more, startStep_eq, maskZones_eq]
  simp only [State.stepEnded, State.setHead, State.handAll, State.setHanded, Tab.get_upd_same,
    Tab.upd_upd]
  rfl

/-- The program's last step has ended. -/
theorem endStep_last (program : (s.heads.get h).program = some p)
    (last : ¬(s.heads.get h).stepIndex + 1 < (s.store.dir.get p).count) :
    endStep h s =
      { s with
        heads := s.heads.upd h { s.heads.get h with skip := false, state := .done }
        handed :=
          s.handed ++ (s.atPlaten h fun q => [.stepEndNotice q h]) ++
            [.programRelease h,
              .eventRaise .programDone (.head h) (w16 p.val) (w16 (s.store.dir.get p).count)] } := by
  rw [endStep_some program, if_neg last]
  rfl

theorem endStep_idle (none' : (s.heads.get h).program = none) :
    endStep h s = s.stepEnded h := by
  have heads : (handStepEnd h s).heads = s.heads := by simp
  unfold endStep
  dsimp only
  rw [heads, handStepEnd_setHead, none']

/-- The STEP_TIMEOUT of a step (R32). -/
def stepTimeout (h : Head) (r : HeadRecord) (c : StepRecord) : Instr :=
  .eventRaise .stepTimeout (.head h) (w16 r.stepIndex) (w16 c.timeoutAction.toNat)

theorem timeoutStep_ends (other : c.timeoutAction ≠ 1) :
    timeoutStep h c s =
      endStep h { s with handed := s.handed ++ [stepTimeout h (s.heads.get h) c] } :=
  if_neg fun is => other (BitVec.eq_of_toNat_eq is)

theorem timeoutStep_faults (fault : c.timeoutAction = 1) (runs : (s.heads.get h).state = .running) :
    timeoutStep h c s =
      { s with
        heads := s.heads.upd h ((s.heads.get h).held .stepTimeout (s.safeSubstate h))
        handed :=
          s.handed ++ [stepTimeout h (s.heads.get h) c] ++
            safeHoldEvents h .stepTimeout (s.heads.get h) (s.platenOf h) } := by
  have raised : timeoutStep h c s =
      safeHoldCause h .stepTimeout
        { s with handed := s.handed ++ [stepTimeout h (s.heads.get h) c] } :=
    if_pos (by rw [fault]; rfl)
  have enters : causeEnters .stepTimeout (s.heads.get h).state = true := by rw [runs]; rfl
  rw [raised, safeHoldCause, if_pos enters, enterSafeHold_eq]
  rfl

end

/-! ### What stage 5 leaves alone -/

/-- An event of stage 5 is of no zone. -/
def offZones (i : Instr) : Prop :=
  ∀ src d1 d2, i ≠ .eventRaise .bandExcursion src d1 d2 ∧ i ≠ .eventRaise .saturated src d1 d2

theorem atPlaten_offZones {s : State} {h : Head} {f : Platen → List Instr}
    (off : ∀ q, ∀ i ∈ f q, offZones i) : ∀ i ∈ s.atPlaten h f, offZones i := by
  unfold State.atPlaten
  cases s.platenOf h with
  | some q => exact off q
  | none => simp

theorem stepEvents_offZones (s : State) (h : Head) (c : StepRecord) :
    ∀ i ∈ s.stepEvents h c, offZones i := by
  have off (q : Platen) : ∀ i ∈ stepActions h q c, offZones i := by
    unfold stepActions
    cases c.dispense <;> cases c.conditioner <;> simp [offZones]
  unfold State.stepEvents
  cases s.platenOf h with
  | some q => exact off q
  | none => simp

theorem safeHoldEvents_offZones (h : Head) (cause : SafeCause) (r : HeadRecord)
    (platen : Option Platen) : ∀ i ∈ safeHoldEvents h cause r platen, offZones i := by
  unfold safeHoldEvents
  split <;> cases platen <;> simp [offZones]

/-- From `s` to `t` a step of head `h` may have ended: the zones are as they were, or the next step
has masked them. -/
def StepJudged (h : Head) (s t : State) : Prop :=
  ∃ r zs l, t = { s with heads := s.heads.upd h r, zones := zs, handed := s.handed ++ l } ∧
    (∀ i ∈ l, offZones i) ∧
    ((r.cycleCount = (s.heads.get h).cycleCount ∧ zs = s.zones) ∨
      (r.cycleCount = 0 ∧ zs = s.maskedZones h))

section
variable {h : Head} {s t : State} {c : StepRecord}

theorem StepJudged.refl (h : Head) (s : State) : StepJudged h s s :=
  ⟨s.heads.get h, s.zones, [], by simp, by simp, .inl ⟨rfl, rfl⟩⟩

theorem endStep_judged (h : Head) (s : State) : StepJudged h s (endStep h s) := by
  have told : ∀ i ∈ (s.atPlaten h fun q => [.stepEndNotice q h]), offZones i :=
    atPlaten_offZones fun q => by simp [offZones]
  cases program : (s.heads.get h).program with
  | none => exact ⟨_, _, _, endStep_idle program, told,
    .inl ⟨rfl, rfl⟩⟩
  | some p =>
    by_cases more : (s.heads.get h).stepIndex + 1 < (s.store.dir.get p).count
    · rw [endStep_next program more, List.append_assoc]
      refine ⟨_, _, _, rfl, ?_, .inr ⟨rfl, rfl⟩⟩
      intro i mem
      exact (List.mem_append.mp mem).elim (told i) (stepEvents_offZones s h _ i)
    · rw [endStep_last program more, List.append_assoc]
      refine ⟨_, s.zones, _, rfl, ?_, .inl ⟨rfl, rfl⟩⟩
      intro i mem
      exact (List.mem_append.mp mem).elim (told i) (by
        intro mem
        simp only [List.mem_cons, List.not_mem_nil, or_false] at mem
        obtain rfl | rfl := mem <;> simp [offZones])

theorem timeoutStep_judged (runs : (s.heads.get h).state = .running) :
    StepJudged h s (timeoutStep h c s) := by
  have first : offZones (stepTimeout h (s.heads.get h) c) := by simp [offZones, stepTimeout]
  by_cases fault : c.timeoutAction = 1
  · rw [timeoutStep_faults fault runs, List.append_assoc]
    refine ⟨_, s.zones, _, rfl, ?_, .inl ⟨rfl, rfl⟩⟩
    intro i mem
    refine (List.mem_append.mp mem).elim (fun one => ?_) (safeHoldEvents_offZones _ _ _ _ i)
    exact List.mem_singleton.mp one ▸ first
  · rw [timeoutStep_ends fault]
    obtain ⟨r, zs, l, is, off, kept⟩ := endStep_judged h
      { s with handed := s.handed ++ [stepTimeout h (s.heads.get h) c] }
    refine ⟨r, zs, stepTimeout h (s.heads.get h) c :: l, is.trans (by simp), ?_, kept⟩
    exact List.forall_mem_cons.mpr ⟨first, off⟩

/-- Stage 5 after the counting. -/
theorem stageEnd_judged {met : Bool} (runs : (s.heads.get h).state = .running)
    (step : (s.heads.get h).context = some c) (skipBefore : Bool) :
    StepJudged h (s.cycleCounted h c met) (stageEnd h skipBefore met s) := by
  have still : ((s.cycleCounted h c met).heads.get h).state = .running := by
    simpa [State.cycleCounted, countCycle] using runs
  rw [stageEnd_counts step]
  cases judgeStep (countCycle (s.heads.get h) c met) c skipBefore with
  | endsNormally => exact endStep_judged h _
  | timesOut => exact timeoutStep_judged still
  | goesOn => exact .refl h _

end

end Sys2Proof.Machine
end

section
/-! PROOFS. A delivery to a RUNNING, PAUSED or DONE head after its command, stage by stage. -/

namespace Sys2Proof.Machine

open Sys2Proof

/-! ### What a delivery may change -/

/-- From `s` to `t` the record of head `h`, the zones, the Regulator Port and what is handed have
changed, and nothing else. -/
def HeadOnly (h : Head) (s t : State) : Prop :=
  ∃ r zs g o l, t =
    { s with heads := s.heads.upd h r, zones := zs, reg := g, regulatorOut := o, handed := l }

section
variable {h : Head} {s t u : State}

theorem HeadOnly.refl (h : Head) (s : State) : HeadOnly h s s :=
  ⟨s.heads.get h, s.zones, s.reg, s.regulatorOut, s.handed, by simp⟩

theorem HeadOnly.trans (first : HeadOnly h s t) (second : HeadOnly h t u) : HeadOnly h s u := by
  obtain ⟨_, _, _, _, _, rfl⟩ := first
  obtain ⟨r, zs, g, o, l, rfl⟩ := second
  exact ⟨r, zs, g, o, l, by simp⟩

theorem HeadOnly.eq (only : HeadOnly h s t) :
    t =
      { s with
        heads := s.heads.upd h (t.heads.get h), zones := t.zones, reg := t.reg
        regulatorOut := t.regulatorOut, handed := t.handed } := by
  obtain ⟨_, _, _, _, _, rfl⟩ := only
  simp

theorem kickPort_only (s : State) : ∃ g o, s.kickPort = { s with reg := g, regulatorOut := o } := by
  unfold State.kickPort
  cases s.reg.inHand with
  | some c => exact ⟨s.reg, s.regulatorOut, rfl⟩
  | none =>
    cases RegulatorPort.lowest s.reg with
    | none => exact ⟨s.reg, s.regulatorOut, rfl⟩
    | some c => exact ⟨_, _, rfl⟩

theorem HeadOnly.kickPort (h : Head) (s : State) : HeadOnly h s s.kickPort := by
  obtain ⟨g, o, is⟩ := kickPort_only s
  exact ⟨s.heads.get h, s.zones, g, o, s.handed, by simp [is]⟩

theorem Recoded.headOnly {l : List Zone} (recoded : Recoded h l s t) : HeadOnly h s t := by
  obtain ⟨zs, p, i, is⟩ := recoded.only
  exact ⟨s.heads.get h, zs, { s.reg with pending := p }, s.regulatorOut, i, by simp [is]⟩

theorem StepJudged.headOnly (judged : StepJudged h s t) : HeadOnly h s t := by
  obtain ⟨r, zs, l, is, -⟩ := judged
  exact ⟨r, zs, s.reg, s.regulatorOut, _, is⟩

end

/-! ### Stage 2 at a head that runs its bands -/

/-- The states whose head runs its band monitors. -/
def HeadRecord.Banded (r : HeadRecord) : Prop :=
  r.state = .running ∨ r.state = .paused ∨ r.state = .done

/-- The record that stage 2 leaves. -/
def HeadRecord.latched (r : HeadRecord) (d : Delivery) : HeadRecord :=
  { r.fed d with
    latch := if r.state ≠ .done ∧ r.latch = none then r.endpointAfter d else r.latch }

/-- The state that stage 2 leaves. -/
def State.latched (s : State) (h : Head) (d : Delivery) : State :=
  { s with heads := s.heads.upd h ((s.heads.get h).latched d) }

section
variable {h : Head} {d : Delivery} {s : State}

theorem settleLatch_banded {r : HeadRecord} (banded : r.Banded) :
    settleLatch (r.fed d) false = (r.latched d).latch := by
  have same : ((r.fed d).isActive && (r.fed d).latch == none) = true ↔
      r.state ≠ .done ∧ r.latch = none := by
    rcases banded with is | is | is <;> simp [HeadRecord.isActive, HeadRecord.fed, is]
  unfold settleLatch
  simp only [Bool.false_eq_true, if_false]
  by_cases open' : r.state ≠ .done ∧ r.latch = none
  · exact (if_pos (same.mpr open')).trans (if_pos open').symm
  · exact (if_neg (mt same.mp open')).trans (if_neg open').symm

theorem stageInputs_banded (banded : (s.heads.get h).Banded) :
    stageInputs h d false s = s.latched h d := by
  rw [stageInputs_eq, settleLatch_banded banded]
  rfl

theorem latched_record : (s.latched h d).heads.get h = (s.heads.get h).latched d :=
  Tab.get_upd_same _ _ _

theorem latched_headOnly : HeadOnly h s (s.latched h d) :=
  ⟨_, s.zones, s.reg, s.regulatorOut, s.handed, rfl⟩

/-! ### The stages from stage 3 on -/

/-- The state that stage 3 leaves. -/
def State.judged (s : State) (h : Head) : State := s.rezoned h (s.bandResult h) (s.bandZones h)

/-- Whether a delivery met the settled test. -/
def State.bandMet (s : State) (h : Head) : Bool :=
  (List.finRange 7).all fun z => (s.bandVerdict h (s.bandOf h) z).2.met

theorem staged_banded (banded : (s.heads.get h).Banded) (skipBefore : Bool) :
    s.staged h d false skipBefore =
      if ((s.latched h d).bandResult h).1.state = .running then
        stageEnd h skipBefore ((s.latched h d).bandMet h)
          (stageSetpoints h ((s.latched h d).judged h))
      else stageSetpoints h ((s.latched h d).judged h) := by
  have runs : runsBand ((s.latched h d).heads.get h).state = true := by
    rw [latched_record]
    rcases banded with is | is | is <;> simp [HeadRecord.latched, HeadRecord.fed, runsBand, is]
  have heads : (stageSetpoints h ((s.latched h d).judged h)).heads =
      ((s.latched h d).judged h).heads := by simp
  unfold State.staged State.banded
  simp only [stageInputs_banded banded]
  rw [if_pos runs, stageBand_eq]
  change (if ((stageSetpoints h ((s.latched h d).judged h)).heads.get h).state = _ then _ else _) = _
  rw [heads]
  simp only [State.judged, State.rezoned, Tab.get_upd_same]
  rfl

theorem judged_record : (s.judged h).heads.get h = (s.bandResult h).1 := Tab.get_upd_same _ _ _

theorem judged_zone (z : Zone) : (s.judged h).zoneOf h z = (s.bandVerdict h (s.bandOf h) z).1 :=
  bandZones_zone h s z

theorem judged_other {i : ZoneCh} (ne : headOfZone i ≠ h) :
    (s.judged h).zones.get i = s.zones.get i := bandZones_other h s ne

theorem judged_config (i : ZoneCh) :
    ((s.judged h).zones.get i).config = (s.zones.get i).config := by
  by_cases own : headOfZone i = h
  · obtain ⟨z, rfl⟩ := zoneCh_of_head own
    exact (congrArg ZoneChannel.config (judged_zone z)).trans
      (congrArg Prod.fst (judgeBand_core _ _ _ _ _))
  · rw [judged_other own]

theorem judged_headOnly : HeadOnly h s (s.judged h) :=
  ⟨_, _, s.reg, s.regulatorOut, _, rfl⟩

/-- A band monitor changes neither setpoint, code nor the marks of the derivation. -/
theorem judged_zone_only (z : Zone) :
    (s.judged h).zoneOf h z =
      { s.zoneOf h z with
        debounce := (s.bandVerdict h (s.bandOf h) z).1.debounce
        excursion := (s.bandVerdict h (s.bandOf h) z).1.excursion
        monitorStale := (s.bandVerdict h (s.bandOf h) z).1.monitorStale } :=
  (judged_zone z).trans (judgeBand_only _ _ _ _ _)

/-- A head that stage 3 leaves RUNNING in a step derives its setpoints, and its step is judged. -/
theorem staged_runs {c : StepRecord} (banded : (s.heads.get h).Banded)
    (runs : ((s.latched h d).bandResult h).1.state = .running)
    (step : ((s.latched h d).bandResult h).1.context = some c) (skipBefore : Bool) :
    s.staged h d false skipBefore =
      stageEnd h skipBefore ((s.latched h d).bandMet h)
        (deriveZones h c ((s.latched h d).bandResult h).1.trims ((s.latched h d).judged h)) := by
  rw [staged_banded banded, if_pos runs, stageSetpoints, judged_record]
  simp only [runs, step]

/-- A head that stage 3 does not leave RUNNING in a step only counts its settle counters down, if it
is PAUSED. -/
theorem staged_stays (banded : (s.heads.get h).Banded)
    (stays : ((s.latched h d).bandResult h).1.state = .running →
      ((s.latched h d).bandResult h).1.context = none) (skipBefore : Bool) :
    s.staged h d false skipBefore =
      if ((s.latched h d).bandResult h).1.state = .paused then
        countdownZones h ((s.latched h d).judged h)
      else (s.latched h d).judged h := by
  have record := judged_record (h := h) (s := s.latched h d)
  rw [staged_banded banded, stageSetpoints, record]
  cases is : ((s.latched h d).bandResult h).1.state with
  | running =>
    simp only [stays is, if_true, reduceCtorEq, if_false]
    exact stageEnd_unstepped (by rw [record]; exact stays is) _
  | paused => simp
  | idle => simp
  | done => simp
  | safeHold => simp

end

end Sys2Proof.Machine
end

section
/-! PROOFS. A delivery that a head takes RUNNING, without a band action: its step's end. -/

namespace Sys2Proof.Machine

open Sys2Proof

/-! ### What an episode raises -/

section
variable {h : Head} {s : State} {band : Nat} {z : Zone}

theorem bandRaises_silent (silent : s.bandSilent h band z) :
    s.bandRaises h band z = [.eventRaise .bandExcursion (.zone (zoneCh h z)) 1 0] := by
  unfold State.bandRaises
  rw [(bandEpisode s h band z).1.mpr silent]

theorem bandRaises_deviation (deviation : s.bandDeviation h band z) :
    s.bandRaises h band z =
      [.eventRaise .bandExcursion (.zone (zoneCh h z)) 0
        (detailSigned (((s.gaugeOf h z).feedback : Int) - (s.zoneOf h z).setpoint))] := by
  unfold State.bandRaises
  rw [(bandEpisode s h band z).2.mpr deviation]

theorem bandRaises_quiet (quiet : ¬s.bandBegins h band z) : s.bandRaises h band z = [] := by
  unfold State.bandRaises
  rw [not_not.mp (mt (bandBegins_iff s h band z).mpr quiet)]

/-- When an episode begins, spelled. -/
theorem bandBegins_spelled :
    s.bandBegins h band z ↔
      band ≠ 0 ∧
        (((s.gaugeOf h z).stale = true ∧ (s.zoneOf h z).monitorStale = false) ∨
          ((s.gaugeOf h z).stale = false ∧ (s.zoneOf h z).ramping = false ∧
            (s.zoneOf h z).settle = 0 ∧
            band < (((s.gaugeOf h z).feedback : Int) - (s.zoneOf h z).setpoint).natAbs ∧
            (s.zoneOf h z).excursion = false ∧
            debounceLength (s.zoneConfig (zoneCh h z)).bandDebounce ≤
              (s.zoneOf h z).debounce + 1)) := by
  have unmasked : ¬((s.zoneOf h z).ramping = true ∨ 0 < (s.zoneOf h z).settle) ↔
      (s.zoneOf h z).ramping = false ∧ (s.zoneOf h z).settle = 0 := by
    rw [not_or, Bool.not_eq_true, Nat.pos_iff_ne_zero, not_not]
  unfold State.bandBegins State.bandSilent State.bandDeviation ZoneChannel.Silent
    ZoneChannel.Deviation ZoneChannel.Deviates ZoneChannel.counted
  rw [unmasked, min_eq_right_iff]
  tauto

theorem bandSettled_spelled :
    (s.bandVerdict h band z).2.met = true ↔
      band ≠ 0 ∧ (s.gaugeOf h z).stale = false ∧ (s.zoneOf h z).ramping = false ∧
        (s.zoneOf h z).settle = 0 ∧
        (((s.gaugeOf h z).feedback : Int) - (s.zoneOf h z).setpoint).natAbs ≤ band :=
  judgeBand_met _ _ _ _ _

theorem bandMet_spelled :
    s.bandMet h = true ↔
      s.bandOf h ≠ 0 ∧ ∀ z, (s.gaugeOf h z).stale = false ∧ (s.zoneOf h z).ramping = false ∧
        (s.zoneOf h z).settle = 0 ∧
        (((s.gaugeOf h z).feedback : Int) - (s.zoneOf h z).setpoint).natAbs ≤ s.bandOf h := by
  simp only [State.bandMet, List.all_eq_true, List.mem_finRange, forall_const,
    bandSettled_spelled]
  exact ⟨fun all => ⟨(all 0).1, fun z => (all z).2⟩, fun all z => ⟨all.1, all.2 z⟩⟩

end

/-! ### The zones after stage 5 -/

section
variable {h : Head} {v t : State} {c : StepRecord} {met : Bool}

theorem maskedZones_zone (s : State) (z : Zone) :
    (s.maskedZones h).get (zoneCh h z) = { s.zoneOf h z with ramping := true, settle := 0 } := by
  simp [State.maskedZones, State.zoneOf]

theorem maskedZones_other (s : State) {i : ZoneCh} (ne : headOfZone i ≠ h) :
    (s.maskedZones h).get i = s.zones.get i := by
  simp [State.maskedZones, ne]

theorem StepJudged.reg {s : State} (judged : StepJudged h s t) :
    t.reg = s.reg ∧ t.regulatorOut = s.regulatorOut := by
  obtain ⟨r, zs, l, rfl, -⟩ := judged
  exact ⟨rfl, rfl⟩

/-- The zones are as stage 4 has left them, or masked by the start of the next step. -/
theorem StepJudged.zone (judged : StepJudged h (v.cycleCounted h c met) t) (z : Zone) :
    ((t.heads.get h).cycleCount ≠ 0 ∧ t.zoneOf h z = v.zoneOf h z) ∨
      ((t.heads.get h).cycleCount = 0 ∧
        t.zoneOf h z = { v.zoneOf h z with ramping := true, settle := 0 }) := by
  obtain ⟨r, zs, l, rfl, -, ⟨count, rfl⟩ | ⟨zero, rfl⟩⟩ := judged
  · refine .inl ⟨?_, rfl⟩
    simp only [Tab.get_upd_same, count]
    simp [State.cycleCounted, countCycle]
  · exact .inr ⟨by simpa using zero, maskedZones_zone _ z⟩

theorem StepJudged.other (judged : StepJudged h (v.cycleCounted h c met) t) {i : ZoneCh}
    (ne : headOfZone i ≠ h) : t.zones.get i = v.zones.get i := by
  obtain ⟨r, zs, l, rfl, -, ⟨-, rfl⟩ | ⟨-, rfl⟩⟩ := judged
  · rfl
  · exact maskedZones_other _ ne

theorem StepJudged.core (judged : StepJudged h (v.cycleCounted h c met) t) (z : Zone) :
    (t.zoneOf h z).core = (v.zoneOf h z).core := by
  obtain ⟨-, is⟩ | ⟨-, is⟩ := judged.zone z <;> rw [is]
  rfl

theorem StepJudged.config (judged : StepJudged h (v.cycleCounted h c met) t) (i : ZoneCh) :
    (t.zones.get i).config = (v.zones.get i).config := by
  by_cases own : headOfZone i = h
  · obtain ⟨z, rfl⟩ := zoneCh_of_head own
    exact congrArg Prod.fst (judged.core z)
  · rw [judged.other own]

end

/-! ### A RUNNING delivery without a band action -/

/-- The delivery reaches stage 4 RUNNING in step `c`, where its setpoints leave `v`, and stage 5
leaves `t`. -/
structure RunsStep (h : Head) (d : Delivery) (c : StepRecord) (s v t : State) : Prop where
  derives : v = deriveZones h c ((s.heads.get h).latched d).trims ((s.latched h d).judged h)
  recoded : Recoded h (List.finRange 7) ((s.latched h d).judged h) v
  judged : StepJudged h (v.cycleCounted h c ((s.latched h d).bandMet h)) t

/-- The port's marks before the port sends: a channel whose zone has a new code, other than the one
last sent, is marked. -/
def MarkedBy (h : Head) (s t : State) : Prop :=
  t.reg.inHand = s.reg.inHand ∧ t.reg.last = s.reg.last ∧ t.regulatorOut = s.regulatorOut ∧
    ∀ i : Chan,
      t.reg.pending.get i = true ↔
        s.reg.pending.get i = true ∨
          ∃ z, i = chanOfZone (zoneCh h z) ∧ (t.zoneOf h z).code ≠ (s.zoneOf h z).code ∧
            (t.zoneOf h z).code ≠ s.reg.last.get i

section
variable {h : Head} {d : Delivery} {c : StepRecord} {s v t : State}

theorem latched_judged_code (z : Zone) :
    (((s.latched h d).judged h).zoneOf h z).code = (s.zoneOf h z).code := by
  rw [judged_zone_only]
  rfl

theorem RunsStep.headOnly (runs : RunsStep h d c s v t) : HeadOnly h s t := by
  have counted : HeadOnly h v (v.cycleCounted h c ((s.latched h d).bandMet h)) :=
    ⟨_, v.zones, v.reg, v.regulatorOut, _, rfl⟩
  exact ((latched_headOnly.trans judged_headOnly).trans runs.recoded.headOnly).trans
    (counted.trans runs.judged.headOnly)

theorem RunsStep.other (runs : RunsStep h d c s v t) {i : ZoneCh} (ne : headOfZone i ≠ h) :
    t.zones.get i = s.zones.get i := by
  rw [runs.judged.other ne, runs.recoded.others i fun z _ is => ne (is ▸ headOfZone_zoneCh h z),
    judged_other ne]
  rfl

theorem RunsStep.config (runs : RunsStep h d c s v t) (i : ZoneCh) :
    (t.zones.get i).config = (s.zones.get i).config := by
  rw [runs.judged.config, runs.recoded.config, judged_config]
  rfl

theorem RunsStep.code (runs : RunsStep h d c s v t) (z : Zone) :
    (t.zoneOf h z).code = (v.zoneOf h z).code :=
  (Prod.mk.inj (Prod.mk.inj (runs.judged.core z)).2).2

theorem RunsStep.setpoint (runs : RunsStep h d c s v t) (z : Zone) :
    (t.zoneOf h z).setpoint = (v.zoneOf h z).setpoint :=
  (Prod.mk.inj (Prod.mk.inj (runs.judged.core z)).2).1

theorem RunsStep.marked (runs : RunsStep h d c s v t) : MarkedBy h s t := by
  obtain ⟨reg, out⟩ := runs.judged.reg
  obtain ⟨zs, p, l, is⟩ := runs.recoded.only
  have port : v.reg.inHand = s.reg.inHand ∧ v.reg.last = s.reg.last ∧
      v.regulatorOut = s.regulatorOut := by
    rw [is]
    exact ⟨rfl, rfl, rfl⟩
  obtain ⟨inHand, last, sent⟩ := port
  refine ⟨(congrArg RegulatorPort.inHand reg).trans inHand,
    (congrArg RegulatorPort.last reg).trans last, out.trans sent, fun i => ?_⟩
  have marks : t.reg.pending = v.reg.pending := congrArg RegulatorPort.pending reg
  rw [marks, runs.recoded.pending]
  refine or_congr Iff.rfl (exists_congr fun z => ?_)
  rw [runs.code, latched_judged_code]
  simp [State.judged, State.rezoned, State.latched]

/-- What stage 4 raises. -/
theorem RunsStep.saturations (runs : RunsStep h d c s v t) :
    v.handed = ((s.latched h d).judged h).handed ++ (List.finRange 7).flatMap fun z =>
      saturation (zoneCh h z) (s.zoneOf h z) (t.zoneOf h z) := by
  rw [runs.recoded.handed]
  refine congrArg _ (List.flatMap_congr fun z _ => ?_)
  have was := congrArg ZoneChannel.saturated (judged_zone_only (h := h) (s := s.latched h d) z)
  have config := judged_config (h := h) (s := s.latched h d) (zoneCh h z)
  unfold saturation
  rw [runs.code, runs.setpoint, show (((s.latched h d).judged h).zoneOf h z).saturated =
      (s.zoneOf h z).saturated from was,
    show (((s.latched h d).judged h).zoneOf h z).config = (s.zoneOf h z).config from config]

theorem staged_runsStep (banded : (s.heads.get h).Banded)
    (record : ((s.latched h d).bandResult h).1 = (s.heads.get h).latched d)
    (runs : (s.heads.get h).state = .running) (step : (s.heads.get h).context = some c)
    (skipBefore : Bool) :
    ∃ v, RunsStep h d c s v (s.staged h d false skipBefore) ∧
      s.staged h d false skipBefore = stageEnd h skipBefore ((s.latched h d).bandMet h) v ∧
      v.heads = s.heads.upd h ((s.heads.get h).latched d) := by
  have running : ((s.latched h d).bandResult h).1.state = .running := by rw [record]; exact runs
  have within : ((s.latched h d).bandResult h).1.context = some c := by rw [record]; exact step
  have staged := staged_runs banded running within skipBefore
  rw [record] at staged
  have derived := deriveZones_recoded h c ((s.heads.get h).latched d).trims ((s.latched h d).judged h)
  have heads : (deriveZones h c ((s.heads.get h).latched d).trims ((s.latched h d).judged h)).heads =
      s.heads.upd h ((s.heads.get h).latched d) := by
    obtain ⟨zs, p, l, is⟩ := derived.only
    rw [is]
    change (s.heads.upd h _).upd h ((s.latched h d).bandResult h).1 = _
    rw [record, Tab.upd_upd]
  refine ⟨_, ⟨rfl, derived, ?_⟩, staged, heads⟩
  rw [staged]
  refine stageEnd_judged ?_ ?_ skipBefore <;> rw [heads, Tab.get_upd_same]
  · exact runs
  · exact step

end

end Sys2Proof.Machine
end

section
/-! PROOFS. How the step of a RUNNING delivery ends. -/

namespace Sys2Proof.Machine

open Sys2Proof

/-! ### The judgement of a step -/

section
variable {r : HeadRecord} {c : StepRecord} {skipBefore : Bool}

theorem judgeStep_ends (ends : (r.skip && skipBefore) = true ∨ endCondition r c = true) :
    judgeStep r c skipBefore = .endsNormally := by
  unfold judgeStep
  by_cases skipped : (r.skip && skipBefore) = true
  · rw [if_pos skipped]
  · rw [if_neg skipped, if_pos (ends.resolve_left skipped)]

theorem judgeStep_expires (unended : ¬((r.skip && skipBefore) = true ∨ endCondition r c = true))
    (expired : c.endKind ≠ .duration ∧ c.maxCycles ≤ r.cycleCount) :
    judgeStep r c skipBefore = .timesOut := by
  obtain ⟨unskipped, goes⟩ := not_or.mp unended
  rw [judgeStep, if_neg unskipped, if_neg goes, if_pos expired]

theorem judgeStep_goesOn (unended : ¬((r.skip && skipBefore) = true ∨ endCondition r c = true))
    (unexpired : ¬(c.endKind ≠ .duration ∧ c.maxCycles ≤ r.cycleCount)) :
    judgeStep r c skipBefore = .goesOn := by
  obtain ⟨unskipped, goes⟩ := not_or.mp unended
  rw [judgeStep, if_neg unskipped, if_neg goes, if_neg unexpired]

theorem endCondition_iff :
    endCondition r c = true ↔
      match c.endKind with
      | .duration => r.cycleCount = c.endCount
      | .endpoint => ∃ x, r.latch = some x ∧ r.endpoint ≠ some x
      | .settled => r.settledRun = c.endCount := by
  unfold endCondition
  cases c.endKind with
  | duration => exact beq_iff_eq
  | settled => exact beq_iff_eq
  | endpoint => cases r.latch <;> simp

end

/-! ### A delivery that runs its step -/

section
variable {h : Head} {d : Delivery} {c : StepRecord} {s v t : State}

theorem atPlaten_congr {u : State} (same : u.docks = s.docks) (f : Platen → List Instr) :
    u.atPlaten h f = s.atPlaten h f := by
  unfold State.atPlaten
  rw [platenOf_congr same]

theorem bandOf_latched (step : (s.heads.get h).context = some c) : (s.latched h d).bandOf h = c.band := by
  unfold State.bandOf
  rw [latched_record]
  unfold stepBand
  rw [show ((s.heads.get h).latched d).context = some c from step]

/-- Without a band action stage 3 changes no record, and raises each episode that begins. -/
theorem bandResult_reports (step : (s.heads.get h).context = some c)
    (calm : ∀ z, s.bandBegins h c.band z → s.bandAction h z = .report) :
    (s.latched h d).bandResult h =
      ((s.heads.get h).latched d, s.handed ++ (List.finRange 7).flatMap (s.bandRaises h c.band)) := by
  have report (z : Zone) (begins : (s.latched h d).bandBegins h c.band z) :
      (s.latched h d).bandAction h z = .report := calm z begins
  have folded := foldl_bandActs_calm (h := h) (s := s.latched h d) (band := c.band)
    (l := List.finRange 7) (x := ((s.latched h d).heads.get h, (s.latched h d).handed))
    fun z _ begins => by
      rw [report z begins]
      exact BandAction.noConfusion
  have paused : (s.latched h d).bandPaused h c.band (List.finRange 7) ((s.latched h d).heads.get h) =
      (s.latched h d).heads.get h := bandPaused_not fun ⟨_, z, _, begins, hold⟩ => by
    rw [report z begins] at hold
    exact BandAction.noConfusion hold
  unfold State.bandResult
  rw [bandOf_latched step, folded, paused, latched_record]
  rfl

/-- The record of the head after the command of a delivery that carries none, or a new SKIP. -/
def HeadRecord.skipTold (r : HeadRecord) (skip : Option CommandValue) : HeadRecord :=
  match skip with
  | some v => { r with skip := true, lastSeq := v.seq, lastOutcome := .accepted }
  | none => r

/-- The Cell Map after that command. -/
def skipLearned (h : Head) (m : CellMap) (skip : Option CommandValue) : CellMap :=
  match skip with
  | some v => { m with learnedHead := m.learnedHead.upd h (some v.seq) }
  | none => m

/-- The state after that command. -/
def State.skipTold (s : State) (h : Head) (skip : Option CommandValue) : State :=
  { s with
    map := skipLearned h s.map skip, heads := s.heads.upd h ((s.heads.get h).skipTold skip) }

theorem skipTold_state (r : HeadRecord) (skip : Option CommandValue) :
    (r.skipTold skip).state = r.state := by cases skip <;> rfl

/-- A SKIP counts at its own delivery only where one was marked before. -/
theorem skipTold_skip (r : HeadRecord) (skip : Option CommandValue) :
    ((r.skipTold skip).skip && r.skip) = r.skip := by
  cases skip with
  | none => exact Bool.and_self _
  | some v => exact Bool.true_and _

theorem skipTold_step (r : HeadRecord) (skip : Option CommandValue) :
    r.skipTold skip =
      { r with
        skip := (r.skipTold skip).skip, lastSeq := (r.skipTold skip).lastSeq
        lastOutcome := (r.skipTold skip).lastOutcome } := by cases skip <;> rfl

theorem stageCommand_skipTold {skip : Option CommandValue} (command : d.command = skip)
    (running : (s.heads.get h).state = .running)
    (fresh : ∀ v, skip = some v → v.code = 4 ∧ ∃ q, s.map.learnedHead.get h = some q ∧ q ≠ v.seq) :
    stageCommand h d.command s = s.skipTold h skip := by
  cases skip with
  | none =>
    rw [command]
    simp [stageCommand, State.skipTold, skipLearned, HeadRecord.skipTold]
  | some v =>
    obtain ⟨code, q, learned, new⟩ := fresh v rfl
    obtain ⟨k, arg, seq⟩ := v
    obtain rfl : k = 4 := code
    rw [stageCommand_new command learned new, newHeadCommand_plain (by decide), newHeadCommand_skip]
    simp only [if_pos running]
    rfl

theorem exec_skipTold {skip : Option CommandValue} (command : d.command = skip)
    (running : (s.heads.get h).state = .running)
    (fresh : ∀ v, skip = some v → v.code = 4 ∧ ∃ q, s.map.learnedHead.get h = some q ∧ q ≠ v.seq) :
    exec (.cycleDelivery h d) s =
      .next (State.kickPort (((s.takeUp (.cycleDelivery h d)).skipTold h skip).staged h d false
        (s.heads.get h).skip)) := by
  have same : (((s.takeUp (.cycleDelivery h d)).skipTold h skip).heads.get h).state = .running := by
    simp only [State.skipTold, Tab.get_upd_same, skipTold_state]
    exact running
  rw [exec_cycleDelivery, stageCommand_skipTold (s := s.takeUp _) command running fresh, same, running]
  rfl

end

/-! ### Settling O29 -/

theorem stepRecordOf_congr {s t : State} (same : t.store = s.store) (p : Fin 16) (i : Nat) :
    t.stepRecordOf p i = s.stepRecordOf p i := by
  unfold State.stepRecordOf
  rw [same]

theorem handed_kickPort (s : State) : s.kickPort.handed = s.handed := by simp

/-- The entry to SAFE_HOLD hands what the head's state asks for. -/
theorem safeHoldEvents_congr {r r' : HeadRecord} (same : r.state = r'.state) (h : Head)
    (cause : SafeCause) (platen : Option Platen) :
    safeHoldEvents h cause r platen = safeHoldEvents h cause r' platen := by
  unfold safeHoldEvents
  rw [same]

theorem zoneOf_kickPort (s : State) (h : Head) (z : Zone) : s.kickPort.zoneOf h z = s.zoneOf h z := by
  simp [State.zoneOf]

/-- The record of a RUNNING head as stage 5 has counted its cycle. -/
theorem counted_eq {r : HeadRecord} (runs : r.state = .running) (d : Delivery) (c : StepRecord)
    (met : Bool) :
    countCycle (r.latched d) c met =
      { r with
        endpoint := d.endpoint <|> r.endpoint
        trims := Tab.ofFn fun z => (d.trims.get z).getD (r.trims.get z)
        latch := if r.latch = none then d.endpoint <|> r.endpoint else r.latch
        cycleCount := min (r.cycleCount + 1) 65535
        settledRun :=
          if c.endKind = .settled then (if met = true then min (r.settledRun + 1) 255 else 0)
          else r.settledRun } := by
  have going : r.state ≠ .done := by simp [runs]
  unfold countCycle HeadRecord.latched HeadRecord.fed HeadRecord.endpointAfter
  simp [going]

theorem bandRaises_stale {h : Head} {band : Nat} {s : State} {z : Zone} (begins : s.bandBegins h band z)
    (stale : (s.gaugeOf h z).stale = true) :
    s.bandRaises h band z = [.eventRaise .bandExcursion (.zone (zoneCh h z)) 1 0] :=
  bandRaises_silent (begins.resolve_right fun deviation => by
    simp [State.bandDeviation, ZoneChannel.Deviation, ZoneChannel.Deviates, stale] at deviation)

theorem bandRaises_current {h : Head} {band : Nat} {s : State} {z : Zone}
    (begins : s.bandBegins h band z) (current : ¬(s.gaugeOf h z).stale = true) :
    s.bandRaises h band z =
      [.eventRaise .bandExcursion (.zone (zoneCh h z)) 0
        (detailSigned (((s.gaugeOf h z).feedback : Int) - (s.zoneOf h z).setpoint))] :=
  bandRaises_deviation (begins.resolve_left fun silent => current silent.2.1)

/-- Settles O29: the stages up to 4 as any RUNNING delivery takes them, then the step's end. -/
theorem durationStepEnds : Obligations.DurationStepEnds := by
  intro h d c p skip s r config old gauge away begins running context program calm command fresh
    endpoint count met run latch told counted ends expires atPlaten steps next actions timedOut
  let b := (s.takeUp (.cycleDelivery h d)).skipTold h skip
  have rb : b.heads.get h = told := Tab.get_upd_same _ _ _
  have step := skipTold_step r skip
  have toldIs : told = r.skipTold skip := rfl
  have begins_iff (z : Zone) : b.bandBegins h c.band z ↔ begins z := bandBegins_spelled
  have runs : told.state = .running := (skipTold_state r skip).trans running
  have within : told.context = some c := by rw [toldIs, step]; exact context
  have isProgram : told.program = some p := by rw [toldIs, step]; exact program
  have result := bandResult_reports (h := h) (d := d) (c := c) (s := b) (by rw [rb]; exact within)
    fun z is => calm z ((begins_iff z).mp is)
  obtain ⟨v, taken, staged, heads⟩ := staged_runsStep (s := b) (d := d) (by rw [rb]; exact .inl runs)
    (congrArg Prod.fst result) (by rw [rb]; exact runs) (by rw [rb]; exact within) r.skip
  have met_iff : (b.latched h d).bandMet h = true ↔ met := by
    rw [bandMet_spelled, bandOf_latched (by rw [rb]; exact within)]
    rfl
  have isCounted : countCycle ((b.heads.get h).latched d) c ((b.latched h d).bandMet h) = counted := by
    rw [rb, counted_eq runs]
    unfold counted run
    rw [toldIs, step]
    by_cases is : met
    · simp only [if_pos is, if_pos (met_iff.mpr is)]
      rfl
    · simp only [if_neg is, if_neg (mt met_iff.mp is)]
      rfl
  have only : HeadOnly h b v :=
    (latched_headOnly.trans judged_headOnly).trans taken.recoded.headOnly
  have docks : v.docks = s.docks := (congrArg State.docks only.eq).trans rfl
  have store : v.store = s.store := (congrArg State.store only.eq).trans rfl
  let w := v.cycleCounted h c ((b.latched h d).bandMet h)
  have wHead : w.heads.get h = counted := by
    rw [← isCounted]
    simp only [w, State.cycleCounted, heads, Tab.get_upd_same]
  have judgement : b.staged h d false r.skip = w.stepFollows h c (judgeStep counted c r.skip) := by
    rw [staged, stageEnd_counts (c := c) (by rw [heads, Tab.get_upd_same, rb]; exact within),
      ← isCounted, heads, Tab.get_upd_same]
  have ends_iff : ((counted.skip && r.skip) = true ∨ endCondition counted c = true) ↔ ends := by
    refine or_congr ?_ endCondition_iff
    rw [show (counted.skip && r.skip) = r.skip from skipTold_skip r skip]
  refine ⟨(b.staged h d false r.skip).kickPort, exec_skipTold command running fresh, ?_, fun i => ?_,
    ?_, ?_⟩
  · have whole := (taken.headOnly.trans (.kickPort h _)).eq
    refine whole.trans ?_
    simp only [b, State.skipTold, Tab.upd_upd]
    rfl
  · rw [show (b.staged h d false r.skip).kickPort.zones = (b.staged h d false r.skip).zones by simp]
    exact ⟨taken.config i, fun ne => taken.other ne⟩
  · obtain ⟨inHand, last, sent, marks⟩ := taken.marked
    refine ⟨_, rfl, inHand, last, sent, fun i => (marks i).trans ?_⟩
    simp only [zoneOf_kickPort]
    rfl
  · intro excursions saturations before ended
    have raised : (List.finRange 7).flatMap (b.bandRaises h c.band) = excursions :=
      List.flatMap_congr fun z _ => by
        by_cases is : begins z
        · have begun : b.bandBegins h c.band z := (begins_iff z).mpr is
          refine Eq.trans ?_ (if_pos is).symm
          by_cases stale : (gauge z).stale = true
          · exact (bandRaises_stale begun stale).trans (if_pos stale).symm
          · exact (bandRaises_current begun stale).trans (if_neg stale).symm
        · exact (bandRaises_quiet (mt (begins_iff z).mp is)).trans (if_neg is).symm
    have saturated : ((List.finRange 7).flatMap fun z =>
        saturation (zoneCh h z) (b.zoneOf h z) ((b.staged h d false r.skip).zoneOf h z)) =
        saturations := by
      unfold saturations
      simp only [zoneOf_kickPort]
      rfl
    have told_ (f : Platen → List Instr) : v.atPlaten h f = atPlaten f := atPlaten_congr docks f
    have wHanded : w.handed = before := by
      have judged : ((b.latched h d).judged h).handed =
          (s.takeUp (.cycleDelivery h d)).handed ++ excursions :=
        (congrArg Prod.snd result).trans (congrArg _ raised)
      change v.handed ++ v.atPlaten h _ = _
      rw [taken.saturations, judged, saturated, told_]
    have stepIndex : told.stepIndex = r.stepIndex := by rw [toldIs, step]
    have following : w.stepRecordOf p (told.stepIndex + 1) = next := by
      rw [stepIndex]
      exact stepRecordOf_congr store p _
    have acts : w.stepEvents h next = atPlaten fun q => actions q next :=
      told_ fun q => stepActions h q next
    have ended_of {x : List Instr}
        (is : b.staged h d false r.skip = endStep h { w with handed := w.handed ++ x }) : ended x := by
      have steps' : ({ w with handed := w.handed ++ x } : State).store.dir.get p =
          s.store.dir.get p := congrArg (fun y : ProgramStore => y.dir.get p) store
      by_cases more : r.stepIndex + 1 < steps
      · have starts := endStep_next (h := h) (s := { w with handed := w.handed ++ x }) (p := p)
          (by rw [wHead]; exact isProgram) (by rw [wHead, steps']; exact stepIndex ▸ more)
        rw [wHead] at starts
        refine (if_pos more).mpr ⟨?_, ?_, fun z => ?_⟩
        · rw [heads_kickPort, is, starts, Tab.get_upd_same]
          change counted.stepStarted (told.stepIndex + 1) (w.stepRecordOf p (told.stepIndex + 1)) = _
          rw [following, stepIndex]
          rfl
        · rw [handed_kickPort, is, starts]
          change w.handed ++ x ++ v.atPlaten h _ ++
            w.stepEvents h (w.stepRecordOf p (told.stepIndex + 1)) = _
          rw [following, wHanded, told_, acts]
        · rw [zoneOf_kickPort, is, starts]
          exact ⟨congrArg ZoneChannel.ramping (maskedZones_zone _ z),
            congrArg ZoneChannel.settle (maskedZones_zone _ z)⟩
      · have finishes := endStep_last (h := h) (s := { w with handed := w.handed ++ x }) (p := p)
          (by rw [wHead]; exact isProgram) (by rw [wHead, steps']; exact stepIndex ▸ more)
        rw [wHead, steps'] at finishes
        refine (if_neg more).mpr ⟨?_, ?_⟩
        · rw [heads_kickPort, is, finishes, Tab.get_upd_same]
        · rw [handed_kickPort, is, finishes]
          change w.handed ++ x ++ v.atPlaten h _ ++ _ = _
          rw [wHanded, told_]
    have timeout : [stepTimeout h (w.heads.get h) c] = timedOut := by
      rw [wHead]
      unfold stepTimeout
      rw [show counted.stepIndex = r.stepIndex from stepIndex]
    refine ⟨fun is => ?_, fun expired other => ?_, fun expired fault => ?_, fun unended unexpired => ?_⟩
    · refine ended_of ?_
      rw [judgement, judgeStep_ends (ends_iff.mpr is)]
      change endStep h w = _
      rw [List.append_nil]
    · refine ended_of ?_
      rw [judgement, judgeStep_expires (mt ends_iff.mp expired.1) expired.2]
      exact (timeoutStep_ends (s := w) other).trans (by rw [timeout])
    · have faults := timeoutStep_faults (h := h) (s := w) fault (by rw [wHead]; exact runs)
      rw [timeout, wHead] at faults
      have outcome := (judgement.trans (congrArg (w.stepFollows h c)
        (judgeStep_expires (mt ends_iff.mp expired.1) expired.2))).trans faults
      have entry (z : Zone) : w.zoneConfig (zoneCh h z) = config z := by
        have same := (taken.recoded.config (zoneCh h z)).trans (judged_config (zoneCh h z))
        exact congrArg ZoneConfig.effective same
      refine ⟨?_, ?_⟩
      · have substate : w.safeSubstate h =
            if ∀ z, ((b.staged h d false r.skip).kickPort.zoneOf h z).setpoint = (config z).safeValue
            then .settled else .settling := by
          rw [safeSubstate_eq]
          refine if_congr (forall_congr' fun z => ?_) rfl rfl
          rw [zoneOf_kickPort, outcome, entry]
          rfl
        rw [heads_kickPort, ← substate, outcome, Tab.get_upd_same]
        rfl
      · rw [handed_kickPort, outcome]
        change w.handed ++ timedOut ++ safeHoldEvents h .stepTimeout counted (v.platenOf h) = _
        rw [wHanded, platenOf_congr docks,
          safeHoldEvents_congr (r' := r) (show counted.state = r.state from runs.trans running.symm)]
    · have outcome : b.staged h d false r.skip = w := judgement.trans (congrArg (w.stepFollows h c)
        (judgeStep_goesOn (mt ends_iff.mp unended) fun is => unexpired ⟨unended, is⟩))
      rw [heads_kickPort, handed_kickPort, outcome]
      exact ⟨wHead, wHanded⟩

end Sys2Proof.Machine
end

section
/-! PROOFS. The zones of a delivery without a command, spelled. -/

namespace Sys2Proof.Machine

open Sys2Proof

/-! ### The arithmetic of a derivation -/

theorem clampedTrim_eq (trim : Int) (limit : Nat) :
    clampedTrim trim limit = max (-(limit : Int)) (min trim limit) := by
  unfold clampedTrim clampInt
  split <;> omega

theorem approach_eq (cur goal rate : Nat) :
    approach cur goal rate =
      if rate = 0 then goal
      else if cur ≤ goal then min goal (cur + rate)
      else max goal (cur - rate) := by
  unfold approach
  split
  · rfl
  · split <;> split <;> omega

theorem regulatorCode_eq (range : PressureRange) (v : Nat) :
    regulatorCode range v =
      min (match range with
        | .fine => (v + 5) / 10
        | .coarse => (v + 8) / 16) 4095 := by
  cases range <;> rfl

section
variable (e : ZoneConfig) (c : StepRecord) (z : Zone) (trim : Int) (cur : Nat) (inner : Zone → Nat)

/-- The composed target of zone `z` (R50, R51). -/
def goalOf : Nat :=
  (min (max (e.floor : Int) ((c.targets.get z : Int) + max (-(c.trimLimit : Int)) (min trim c.trimLimit)))
    e.ceiling).toNat

theorem derivation_goal : (derivation e c z trim cur inner).2.1 = goalOf e c z trim := by
  unfold derivation composedTarget clampInt goalOf
  rw [clampedTrim_eq]

/-- The ramp rate of zone `z` (R52). -/
def rateOf : Nat := if z = 0 then c.ringRate else c.membraneRate

/-- The ramped value of zone `z` (R52). -/
def rampedOf : Nat :=
  if rateOf c z = 0 then goalOf e c z trim
  else if cur ≤ goalOf e c z trim then min (goalOf e c z trim) (cur + rateOf c z)
  else max (goalOf e c z trim) (cur - rateOf c z)

theorem derivation_ramped : (derivation e c z trim cur inner).1 = rampedOf e c z trim cur := by
  have rate : (if z.val = 0 then c.ringRate else c.membraneRate) = rateOf c z :=
    if_congr Fin.val_eq_zero_iff rfl rfl
  change approach cur (derivation e c z trim cur inner).2.1 _ = _
  rw [derivation_goal, rate, approach_eq]
  rfl

/-- The value of zone `z` after the differential step (R54). -/
def limitedOf : Nat :=
  if hz : 2 ≤ z.val then
    if e.diffLimit = 0 then rampedOf e c z trim cur
    else
      min (max (inner ⟨z.val - 1, by omega⟩ - e.diffLimit) (rampedOf e c z trim cur))
        (inner ⟨z.val - 1, by omega⟩ + e.diffLimit)
  else rampedOf e c z trim cur

theorem derivation_limited :
    (derivation e c z trim cur inner).2.2 = limitedOf e c z trim cur inner := by
  have limited : (derivation e c z trim cur inner).2.2 =
      match innerZone z with
      | some y =>
        if e.diffLimit = 0 then (derivation e c z trim cur inner).1
        else diffClamp (derivation e c z trim cur inner).1 (inner y) e.diffLimit
      | none => (derivation e c z trim cur inner).1 := rfl
  rw [limited, derivation_ramped]
  unfold innerZone limitedOf
  by_cases far : 2 ≤ z.val
  · simp only [dif_pos far]
    rfl
  · simp only [dif_neg far]

end

/-! ### A delivery at a RUNNING head -/

section
variable {h : Head} {d : Delivery} {c : StepRecord} {s v t : State}

/-- The zone as stage 4 has derived it, from the setpoints that stage 5 leaves. -/
theorem RunsStep.derived (runs : RunsStep h d c s v t) (z : Zone) :
    v.zoneOf h z =
      (((s.latched h d).judged h).zoneOf h z).derived c z (((s.heads.get h).latched d).trims.get z)
        fun y => (t.zoneOf h y).setpoint := by
  have derived := deriveZones_zone h c ((s.heads.get h).latched d).trims ((s.latched h d).judged h) z
  rw [← runs.derives] at derived
  simpa only [runs.setpoint] using derived

/-- What stage 5 leaves of a zone. -/
theorem RunsStep.zone (runs : RunsStep h d c s v t) (z : Zone) :
    ((t.heads.get h).cycleCount ≠ 0 ∧ t.zoneOf h z = v.zoneOf h z) ∨
      ((t.heads.get h).cycleCount = 0 ∧
        t.zoneOf h z = { v.zoneOf h z with ramping := true, settle := 0 }) := runs.judged.zone z

/-- The band monitors stand as stage 3 has left them. -/
theorem RunsStep.monitor (runs : RunsStep h d c s v t) (z : Zone) :
    (t.zoneOf h z).debounce = (((s.latched h d).judged h).zoneOf h z).debounce ∧
      (t.zoneOf h z).excursion = (((s.latched h d).judged h).zoneOf h z).excursion ∧
      (t.zoneOf h z).monitorStale = (((s.latched h d).judged h).zoneOf h z).monitorStale := by
  have kept := runs.derived z
  generalize ((s.latched h d).judged h).zoneOf h z = y at kept
  have same : (v.zoneOf h z).debounce = y.debounce ∧ (v.zoneOf h z).excursion = y.excursion ∧
      (v.zoneOf h z).monitorStale = y.monitorStale := by
    rw [kept]
    exact ⟨rfl, rfl, rfl⟩
  obtain ⟨-, is⟩ | ⟨-, is⟩ := runs.zone z <;> rw [is] <;> exact same

/-- What the zones of head `h` raise that have come to code 4095 from `s` to `t`. -/
def saturationsOf (h : Head) (s t : State) : List Instr :=
  (List.finRange 7).flatMap fun z => saturation (zoneCh h z) (s.zoneOf h z) (t.zoneOf h z)

theorem RunsStep.handed (runs : RunsStep h d c s v t) :
    ∃ later, t.handed = ((s.latched h d).bandResult h).2 ++ saturationsOf h s t ++ later ∧
      ∀ i ∈ later, offZones i := by
  have told : ∀ i ∈ v.atPlaten h fun q => [.cycleNotice q h], offZones i :=
    atPlaten_offZones fun q => by simp [offZones]
  obtain ⟨r, zs, l, is, off, -⟩ := runs.judged
  have whole := congrArg State.handed is
  refine ⟨(v.atPlaten h fun q => [.cycleNotice q h]) ++ l, ?_, fun i mem =>
    (List.mem_append.mp mem).elim (told i) (off i)⟩
  refine whole.trans ?_
  change v.handed ++ _ ++ l = _
  rw [runs.saturations, ← List.append_assoc]
  rfl

theorem judged_fields (z : Zone) :
    let y := ((s.latched h d).judged h).zoneOf h z
    y.config = (s.zoneOf h z).config ∧ y.setpoint = (s.zoneOf h z).setpoint ∧
      y.ramping = (s.zoneOf h z).ramping ∧ y.settle = (s.zoneOf h z).settle := by
  intro y
  have is : y = _ := judged_zone_only z
  rw [is]
  exact ⟨rfl, rfl, rfl, rfl⟩

/-- A zone's setpoint, code and marks as a RUNNING delivery derives them, spelled. -/
theorem RunsStep.spelled (runs : RunsStep h d c s v t) (z : Zone) :
    let e := s.zoneConfig (zoneCh h z)
    let trim := ((s.heads.get h).latched d).trims.get z
    let y := t.zoneOf h z
    let cur := (s.zoneOf h z).setpoint
    let goal := goalOf e c z trim
    let ramped := rampedOf e c z trim cur
    let limited := limitedOf e c z trim cur fun x => (t.zoneOf h x).setpoint
    y.setpoint = min (max e.floor limited) e.ceiling ∧ y.code = regulatorCode e.range y.setpoint ∧
      y.saturated = decide (y.code = 4095) ∧ y.diffLimited = decide (limited ≠ ramped) ∧
      ((t.heads.get h).cycleCount ≠ 0 →
        y.ramping = decide (ramped ≠ goal) ∧
          y.settle =
            if ((s.zoneOf h z).ramping && !decide (ramped ≠ goal)) = true then c.settleMask
            else (s.zoneOf h z).settle - 1) ∧
      ((t.heads.get h).cycleCount = 0 → y.ramping = true ∧ y.settle = 0) := by
  intro e trim y cur goal ramped limited
  obtain ⟨config, setpoint, ramping, settle⟩ := judged_fields (h := h) (d := d) (s := s) z
  have derived := runs.derived z
  unfold ZoneChannel.derived at derived
  rw [config, setpoint, ramping, settle] at derived
  simp only [derivation_goal, derivation_ramped, derivation_limited] at derived
  obtain ⟨count, is⟩ | ⟨count, is⟩ := runs.zone z
  · have whole : y = _ := is.trans derived
    rw [whole]
    exact ⟨rfl, rfl, rfl, rfl, fun _ => ⟨rfl, rfl⟩, fun zero => absurd zero count⟩
  · have whole : y = _ := is.trans (by rw [derived])
    rw [whole]
    exact ⟨rfl, rfl, rfl, rfl, fun more => absurd count more, fun _ => ⟨rfl, rfl⟩⟩

end

/-! ### A delivery that derives no setpoint -/

/-- The delivery derives no setpoint: after stage 3 the settle counters of a PAUSED head alone have
changed. -/
structure StaysStep (h : Head) (d : Delivery) (s t : State) : Prop where
  headOnly : HeadOnly h s t
  record : t.heads.get h = ((s.latched h d).bandResult h).1
  handed : t.handed = ((s.latched h d).bandResult h).2
  zone : ∀ z, t.zoneOf h z =
    { ((s.latched h d).judged h).zoneOf h z with
      settle :=
        if (t.heads.get h).state = .paused then (s.zoneOf h z).settle - 1
        else (s.zoneOf h z).settle }
  other : ∀ i, headOfZone i ≠ h → t.zones.get i = s.zones.get i
  port : t.reg = s.reg ∧ t.regulatorOut = s.regulatorOut

section
variable {h : Head} {d : Delivery} {s t : State}

theorem staged_staysStep (banded : (s.heads.get h).Banded)
    (stays : ((s.latched h d).bandResult h).1.state = .running →
      ((s.latched h d).bandResult h).1.context = none) (skipBefore : Bool) :
    StaysStep h d s (s.staged h d false skipBefore) := by
  have record := judged_record (h := h) (s := s.latched h d)
  have settle (z : Zone) := (judged_fields (h := h) (d := d) (s := s) z).2.2.2
  have only : HeadOnly h s ((s.latched h d).judged h) := latched_headOnly.trans judged_headOnly
  rw [staged_stays banded stays skipBefore]
  by_cases paused : ((s.latched h d).bandResult h).1.state = .paused
  · rw [if_pos paused]
    obtain ⟨zs, is⟩ := countdownZones_only h ((s.latched h d).judged h)
    have heads : (countdownZones h ((s.latched h d).judged h)).heads.get h =
        ((s.latched h d).bandResult h).1 := by rw [is]; exact record
    refine ⟨?_, heads, by rw [is]; rfl, fun z => ?_, fun i ne => ?_, by rw [is]; exact ⟨rfl, rfl⟩⟩
    · have counted : HeadOnly h ((s.latched h d).judged h)
          (countdownZones h ((s.latched h d).judged h)) :=
        ⟨((s.latched h d).judged h).heads.get h, zs, s.reg, s.regulatorOut,
          ((s.latched h d).judged h).handed, by rw [is, Tab.upd_get_same]; rfl⟩
      exact only.trans counted
    · rw [countdownZones_zone, heads, if_pos paused, ← settle z]
      rfl
    · rw [countdownZones_other _ _ ne, judged_other ne]
      rfl
  · rw [if_neg paused]
    refine ⟨only, record, rfl, fun z => ?_, fun i ne => ?_, ⟨rfl, rfl⟩⟩
    · rw [record, if_neg paused, ← settle z]
    · rw [judged_other ne]
      rfl

theorem StaysStep.config (stays : StaysStep h d s t) (i : ZoneCh) :
    (t.zones.get i).config = (s.zones.get i).config := by
  by_cases own : headOfZone i = h
  · obtain ⟨z, rfl⟩ := zoneCh_of_head own
    exact (congrArg ZoneChannel.config (stays.zone z)).trans (judged_fields z).1
  · rw [stays.other i own]

theorem StaysStep.code (stays : StaysStep h d s t) (z : Zone) :
    (t.zoneOf h z).code = (s.zoneOf h z).code := by
  rw [stays.zone z]
  exact latched_judged_code z

theorem StaysStep.marked (stays : StaysStep h d s t) : MarkedBy h s t := by
  obtain ⟨reg, out⟩ := stays.port
  refine ⟨by rw [reg], by rw [reg], out, fun i => ?_⟩
  simp [reg, stays.code]

theorem StaysStep.monitor (stays : StaysStep h d s t) (z : Zone) :
    (t.zoneOf h z).debounce = (((s.latched h d).judged h).zoneOf h z).debounce ∧
      (t.zoneOf h z).excursion = (((s.latched h d).judged h).zoneOf h z).excursion ∧
      (t.zoneOf h z).monitorStale = (((s.latched h d).judged h).zoneOf h z).monitorStale := by
  rw [stays.zone z]
  exact ⟨rfl, rfl, rfl⟩

/-- A zone changes in its monitor and its settle counter alone. -/
theorem StaysStep.whole (stays : StaysStep h d s t) (z : Zone) :
    t.zoneOf h z =
      { s.zoneOf h z with
        debounce := (t.zoneOf h z).debounce, excursion := (t.zoneOf h z).excursion
        monitorStale := (t.zoneOf h z).monitorStale
        settle :=
          if (t.heads.get h).state = .paused then (s.zoneOf h z).settle - 1
          else (s.zoneOf h z).settle } := by
  obtain ⟨debounce, excursion, stale⟩ := stays.monitor z
  rw [debounce, excursion, stale]
  refine (stays.zone z).trans ?_
  rw [judged_zone_only]
  rfl

end

end Sys2Proof.Machine
end

section
/-! PROOFS. A delivery without a command to a RUNNING, PAUSED or DONE head. -/

namespace Sys2Proof.Machine

open Sys2Proof

theorem zones_upTo (z : Zone) :
    (List.finRange 7).filter (· ≤ z) = (List.finRange 7).filter (· < z) ++ [z] := by
  revert z
  decide

section
variable {h : Head} {d : Delivery} {s t : State} {band : Nat}

theorem exec_commandless (none' : d.command = none) :
    exec (.cycleDelivery h d) s =
      .next (State.kickPort ((s.takeUp (.cycleDelivery h d)).staged h d false
        (s.heads.get h).skip)) := by
  have same : stageCommand h d.command (s.takeUp (.cycleDelivery h d)) =
      s.takeUp (.cycleDelivery h d) := by rw [none']; rfl
  rw [exec_cycleDelivery, same]
  exact congrArg (fun b => Host.Outcome.next (State.kickPort
    ((s.takeUp (.cycleDelivery h d)).staged h d b (s.heads.get h).skip)))
    (startedStep_same (s.heads.get h).state)

/-- The entry to SAFE_HOLD does not ask whether the head was paused on the way. -/
theorem bandPaused_held (l : List Zone) (r : HeadRecord) (cause : SafeCause) (sub : HeadSubstate) :
    (s.bandPaused h band l r).held cause sub = r.held cause sub := by
  unfold State.bandPaused
  split <;> rfl

/-- The first zone, if any, that begins an episode with action SAFE. -/
theorem exists_first {P : Zone → Prop} (some' : ∃ z, P z) : ∃ z, P z ∧ ∀ y < z, ¬P y := by
  obtain ⟨z, is, least⟩ := wellFounded_lt.has_min {z | P z} some'
  exact ⟨z, is, fun y lt at_ => least y at_ lt⟩

/-- What the delivery leaves of a zone's band monitor. -/
theorem monitor_marks {y : ZoneChannel} {z : Zone} (is : s.bandOf h = band)
    (monitor : y.debounce = ((s.judged h).zoneOf h z).debounce ∧
      y.excursion = ((s.judged h).zoneOf h z).excursion ∧
      y.monitorStale = ((s.judged h).zoneOf h z).monitorStale) :
    let old := s.zoneOf h z
    let fb := (s.gaugeOf h z).feedback
    let stale := (s.gaugeOf h z).stale
    let code := (s.zoneConfig (zoneCh h z)).bandDebounce
    (¬old.KeepsMarks band fb stale → y.debounce = 0 ∧ y.excursion = false) ∧
      (old.KeepsMarks band fb stale →
        (old.Deviates band fb stale → y.debounce = old.counted code) ∧
          (¬old.Deviates band fb stale → y.debounce = old.debounce) ∧
          (y.excursion = true ↔ old.excursion = true ∨ old.Deviation band code fb stale)) ∧
      (y.monitorStale = true ↔ band ≠ 0 ∧ stale = true) := by
  intro old fb stale code
  obtain ⟨debounce, excursion, monitorStale⟩ := monitor
  rw [debounce, excursion, monitorStale, judged_zone, is]
  exact ⟨judgeBand_cleared old band code fb stale, judgeBand_kept old band code fb stale,
    judgeBand_monitorStale old band code fb stale⟩

theorem mem_saturation {c : ZoneCh} {old new : ZoneChannel} {i : Instr}
    (mem : i ∈ saturation c old new) :
    (new.code = 4095 ∧ old.saturated = false) ∧ ∃ d1 d2, i = .eventRaise .saturated (.zone c) d1 d2 := by
  unfold saturation at mem
  split at mem
  · next saturates => exact ⟨saturates, _, _, List.mem_singleton.mp mem⟩
  · simp at mem

theorem saturation_mem {z : Zone}
    (full : (t.zoneOf h z).code = 4095 ∧ (s.zoneOf h z).saturated = false) :
    .eventRaise .saturated (.zone (zoneCh h z)) (w16 (t.zoneOf h z).setpoint)
      (w16 (rangeCode (s.zoneConfig (zoneCh h z)).range)) ∈ saturationsOf h s t := by
  refine List.mem_flatMap.mpr ⟨z, List.mem_finRange z, ?_⟩
  rw [saturation, if_pos full]
  exact List.mem_singleton.mpr rfl

theorem mem_saturationsOf {z : Zone} {d1 d2 : Word16}
    (mem : .eventRaise .saturated (.zone (zoneCh h z)) d1 d2 ∈ saturationsOf h s t) :
    (t.zoneOf h z).code = 4095 ∧ (s.zoneOf h z).saturated = false := by
  obtain ⟨y, -, mem⟩ := List.mem_flatMap.mp mem
  obtain ⟨full, _, _, is⟩ := mem_saturation mem
  simp only [Instr.eventRaise.injEq, Source.zone.injEq] at is
  rw [zoneCh_inj is.2.1]
  exact full

theorem bandRaises_kind {z : Zone} {i : Instr} (mem : i ∈ s.bandRaises h band z) :
    ∃ src d1 d2, i = .eventRaise .bandExcursion src d1 d2 := by
  by_cases begins : s.bandBegins h band z
  · rcases begins with silent | deviation
    · rw [bandRaises_silent silent] at mem
      exact ⟨_, _, _, List.mem_singleton.mp mem⟩
    · rw [bandRaises_deviation deviation] at mem
      exact ⟨_, _, _, List.mem_singleton.mp mem⟩
  · rw [bandRaises_quiet begins] at mem
    simp at mem

end

/-- Settles O28: stage 3 by the first zone that begins an episode with action SAFE, then stages 4
and 5 where the head is left RUNNING in its step. -/
theorem runningDeliverySetpoints : Obligations.RunningDeliverySetpoints := by
  intro h d s r band config old gauge masked off length n deviates silent deviation begins safes holds
    raises keepsMarks latched command banded
  let b := s.takeUp (.cycleDelivery h d)
  let x := b.latched h d
  let t := b.staged h d false r.skip
  have bandIs : x.bandOf h = band := by
    unfold State.bandOf
    rw [latched_record]
    rfl
  have raisesIs (z : Zone) : x.bandRaises h band z = raises z := by
    by_cases one : silent z
    · exact (bandRaises_silent (s := x) one).trans (if_pos one).symm
    refine Eq.trans ?_ (if_neg one).symm
    by_cases two : deviation z
    · exact (bandRaises_deviation (s := x) two).trans (if_pos two).symm
    · exact (bandRaises_quiet (s := x) fun is => is.elim one two).trans (if_neg two).symm
  have flat (l : List Zone) : l.flatMap (x.bandRaises h band) = l.flatMap raises :=
    List.flatMap_congr fun z _ => raisesIs z
  have resultIs : x.bandResult h =
      (List.finRange 7).foldl (x.bandActs h band) (latched, b.handed) := by
    unfold State.bandResult
    rw [bandIs, latched_record]
    rfl
  have enters : causeEnters .excursion latched.state = true := by
    change causeEnters .excursion r.state = true
    rcases banded with is | is | is <;> rw [is] <;> rfl
  have calm (no : ¬safes) : x.bandResult h =
      (x.bandPaused h band (List.finRange 7) latched,
        b.handed ++ (List.finRange 7).flatMap raises) := by
    have unsafed : ∀ z ∈ List.finRange 7, x.bandBegins h band z → x.bandAction h z ≠ .safe :=
      fun z _ begun safe => no ⟨z, begun, safe⟩
    rw [resultIs, foldl_bandActs_calm unsafed, flat]
  have raised (no : ¬safes) : ((b.latched h d).bandResult h).2 =
      b.handed ++ (List.finRange 7).flatMap raises := congrArg Prod.snd (calm no)
  have held {z : Zone} (begun : begins z) (safe : (config z).bandAction = .safe)
      (first : ∀ y < z, begins y → (config y).bandAction ≠ .safe) :=
    resultIs.trans (foldl_bandActs_safe (s := x) enters begun safe first)
  have pauses (runs : r.state = .running) (no : ¬safes) (is : holds) :
      (x.bandResult h).1 = { latched with state := .paused } := by
    obtain ⟨z, begun, hold⟩ := is
    rw [calm no]
    exact bandPaused_holds (s := x) (r := latched) runs (List.mem_finRange z) begun hold
  have goesOn (no : ¬safes) (unheld : ¬(r.state = .running ∧ holds)) :
      (x.bandResult h).1 = latched := by
    rw [calm no]
    exact bandPaused_not (s := x) (r := latched) fun ⟨runs, z, _, is⟩ => unheld ⟨runs, z, is⟩
  have quiet (none' : r.context = none) (z : Zone) : ¬begins z := by
    have zero : band = 0 := by
      unfold band
      rw [none']
    rintro (⟨on, -⟩ | ⟨⟨on, -⟩, -⟩) <;> exact on zero
  have stops (is : safes) :
      (x.bandResult h).1 = latched.held .excursion (x.safeSubstate h) := by
    obtain ⟨z, ⟨begun, safe⟩, first⟩ := exists_first is
    rw [held begun safe fun y lt begun' safe' => first y lt ⟨begun', safe'⟩]
    exact bandPaused_held (s := x) _ latched _ _
  have either : (∃ c v, r.context = some c ∧ r.state = .running ∧ ¬safes ∧ ¬holds ∧
        RunsStep h d c b v t) ∨
      (StaysStep h d b t ∧
        ¬(r.state = .running ∧ ¬safes ∧ ¬holds ∧ ∃ c, r.context = some c)) := by
    by_cases runs : r.state = .running ∧ ¬safes ∧ ¬holds ∧ ∃ c, r.context = some c
    · obtain ⟨running, no, unheld, c, step⟩ := runs
      obtain ⟨v, taken, -⟩ := staged_runsStep (s := b) (d := d) (h := h) banded
        (goesOn no fun is => unheld is.2) running step r.skip
      exact .inl ⟨c, v, step, running, no, unheld, taken⟩
    · refine .inr ⟨staged_staysStep (s := b) (d := d) banded (fun running => ?_) r.skip, runs⟩
      by_cases is : safes
      · rw [stops is] at running
        exact HeadState.noConfusion running
      by_cases unheld : r.state = .running ∧ holds
      · rw [pauses unheld.1 is unheld.2] at running
        exact HeadState.noConfusion running
      · rw [goesOn is unheld] at running ⊢
        have still : ¬holds := fun holds' => unheld ⟨running, holds'⟩
        by_contra some'
        exact runs ⟨running, is, still, Option.ne_none_iff_exists'.mp some'⟩
  have zt : t.kickPort.zoneOf h = t.zoneOf h := funext fun z => zoneOf_kickPort t h z
  have zonesIs : t.kickPort.zones = t.zones := by simp
  refine ⟨t.kickPort, exec_commandless command, ?_, fun z begun safe first => ?_, fun no => ?_,
    fun is => ?_, fun no runs is => ?_, fun no rests => ?_, fun z => ?_, fun rests z => ?_, ?_,
    fun c runs no unheld step z => ?_, fun i => ?_⟩
  · have only : HeadOnly h b t := by
      obtain ⟨c, v, -, -, -, -, taken⟩ | ⟨stays, -⟩ := either
      · exact taken.headOnly
      · exact stays.headOnly
    exact (only.trans (.kickPort h t)).eq
  · intro held' left
    obtain ⟨c, v, -, -, no, -⟩ | ⟨stays, -⟩ := either
    · exact absurd ⟨z, begun, safe⟩ no
    have state : (x.bandPaused h band ((List.finRange 7).filter (· < z)) latched).state = left := by
      by_cases paused : r.state = .running ∧ held'
      · obtain ⟨runs, y, lt, begun', hold⟩ := paused
        rw [bandPaused_holds (s := x) (r := latched) (z := y) runs (by simpa using lt) begun' hold]
        exact (if_pos ⟨runs, y, lt, begun', hold⟩).symm
      · rw [bandPaused_not (s := x) (r := latched) fun ⟨runs, y, mem, is⟩ =>
          paused ⟨runs, y, by simpa using mem, is⟩]
        exact (if_neg paused).symm
    rw [handed_kickPort, stays.handed, held begun safe first]
    dsimp only
    rw [safeHoldEvents_congr (r' := { r with state := left }) state, flat, flat, raisesIs, zones_upTo,
      List.flatMap_append, List.flatMap_singleton, ← List.append_assoc]
    rfl
  · obtain ⟨c, v, step, running, -, unheld, taken⟩ | ⟨stays, -⟩ := either
    · obtain ⟨later, is, off'⟩ := taken.handed
      refine ⟨saturationsOf h b t ++ later, ?_, fun src d1 d2 mem => ?_, fun rests => ?_⟩
      · rw [handed_kickPort, is, raised no, List.append_assoc]
      · rcases List.mem_append.mp mem with mem | mem
        · obtain ⟨y, -, mem⟩ := List.mem_flatMap.mp mem
          obtain ⟨-, _, _, is⟩ := mem_saturation mem
          simp at is
        · exact (off' _ mem src d1 d2).1 rfl
      · rcases rests with still | is | none'
        · exact absurd running still
        · exact absurd is unheld
        · simp [none'] at step
    · refine ⟨[], ?_, by simp, fun _ => rfl⟩
      rw [handed_kickPort, stays.handed, calm no, List.append_nil]
  · obtain ⟨c, v, -, -, no, -⟩ | ⟨stays, -⟩ := either
    · exact absurd is no
    · rw [heads_kickPort, stays.record, stops is]
      exact congrArg (latched.held .excursion) (safeSubstate_eq x h)
  · obtain ⟨c, v, -, -, -, unheld, -⟩ | ⟨stays, -⟩ := either
    · exact absurd is unheld
    · rw [heads_kickPort, stays.record, pauses runs no is]
  · obtain ⟨c, v, step, running, -⟩ | ⟨stays, -⟩ := either
    · rcases rests with still | none'
      · exact absurd running still
      · simp [none'] at step
    · rw [heads_kickPort, stays.record]
      exact goesOn no fun ⟨runs, y, begun, _⟩ =>
        rests.elim (fun still => still runs) fun none' => quiet none' y begun
  · have monitor := either.elim (fun ⟨_, _, _, _, _, _, taken⟩ => taken.monitor z)
      fun ⟨stays, _⟩ => stays.monitor z
    obtain ⟨cleared, kept, stale⟩ := monitor_marks (s := x) (h := h) bandIs monitor
    rw [zt]
    refine ⟨cleared, fun keeps => ?_, stale⟩
    obtain ⟨more, same, excursion⟩ := kept keeps
    refine ⟨?_, excursion⟩
    by_cases is : deviates z
    · exact (more is).trans (if_pos is).symm
    · exact (same is).trans (if_neg is).symm
  · obtain ⟨c, v, step, running, no, unheld, -⟩ | ⟨stays, -⟩ := either
    · rcases rests with rests | none'
      · exact absurd ⟨running, no, unheld⟩ rests
      · simp [none'] at step
    · rw [zt, heads_kickPort]
      exact stays.whole z
  · intro changes
    obtain ⟨inHand, last, sent, marks⟩ : MarkedBy h b t := by
      obtain ⟨c, v, -, -, -, -, taken⟩ | ⟨stays, -⟩ := either
      · exact taken.marked
      · exact stays.marked
    refine ⟨t, rfl, inHand, last, sent, fun i => (marks i).trans ?_⟩
    refine or_congr Iff.rfl (exists_congr fun z => and_congr_right fun is => ?_)
    unfold changes
    rw [zt, ← is]
    rfl
  · obtain ⟨c', v, step', -, -, -, taken⟩ | ⟨-, rests⟩ := either
    swap
    · exact absurd ⟨runs, no, unheld, c, step⟩ rests
    obtain rfl : c' = c := Option.some.inj (step'.symm.trans step)
    have spelled := taken.spelled z
    have trimIs : ((b.heads.get h).latched d).trims.get z =
        (d.trims.get z).getD (r.trims.get z) := Tab.get_ofFn _ _
    rw [trimIs, ← zt] at spelled
    intro e trim held' goal rate ramped limited
    obtain ⟨setpoint, code, saturated, diffLimited, goes, starts⟩ := spelled
    rw [heads_kickPort]
    refine ⟨setpoint, code.trans (regulatorCode_eq _ _), saturated, ?_, fun more => ?_, starts, ?_⟩
    · rw [diffLimited]
      exact decide_eq_true_iff
    · obtain ⟨ramping, settle⟩ := goes more
      refine ⟨?_, settle.trans ?_⟩
      · rw [ramping]
        exact decide_eq_true_iff
      · refine if_congr ?_ rfl rfl
        simp only [Bool.and_eq_true, Bool.not_eq_true', decide_eq_false_iff_not, not_not]
        rfl
    · intro saturates
      obtain ⟨later, is, off'⟩ := taken.handed
      have handed : t.kickPort.handed =
          b.handed ++ (List.finRange 7).flatMap raises ++ saturationsOf h b t ++ later := by
        rw [handed_kickPort, is, raised no]
      rw [handed]
      refine ⟨fun full => ?_, fun unfull d1 d2 mem => ?_⟩
      · refine List.mem_append_left _ (List.mem_append_right _ ?_)
        rw [zt]
        exact saturation_mem (s := b) (by rw [← zt]; exact full)
      · obtain mem | mem := List.mem_append.mp mem
        · obtain mem | mem := List.mem_append.mp mem
          · obtain mem | mem := List.mem_append.mp mem
            · exact List.mem_of_mem_erase mem
            · obtain ⟨y, -, mem⟩ := List.mem_flatMap.mp mem
              rw [← raisesIs] at mem
              obtain ⟨_, _, _, is⟩ := bandRaises_kind mem
              simp at is
          · refine absurd ?_ unfull
            have full := mem_saturationsOf mem
            rw [← zt] at full
            exact full
        · exact absurd rfl (off' _ mem _ d1 d2).2
  · rw [zonesIs]
    obtain ⟨c, v, -, -, -, -, taken⟩ | ⟨stays, -⟩ := either
    · exact ⟨taken.config i, taken.other⟩
    · exact ⟨stays.config i, stays.other i⟩

end Sys2Proof.Machine
end
